-- ==== Sys2Proof/Word.lean ====
section
/-! DEFINITION. The byte of the link and of the page DRAM, the line of dots, and the plainest arithmetic of the manual. -/

namespace Sys2Proof

/-- A byte of a frame, of a record or of the page DRAM. -/
abbrev Byte := BitVec 8

/-- A line of dots from dot 0, left to right; `true` is black (00_scope.md, "Black and white"). -/
abbrev Line := List Bool

/-- Rounded-up division, where the manual writes ceil. -/
def ceilDiv (a b : Nat) : Nat := (a + b - 1) / b

/-- A count that saturates at `top`. -/
def satAdd (top a b : Nat) : Nat := min top (a + b)

/-- Replace entry `i` of a list by `f` of it; a list without that entry is unchanged. -/
def modifyAt {α : Type} (i : Nat) (f : α → α) : List α → List α
  | [] => []
  | x :: xs =>
    match i with
    | 0 => f x :: xs
    | k + 1 => x :: modifyAt k f xs

end Sys2Proof
end

