-- ==== Sys2Proof/Syntax.lean ====
section
/-! DEFINITION. The steps of the part: one constructor of `Instr` for each row of spec/opcode_table.json, with what
the outside world gives at that step. -/

namespace Sys2Proof

/-- The two feed motors (06_feed_motion_and_paper_handling.md). -/
inductive Motor | scan | print
  deriving DecidableEq, Repr

/-- The three PWM generators (R133). -/
inductive Pwm | scanMotor | printMotor | lamp
  deriving DecidableEq, Repr

/-- DRAM addresses whose byte fails parity on the first read of a record, and those that fail on its reread (R19). -/
structure ParityFaults where
  first  : List Nat
  reread : List Nat
  deriving DecidableEq, Repr

/-- What a SEND-CREDIT brings: its credit count (R78), and the parity condition of the DRAM that the reads it starts meet
(R19, log 9). -/
structure CreditGrant where
  count  : BitVec 16
  faults : ParityFaults
  deriving DecidableEq, Repr

/-- What the first byte of a block holds when the alias test reads it back (R170); `other` takes in a parity error. -/
inductive TagRead | tag0 | tag512 | tag1024 | other
  deriving DecidableEq, Repr

/-- The debounced levels (R82, R134): a sheet at DOC-ENTRY, a sheet at DOC-READ, paper present, cover open, cutter home,
WAKE-KEY pressed. -/
structure Levels where
  docEntry   : Bool
  docRead    : Bool
  paper      : Bool
  coverOpen  : Bool
  cutterHome : Bool
  wakeKey    : Bool
  deriving DecidableEq, Repr

/-- How the write and read-back of the EEPROM image ended (R187): verified, or failed with the EEPROM left holding
`left` (R187, "may be partly written"). -/
inductive StoreResult
  | verified
  | failed (left : List Byte)
  deriving DecidableEq, Repr

/-- The steps. The first 34 are the commands of 10.11 with their parameter bytes (R205); SEND-CREDIT also with what
its reads meet. -/
inductive Instr
  | ping (b0 b1 b2 b3 : Byte)
  | getEvents (includeMasked : Byte)
  | eventMask (masks : BitVec 16)
  | docCreate (origin resolution width : Byte)
  | docClose (document : Byte)
  | docDelete (document : Byte)
  | docInfo (document : Byte)
  | docList
  | pageInfo (document index : Byte)
  | pageDrop (document index : Byte)
  | storeStatus
  | jobStart (kind document priority options scanMode firstPage lastPage copies : Byte)
  | jobAnswer (job choice : Byte)
  | jobHold (job : Byte)
  | jobResume (job : Byte)
  | jobAbort (job : Byte)
  | jobStatus (job : Byte)
  | sendCredit (job : Byte) (count : CreditGrant)
  | scanCalibrate
  | docEject
  | paperAdvance (steps : BitVec 16)
  | cut
  | sensorRead
  | modeSet (mode : Byte)
  | alarmSet (seconds : BitVec 24)
  | alarmRead
  | settingGet (id : Byte)
  | settingSet (id : Byte) (value : BitVec 16)
  | settingsStore
  | settingsDefault (option : Byte)
  | settingsProtect
  | bootReport
  | clearCauses
  | restart
  /-- A COMMAND frame whose payload spells no command with its parameters (R195). -/
  | unknownCommand (payload : List Byte)
  | frameReceived
  | frameGapTimeout
  | dataInRouting
  | receivedLineRecord
  | receivedPageBegin
  | receivedPageEnd
  | undelimitableItem
  | replySent
  /-- `faults`: the parity condition of the DRAM that the reads of this step meet (R19, log 9). -/
  | dataOutSent (faults : ParityFaults)
  | scanLineEntryAdmit
  /-- `raw`: the 1728 raw samples of the line (R88). -/
  | scanLineCaptured (raw : List Byte)
  | spanCodeLine
  | scanInTakeRecord
  | lampWarm
  /-- `raw`: the 1728 raw samples of the calibration line (R97). -/
  | calibrationCaptureEnd (raw : List Byte)
  | motionBegin (motor : Motor)
  | feedStep (motor : Motor)
  | motorRest (motor : Motor)
  | energizingEnd (motor : Motor)
  | holdDelayExpiry (motor : Motor)
  | offDelayExpiry (motor : Motor)
  | pwmPeriodEnd (generator : Pwm)
  | docEntryChange (sheet : Bool)
  | docReadChange (sheet : Bool)
  | paperChange (present : Bool)
  | coverChange (opened : Bool)
  | cutterHomeChange (home : Bool)
  | wakeKeyChange (pressed : Bool)
  | cutterTimeout
  /-- `thermistor`, `supply`: the pair of samples of the offer (R103); `faults` as in `dataOutSent`. -/
  | printLineOffer (thermistor supply : Byte) (faults : ParityFaults)
  | strobeSubpulseEnd
  | headTimerLimit
  | headReady
  | converterTimedSample (thermistor supply : Byte)
  | idleCountExpiry
  | dozeCountExpiry
  | linkReceiveEdge
  | wakingEnd
  | ringPulse
  | ringBurstEnd
  | ringGapExpiry
  | alarmExpiry
  | silenceFirstExpiry
  | silenceSecondExpiry
  | hostrstPulseEnd
  /-- `low`: the battery monitor reads LOW (R165). -/
  | batteryCheck (low : Bool)
  | powerOnReset
  | supplyDropReset
  | supplyBelowPowerOff
  | pinReset
  /-- The battery monitor's reading, whether the retention SRAM's marker pattern came through a battery-only period, and the two
  strap pins (R166, R167, R190; log 26). -/
  | resetEnd (batteryLow sramHeld firstStrap secondStrap : Bool)
  /-- `answers`: the EEPROM gives an answer (R168). -/
  | settingsPhaseEnd (answers : Bool)
  /-- The tags read back at blocks 0 and 512 and the failing blocks of the memory test, for a FRESH build (R170, R171); the
  parity condition, for a REBUILT store (R173). -/
  | memoryPhaseEnd (block0 block512 : TagRead) (failing : List Nat) (faults : ParityFaults)
  | mechanismPhaseEnd
  | settingsStoreEnd (result : StoreResult)
  /-- A byte on the link, and whether it came without its stop bit (R190). -/
  | linkByteReceived (byte : Byte) (framingFault : Bool)
  | mechanismLevelsTaken (levels : Levels)
  deriving DecidableEq, Repr

end Sys2Proof
end

