-- ==== Sys2Proof/Decode.lean ====
section
/-! DEFINITION. The commands as their COMMAND payloads spell them (R205, 10.11), both ways, and the host's reading of a table word. -/

namespace Sys2Proof

/-- The opcode table gives no row any bits (log 33): no word spells a step. -/
def decodeTableWord (_nbits _w : Nat) : Option Instr := none

/-- The code of a command (10.11); a step that is no command has none. -/
def commandCode : Instr → Option Nat
  | .ping _ _ _ _ => some 0x01
  | .getEvents _ => some 0x02
  | .eventMask _ => some 0x03
  | .docCreate _ _ _ => some 0x10
  | .docClose _ => some 0x11
  | .docDelete _ => some 0x12
  | .docInfo _ => some 0x13
  | .docList => some 0x14
  | .pageInfo _ _ => some 0x15
  | .pageDrop _ _ => some 0x16
  | .storeStatus => some 0x17
  | .jobStart _ _ _ _ _ _ _ _ => some 0x20
  | .jobAnswer _ _ => some 0x21
  | .jobHold _ => some 0x22
  | .jobResume _ => some 0x23
  | .jobAbort _ => some 0x24
  | .jobStatus _ => some 0x25
  | .sendCredit _ _ => some 0x26
  | .scanCalibrate => some 0x30
  | .docEject => some 0x31
  | .paperAdvance _ => some 0x32
  | .cut => some 0x33
  | .sensorRead => some 0x34
  | .modeSet _ => some 0x40
  | .alarmSet _ => some 0x41
  | .alarmRead => some 0x42
  | .settingGet _ => some 0x50
  | .settingSet _ _ => some 0x51
  | .settingsStore => some 0x52
  | .settingsDefault _ => some 0x53
  | .settingsProtect => some 0x54
  | .bootReport => some 0x60
  | .clearCauses => some 0x61
  | .restart => some 0x62
  | .unknownCommand _ => none
  | .frameReceived => none
  | .frameGapTimeout => none
  | .dataInRouting => none
  | .receivedLineRecord => none
  | .receivedPageBegin => none
  | .receivedPageEnd => none
  | .undelimitableItem => none
  | .replySent => none
  | .dataOutSent _ => none
  | .scanLineEntryAdmit => none
  | .scanLineCaptured _ => none
  | .spanCodeLine => none
  | .scanInTakeRecord => none
  | .lampWarm => none
  | .calibrationCaptureEnd _ => none
  | .motionBegin _ => none
  | .feedStep _ => none
  | .motorRest _ => none
  | .energizingEnd _ => none
  | .holdDelayExpiry _ => none
  | .offDelayExpiry _ => none
  | .pwmPeriodEnd _ => none
  | .docEntryChange _ => none
  | .docReadChange _ => none
  | .paperChange _ => none
  | .coverChange _ => none
  | .cutterHomeChange _ => none
  | .wakeKeyChange _ => none
  | .cutterTimeout => none
  | .printLineOffer _ _ _ => none
  | .strobeSubpulseEnd => none
  | .headTimerLimit => none
  | .headReady => none
  | .converterTimedSample _ _ => none
  | .idleCountExpiry => none
  | .dozeCountExpiry => none
  | .linkReceiveEdge => none
  | .wakingEnd => none
  | .ringPulse => none
  | .ringBurstEnd => none
  | .ringGapExpiry => none
  | .alarmExpiry => none
  | .silenceFirstExpiry => none
  | .silenceSecondExpiry => none
  | .hostrstPulseEnd => none
  | .batteryCheck _ => none
  | .powerOnReset => none
  | .supplyDropReset => none
  | .supplyBelowPowerOff => none
  | .pinReset => none
  | .resetEnd _ _ _ _ => none
  | .settingsPhaseEnd _ => none
  | .memoryPhaseEnd _ _ _ _ => none
  | .mechanismPhaseEnd => none
  | .settingsStoreEnd _ => none
  | .linkByteReceived _ _ => none
  | .mechanismLevelsTaken _ => none

/-- A field of two bytes, most significant first (R205). -/
def field2 (v : BitVec 16) : List Byte := [v.extractLsb' 8 8, v.extractLsb' 0 8]
/-- A field of three bytes, most significant first (R205). -/
def field3 (v : BitVec 24) : List Byte := [v.extractLsb' 16 8, v.extractLsb' 8 8, v.extractLsb' 0 8]

/-- The parameter bytes of a command (R205). -/
def commandParams : Instr → List Byte
  | .ping b0 b1 b2 b3 => [b0, b1, b2, b3]
  | .getEvents f => [f]
  | .eventMask m => field2 m
  | .docCreate o r w => [o, r, w]
  | .docClose d => [d]
  | .docDelete d => [d]
  | .docInfo d => [d]
  | .pageInfo d p => [d, p]
  | .pageDrop d p => [d, p]
  | .jobStart k d p o m f l n => [k, d, p, o, m, f, l, n]
  | .jobAnswer j h => [j, h]
  | .jobHold j => [j]
  | .jobResume j => [j]
  | .jobAbort j => [j]
  | .jobStatus j => [j]
  | .sendCredit j n => [j] ++ field2 n.count
  | .paperAdvance n => field2 n
  | .modeSet m => [m]
  | .alarmSet n => field3 n
  | .settingGet i => [i]
  | .settingSet i v => [i] ++ field2 v
  | .settingsDefault o => [o]
  | .docList => []
  | .storeStatus => []
  | .scanCalibrate => []
  | .docEject => []
  | .cut => []
  | .sensorRead => []
  | .alarmRead => []
  | .settingsStore => []
  | .settingsProtect => []
  | .bootReport => []
  | .clearCauses => []
  | .restart => []
  | .unknownCommand _ => []
  | .frameReceived => []
  | .frameGapTimeout => []
  | .dataInRouting => []
  | .receivedLineRecord => []
  | .receivedPageBegin => []
  | .receivedPageEnd => []
  | .undelimitableItem => []
  | .replySent => []
  | .dataOutSent _ => []
  | .scanLineEntryAdmit => []
  | .scanLineCaptured _ => []
  | .spanCodeLine => []
  | .scanInTakeRecord => []
  | .lampWarm => []
  | .calibrationCaptureEnd _ => []
  | .motionBegin _ => []
  | .feedStep _ => []
  | .motorRest _ => []
  | .energizingEnd _ => []
  | .holdDelayExpiry _ => []
  | .offDelayExpiry _ => []
  | .pwmPeriodEnd _ => []
  | .docEntryChange _ => []
  | .docReadChange _ => []
  | .paperChange _ => []
  | .coverChange _ => []
  | .cutterHomeChange _ => []
  | .wakeKeyChange _ => []
  | .cutterTimeout => []
  | .printLineOffer _ _ _ => []
  | .strobeSubpulseEnd => []
  | .headTimerLimit => []
  | .headReady => []
  | .converterTimedSample _ _ => []
  | .idleCountExpiry => []
  | .dozeCountExpiry => []
  | .linkReceiveEdge => []
  | .wakingEnd => []
  | .ringPulse => []
  | .ringBurstEnd => []
  | .ringGapExpiry => []
  | .alarmExpiry => []
  | .silenceFirstExpiry => []
  | .silenceSecondExpiry => []
  | .hostrstPulseEnd => []
  | .batteryCheck _ => []
  | .powerOnReset => []
  | .supplyDropReset => []
  | .supplyBelowPowerOff => []
  | .pinReset => []
  | .resetEnd _ _ _ _ => []
  | .settingsPhaseEnd _ => []
  | .memoryPhaseEnd _ _ _ _ => []
  | .mechanismPhaseEnd => []
  | .settingsStoreEnd _ => []
  | .linkByteReceived _ _ => []
  | .mechanismLevelsTaken _ => []

/-- A COMMAND payload: the code byte and the parameter bytes (R205). -/
def encodeCommand (i : Instr) : List Byte :=
  match i with
  | .unknownCommand payload => payload
  | .ping _ _ _ _ => 0x01 :: commandParams i
  | .getEvents _ => 0x02 :: commandParams i
  | .eventMask _ => 0x03 :: commandParams i
  | .docCreate _ _ _ => 0x10 :: commandParams i
  | .docClose _ => 0x11 :: commandParams i
  | .docDelete _ => 0x12 :: commandParams i
  | .docInfo _ => 0x13 :: commandParams i
  | .docList => 0x14 :: commandParams i
  | .pageInfo _ _ => 0x15 :: commandParams i
  | .pageDrop _ _ => 0x16 :: commandParams i
  | .storeStatus => 0x17 :: commandParams i
  | .jobStart _ _ _ _ _ _ _ _ => 0x20 :: commandParams i
  | .jobAnswer _ _ => 0x21 :: commandParams i
  | .jobHold _ => 0x22 :: commandParams i
  | .jobResume _ => 0x23 :: commandParams i
  | .jobAbort _ => 0x24 :: commandParams i
  | .jobStatus _ => 0x25 :: commandParams i
  | .sendCredit _ _ => 0x26 :: commandParams i
  | .scanCalibrate => 0x30 :: commandParams i
  | .docEject => 0x31 :: commandParams i
  | .paperAdvance _ => 0x32 :: commandParams i
  | .cut => 0x33 :: commandParams i
  | .sensorRead => 0x34 :: commandParams i
  | .modeSet _ => 0x40 :: commandParams i
  | .alarmSet _ => 0x41 :: commandParams i
  | .alarmRead => 0x42 :: commandParams i
  | .settingGet _ => 0x50 :: commandParams i
  | .settingSet _ _ => 0x51 :: commandParams i
  | .settingsStore => 0x52 :: commandParams i
  | .settingsDefault _ => 0x53 :: commandParams i
  | .settingsProtect => 0x54 :: commandParams i
  | .bootReport => 0x60 :: commandParams i
  | .clearCauses => 0x61 :: commandParams i
  | .restart => 0x62 :: commandParams i
  | .frameReceived => []
  | .frameGapTimeout => []
  | .dataInRouting => []
  | .receivedLineRecord => []
  | .receivedPageBegin => []
  | .receivedPageEnd => []
  | .undelimitableItem => []
  | .replySent => []
  | .dataOutSent _ => []
  | .scanLineEntryAdmit => []
  | .scanLineCaptured _ => []
  | .spanCodeLine => []
  | .scanInTakeRecord => []
  | .lampWarm => []
  | .calibrationCaptureEnd _ => []
  | .motionBegin _ => []
  | .feedStep _ => []
  | .motorRest _ => []
  | .energizingEnd _ => []
  | .holdDelayExpiry _ => []
  | .offDelayExpiry _ => []
  | .pwmPeriodEnd _ => []
  | .docEntryChange _ => []
  | .docReadChange _ => []
  | .paperChange _ => []
  | .coverChange _ => []
  | .cutterHomeChange _ => []
  | .wakeKeyChange _ => []
  | .cutterTimeout => []
  | .printLineOffer _ _ _ => []
  | .strobeSubpulseEnd => []
  | .headTimerLimit => []
  | .headReady => []
  | .converterTimedSample _ _ => []
  | .idleCountExpiry => []
  | .dozeCountExpiry => []
  | .linkReceiveEdge => []
  | .wakingEnd => []
  | .ringPulse => []
  | .ringBurstEnd => []
  | .ringGapExpiry => []
  | .alarmExpiry => []
  | .silenceFirstExpiry => []
  | .silenceSecondExpiry => []
  | .hostrstPulseEnd => []
  | .batteryCheck _ => []
  | .powerOnReset => []
  | .supplyDropReset => []
  | .supplyBelowPowerOff => []
  | .pinReset => []
  | .resetEnd _ _ _ _ => []
  | .settingsPhaseEnd _ => []
  | .memoryPhaseEnd _ _ _ _ => []
  | .mechanismPhaseEnd => []
  | .settingsStoreEnd _ => []
  | .linkByteReceived _ _ => []
  | .mechanismLevelsTaken _ => []

/-- The command a code names, with its parameter bytes; none where they do not number what the command takes (R195). -/
def commandOf (code : Nat) (params : List Byte) : Option Instr :=
  match code with
  | 0x01 => match params with | [b0, b1, b2, b3] => some (.ping b0 b1 b2 b3) | _ => none
  | 0x02 => match params with | [f] => some (.getEvents f) | _ => none
  | 0x03 => match params with | [m0, m1] => some (.eventMask (m0 ++ m1)) | _ => none
  | 0x10 => match params with | [o, r, w] => some (.docCreate o r w) | _ => none
  | 0x11 => match params with | [d] => some (.docClose d) | _ => none
  | 0x12 => match params with | [d] => some (.docDelete d) | _ => none
  | 0x13 => match params with | [d] => some (.docInfo d) | _ => none
  | 0x14 => match params with | [] => some .docList | _ => none
  | 0x15 => match params with | [d, p] => some (.pageInfo d p) | _ => none
  | 0x16 => match params with | [d, p] => some (.pageDrop d p) | _ => none
  | 0x17 => match params with | [] => some .storeStatus | _ => none
  | 0x20 => match params with | [k, d, p, o, m, f, l, n] => some (.jobStart k d p o m f l n) | _ => none
  | 0x21 => match params with | [j, h] => some (.jobAnswer j h) | _ => none
  | 0x22 => match params with | [j] => some (.jobHold j) | _ => none
  | 0x23 => match params with | [j] => some (.jobResume j) | _ => none
  | 0x24 => match params with | [j] => some (.jobAbort j) | _ => none
  | 0x25 => match params with | [j] => some (.jobStatus j) | _ => none
  | 0x26 => match params with | [j, n0, n1] => some (.sendCredit j ⟨n0 ++ n1, ⟨[], []⟩⟩) | _ => none
  | 0x30 => match params with | [] => some .scanCalibrate | _ => none
  | 0x31 => match params with | [] => some .docEject | _ => none
  | 0x32 => match params with | [n0, n1] => some (.paperAdvance (n0 ++ n1)) | _ => none
  | 0x33 => match params with | [] => some .cut | _ => none
  | 0x34 => match params with | [] => some .sensorRead | _ => none
  | 0x40 => match params with | [m] => some (.modeSet m) | _ => none
  | 0x41 => match params with | [n0, n1, n2] => some (.alarmSet (n0 ++ n1 ++ n2)) | _ => none
  | 0x42 => match params with | [] => some .alarmRead | _ => none
  | 0x50 => match params with | [i] => some (.settingGet i) | _ => none
  | 0x51 => match params with | [i, v0, v1] => some (.settingSet i (v0 ++ v1)) | _ => none
  | 0x52 => match params with | [] => some .settingsStore | _ => none
  | 0x53 => match params with | [o] => some (.settingsDefault o) | _ => none
  | 0x54 => match params with | [] => some .settingsProtect | _ => none
  | 0x60 => match params with | [] => some .bootReport | _ => none
  | 0x61 => match params with | [] => some .clearCauses | _ => none
  | 0x62 => match params with | [] => some .restart | _ => none
  | _ => none

/-- A command as its frame spells it: what the outside world adds at the step is no part of the frame (log 9). -/
def Instr.asSent (i : Instr) : Instr :=
  match i with
  | .sendCredit job count => .sendCredit job { count with faults := ⟨[], []⟩ }
  | _ => i

/-- What a COMMAND payload spells: a command with its parameters, or `unknownCommand` (R195). -/
def decodeCommand (payload : List Byte) : Instr :=
  match payload with
  | [] => .unknownCommand []
  | code :: params => (commandOf code.toNat params).getD (.unknownCommand (code :: params))

/-- The codes of the 34 commands (10.11). -/
def commandCodes : List Nat :=
  [0x01, 0x02, 0x03, 0x10, 0x11, 0x12, 0x13, 0x14, 0x15, 0x16, 0x17, 0x20, 0x21, 0x22, 0x23, 0x24, 0x25,
   0x26, 0x30, 0x31, 0x32, 0x33, 0x34, 0x40, 0x41, 0x42, 0x50, 0x51, 0x52, 0x53, 0x54, 0x60, 0x61, 0x62]

end Sys2Proof
end

