-- ==== Sys2Proof/Config.lean ====
section
/-! DEFINITION. The fixed capacities of the part, and what the model takes where the manual gives no value. -/

namespace Sys2Proof.Config

/-- Bytes of a DRAM block (R1). -/
def blockBytes : Nat := 2048
/-- Slots of the page table (R4). -/
def pageSlots : Nat := 256
/-- Slots of the document directory (R6). -/
def documentSlots : Nat := 32
/-- Pages of one document (R6, R7). -/
def pagesPerDocument : Nat := 64
/-- Job slots (R48). -/
def jobSlots : Nat := 4
/-- Slots of the scan line buffer (R92). -/
def lineSlots : Nat := 16
/-- Entries of a motion queue (R123). -/
def queueEntries : Nat := 8
/-- Pixels of the sensor and dots of the head (R45, R89). -/
def headDots : Nat := 1728
/-- Bytes of the inbound buffer (R193). -/
def inboundBytes : Nat := 4096
/-- Bytes of the inbound buffer kept for COMMAND frames (R193). -/
def commandReserve : Nat := 64
/-- HOLD is asserted below this many free bytes (R193). -/
def holdBelow : Nat := 1094
/-- The largest payload (R191). -/
def maxPayload : Nat := 1024
/-- Bytes of the EEPROM image (R186). -/
def imageBytes : Nat := 512
/-- DESIGN CHOICE (log 6), unsafe: what a byte of page DRAM that nothing has written reads as. -/
def dramFill : Byte := 0xFF

end Sys2Proof.Config
end

