-- ==== Sys2Proof/Machine/Types.lean ====
section
/-! DEFINITION. The records the blocks of the part keep: plain data, one type per record of the manual. -/

namespace Sys2Proof.Machine

/-! ## The page store (01_the_page_store.md) -/

/-- R4 and the resolution table of 00_scope.md. -/
inductive Resolution | standard | fine | superfine
  deriving DecidableEq, Repr

/-- The two page widths. -/
inductive PageWidth | w1728 | w2048
  deriving DecidableEq, Repr

/-- R1. -/
inductive BlockState | free | used | suspect | bad
  deriving DecidableEq, Repr

/-- A block map entry (R1); `next = none` is END. -/
structure Block where
  state : BlockState
  next  : Option Nat
  owner : Nat
  deriving DecidableEq, Repr

/-- R5. -/
inductive PageState | empty | filling | complete | truncated | damaged
  deriving DecidableEq, Repr

/-- A page-table slot (R4). `part`: bytes at the chain's end of a record that was not committed (R9, R10), past the committed extent;
`frontFreed`: a block of the page has been freed behind its readers; `fullyConsumed`: a reader has consumed it whole while it was
marked free-as-read (the conditions of R12 and R16). -/
structure Page where
  state      : PageState
  document   : Nat
  firstBlock : Nat
  lastBlock  : Nat
  blockCount : Nat
  bytesUsed  : Nat
  part       : Nat
  committed  : Nat
  resolution : Resolution
  width      : PageWidth
  concealed  : Nat
  dropped    : Nat
  clamped    : Nat
  freeAsRead : Bool
  printCount : Nat
  readers    : Nat
  frontFreed : Bool
  fullyConsumed : Bool
  deriving DecidableEq, Repr

/-- R6. -/
inductive Origin | scan | receive | copy
  deriving DecidableEq, Repr

/-- R6. -/
inductive DocState | empty | opened | closed
  deriving DecidableEq, Repr

/-- A directory slot (R6); `writer` is a job id. -/
structure Document where
  state       : DocState
  origin      : Origin
  pages       : List Nat
  resolution  : Resolution
  width       : PageWidth
  writer      : Option Nat
  users       : Nat
  interrupted : Bool
  deriving DecidableEq, Repr

/-- A place in a page's chain: offset 2048 is the end of `block` before its next pointer is followed (R13); `unchecked` says the
block was named by a pointer that has not been checked yet (R21). -/
structure Cursor where
  block     : Nat
  offset    : Nat
  unchecked : Bool
  deriving DecidableEq, Repr

/-- A line a reader has handed on and not consumed (R13, R14): its number, image, record bytes as sent (R47), and the place
just past it. -/
structure ReadLine where
  line   : Nat
  image  : Line
  record : List Byte
  after  : Cursor
  deriving DecidableEq, Repr

/-- A reader channel's position (R12). `slot = none`: the reader is on no page; `ended`: it ends its page after the lines it has
read (R11, R20, R21). -/
structure Reader where
  document     : Nat
  pageIndex    : Nat
  slot         : Option Nat
  ended        : Bool
  readLine     : Nat
  readAt       : Cursor
  consumedLine : Nat
  consumedAt   : Cursor
  lastRead     : Line
  lastConsumed : Line
  inFlight     : List ReadLine
  deriving DecidableEq, Repr

/-- The rest of a record held in a writer's channel while it waits for a block (R9); `conceals`: the record stands for an
unusable one, and its commit raises the concealed counts (R39). -/
structure Held where
  rest     : List Byte
  conceals : Bool
  deriving DecidableEq, Repr

/-- SCAN-IN: the page it writes and the record it holds (R7 to R9). -/
structure ScanIn where
  slot : Option Nat
  held : Option Held
  deriving DecidableEq, Repr

/-- R37. -/
inductive Reception | noPage | receiving | waiting | discarding
  deriving DecidableEq, Repr

/-- A judged DATA-IN frame of the channel queue (R194): the payload not yet taken and the buffer bytes it holds. -/
structure ChannelFrame where
  rest : List Byte
  size : Nat
  deriving DecidableEq, Repr

/-- LINK-IN, which exists while a RECEIVE job holds the engine (R37, R194). -/
structure LinkIn where
  reception : Reception
  width     : PageWidth
  slot      : Option Nat
  held      : Option Held
  queue     : List ChannelFrame
  deriving DecidableEq, Repr

/-- A request that waits for room (R9, R67). -/
inductive Waiter | scanRecord | linkRecord | pageStart
  deriving DecidableEq, Repr

/-- Why a page start is refused or a writer waits (R7, R18). -/
inductive FullReason | blocks | pages | docPages
  deriving DecidableEq, Repr

/-- The Page Store Controller. Block map, page table, directory, size and marker lie in the retention domain. -/
structure Store where
  blocks    : List Block
  pages     : List Page
  documents : List Document
  sizeMb    : Nat
  low       : Bool
  recovered : Nat
  waiters   : List Waiter
  scanIn    : ScanIn
  linkIn    : Option LinkIn
  printOut  : Reader
  linkOut   : Reader
  deriving DecidableEq, Repr

/-! ## Work orders (03_work_orders.md) -/

inductive JobKind | scan | print | receive | send | copy
  deriving DecidableEq, Repr

inductive ScanMode | text | photo
  deriving DecidableEq, Repr

/-- R56. -/
inductive JobState | waiting | running | holding | held | boundary
  deriving DecidableEq, Repr

/-- The boundary table of 3.8. -/
inductive BoundaryCode
  | scMore | scLast | scFull | scJam | prMore | prLast | prPaper | prCut | rxFull | txMore | txLast | cpDone
  deriving DecidableEq, Repr

/-- The reasons and causes of a code (R80). -/
inductive Reason | blocks | pages | docPages | pick | long | paper | cover | cutter
  deriving DecidableEq, Repr

/-- A boundary code with its detail (R63, R80); `midPage` is the place of SC-FULL. -/
structure Boundary where
  code    : BoundaryCode
  reason  : Option Reason
  midPage : Option Bool
  deriving DecidableEq, Repr

/-- The pending stop of a HOLDING job (R57). -/
inductive Stop | hold | code (b : Boundary)
  deriving DecidableEq, Repr

/-- Choices of JOB-ANSWER (11.1). -/
inductive Choice | next | finish | repeatPage | resume | retry | wait | drop
  deriving DecidableEq, Repr

/-- R62. -/
inductive FinalStatus | completed | dropped | aborted
  deriving DecidableEq, Repr

/-- A job record (R48). `starvedWrite` and `starvedRead` are STARVED of the scan or writer side and of the print or reader
side (R56). `pageRemoved`, `rangeDone` (R16, R68) and `compareDue` (R55) are the model's own marks (log 14). The thermal and supply
sub-conditions, the engines held and the current line are computed from the holds, the engines and the channels (R48, R56). -/
structure Job where
  id              : Nat
  kind            : JobKind
  document        : Nat
  priority        : Nat
  holdAtBoundary  : Bool
  freeAsRead      : Bool
  scanMode        : Option ScanMode
  firstPage       : Nat
  lastPage        : Nat
  copies          : Nat
  currentCopy     : Nat
  currentPage     : Nat
  scanPage        : Nat
  state           : JobState
  starvedWrite    : Bool
  starvedRead     : Bool
  sheetWait       : Bool
  noCredit        : Bool
  pendingStop     : Option Stop
  boundary        : Option Boundary
  startOrder      : Nat
  pagesDone       : Nat
  linesDone       : Nat
  concealed       : Nat
  dropped         : Nat
  discardedFrames : Nat
  credit          : Nat
  pageRemoved     : Bool
  rangeDone       : Bool
  compareDue      : Bool
  deriving DecidableEq, Repr

/-- R50. -/
inductive Engine | scanner | printer | linkIn | linkOut
  deriving DecidableEq, Repr

/-- The internal operations of R53; `cutCycle` is an ended job's cut cycle (R129). -/
inductive InternalOp | calibrate | eject | advance | cut | drain | cutCycle | frameSending
  deriving DecidableEq, Repr

/-- Who holds an engine (R53): nobody, the job in a slot, or internal operations. -/
inductive Holder | free | job (slot : Nat) | internal (ops : List InternalOp)
  deriving DecidableEq, Repr

/-- One value for each engine. -/
structure Engines (α : Type) where
  scanner : α
  printer : α
  linkIn  : α
  linkOut : α
  deriving DecidableEq, Repr

/-- What the print side of the job that holds the PRINTER is doing (R68, R71, R140). -/
inductive PrintPhase
  /-- no job holds the PRINTER, or its print side has nothing to do -/
  | off
  /-- the job's current page is to begin (R68, R71) -/
  | needPage
  /-- the reader hands lines on (R13, R105) -/
  | printing
  /-- the reader is at its page's end; lines handed on are not all consumed -/
  | readDone
  /-- all lines are consumed and the page is being cut (R140) -/
  | cutting
  /-- the page is cut: PR-MORE, PR-LAST or the next page (R68, R71) -/
  | pageCut
  /-- the last page of the last copy of a COPY is cut: CP-DONE (R71) -/
  | copiesDone
  deriving DecidableEq, Repr

/-- The cut stage of a page (R140). -/
inductive CutStage
  | start
  /-- offset steps still to be offered as one RUN entry -/
  | offset (steps : Nat)
  /-- the offset is admitted; the cycle begins when the feed rests -/
  | resting
  | cycle
  | done
  deriving DecidableEq, Repr

/-- A stored line being split into physical lines (R46): its page's slot, whether that page has been discarded since (R11), its image
already reduced (R45), the physical lines still to be offered, and the feed steps of each. -/
structure StoredLine where
  page      : Nat
  discarded : Bool
  line      : Nat
  image     : Line
  remaining : Nat
  steps     : Nat
  deriving DecidableEq, Repr

/-- The print side (R46, R68, R140). -/
structure PrintSide where
  phase : PrintPhase
  line  : Option StoredLine
  cut   : CutStage
  deriving DecidableEq, Repr

/-- What the send side of the job that holds LINK-OUT is doing (R76, R77). -/
inductive SendPhase
  | off
  | needPage
  /-- PAGE-BEGIN, then records, then PAGE-END are due -/
  | sending
  /-- the frame with PAGE-END is handed over and not sent -/
  | closing
  /-- the frame with PAGE-END has been sent: TX-MORE or TX-LAST -/
  | pageSent
  deriving DecidableEq, Repr

/-- The send side: the frame under assembly and the record read and not yet placed (R77). -/
structure SendSide where
  phase      : SendPhase
  beginDue   : Bool
  frame      : List Byte
  frameLines : List ReadLine
  due        : Option ReadLine
  deriving DecidableEq, Repr

/-- The Work Order Controller (R48, R49, R53). -/
structure WorkOrders where
  slots      : List (Option Job)
  nextId     : Nat
  startCount : Nat
  holders    : Engines Holder
  waits      : Engines (List Nat)
  print      : PrintSide
  send       : SendSide
  deriving DecidableEq, Repr

/-! ## The scanning path (04_the_scanning_path.md) -/

/-- R92. -/
inductive LineSlot
  | free
  | reserved (line : Nat)
  | captured (line : Nat) (image : Line)
  /-- `taken`: SCAN-IN holds the record while it waits for a block (R93) -/
  | coded (line : Nat) (record : List Byte) (taken : Bool)
  deriving DecidableEq, Repr

/-- A capture in progress (R88). -/
structure Capture where
  line  : Nat
  since : Nat
  deriving DecidableEq, Repr

/-- The span coder: its previous line and the line it takes next, set at each page start and kept until the next (R35). -/
structure Coder where
  previous : Line
  line     : Nat
  deriving DecidableEq, Repr

/-- R98. -/
inductive CalStatus | uncalibrated | good | poor
  deriving DecidableEq, Repr

/-- The stages of a calibration (R97). -/
inductive CalStage | dark | warming | white
  deriving DecidableEq, Repr

/-- A calibration in progress (R97): lines captured in the stage, the sums of raw samples, when the present capture began. -/
structure Calibration where
  stage    : CalStage
  lines    : Nat
  sums     : List Nat
  darkSums : List Nat
  since    : Nat
  startUp  : Bool
  deriving DecidableEq, Repr

/-- What follows a job's eject that is not part of a page end (R67, R73, R100). -/
inductive AfterEject | endDropped | endCompleted | endScanSide
  deriving DecidableEq, Repr

/-- What the scan side of the job that holds the SCANNER is doing (R65, R84 to R86). -/
inductive ScanPhase
  | off
  /-- the next page is to begin: a sheet is looked for (R65) -/
  | look
  /-- the same, after a page of a COPY: an empty tray ends the scan side (R71) -/
  | lookMore
  /-- the page start was first refused for `reason`, and waits for room or an answer (R67, R72) -/
  | startWait (reason : FullReason)
  /-- the page is started; the lamp warms before the pick (R83) -/
  | warming
  | pick
  /-- from the leading edge to the rest after the eject (R85, R86) -/
  | lines
  /-- the page has ended and the feed rests after the eject: SC-MORE or SC-LAST (R65) -/
  | pageDone
  /-- a job's eject after a store-full answer or an SC-JAM (R100) -/
  | eject
  /-- the page was abandoned by SC-JAM (R65) -/
  | jammed
  /-- the scan side of a COPY has ended (R71) -/
  | ended
  deriving DecidableEq, Repr

/-- An eject (R99, R100): whether the EJECT-STEPS entry is admitted, and whether the sheet has been found long. -/
structure Eject where
  finalAdmitted : Bool
  long          : Bool
  deriving DecidableEq, Repr

/-- The sheet's geometry (R84 to R87); steps are counted from the leading edge. -/
structure Sheet where
  pickLimit       : Nat
  pickAdmitted    : Nat
  edgePending     : Bool
  sinceEdge       : Option Nat
  offset          : Option Nat
  readOffset      : Nat
  offsetDue       : Nat
  trailingPending : Bool
  trailing        : Option Nat
  nextLine        : Nat
  pageEnded       : Bool
  ejectAdmitted   : Bool
  /-- feed behind the page that an emergency stop cut off, to be admitted again (R73, log 61) -/
  ejectDue        : Nat
  longCount       : Option Nat
  deriving DecidableEq, Repr

/-- The lamp (R83): when it was switched on, and whether its 100 ms have passed. -/
structure Lamp where
  since : Option Nat
  warm  : Bool
  deriving DecidableEq, Repr

/-- The Scan Path. -/
structure ScanPath where
  dark        : List Nat
  white       : List Nat
  status      : CalStatus
  calibration : Option Calibration
  background  : Option Nat
  slots       : List LineSlot
  capture     : Option Capture
  coder       : Option Coder
  lamp        : Lamp
  phase       : ScanPhase
  sheet       : Sheet
  /-- a DOC-EJECT, or the eject of `ScanPhase.eject` -/
  eject       : Option Eject
  after       : Option AfterEject
  /-- the page has lost its place at an emergency stop (R136) -/
  lost        : Option Reason
  /-- WAIT has been answered for the wait in progress (R67) -/
  waitAnswered : Bool
  deriving DecidableEq, Repr

/-! ## Print energy (05_print_energy.md) -/

/-- A phase of a line's plan (R102, R108, R112). -/
structure Phase where
  blocks  : List Nat
  dots    : Nat
  newDots : Nat
  s1      : Nat
  s2      : Nat
  fireS2  : Bool
  deriving DecidableEq, Repr

/-- Which stored line of which page a physical line prints, and whether it is that line's last (R46). -/
structure LineTag where
  page : Nat
  line : Nat
  last : Bool
  deriving DecidableEq, Repr

/-- What is fired now of a phase (R114). -/
inductive FireStage | s1 | s2 | gap
  deriving DecidableEq, Repr

/-- The LINE entry being fired: its line and its new dots as the head latches them (R106, R114), the phases from the one in progress
on, and the subpulse or gap in progress (R102). -/
structure Firing where
  tag    : LineTag
  image  : Line
  fresh  : Line
  phases : List Phase
  stage  : FireStage
  since  : Nat
  deriving DecidableEq, Repr

/-- The head rest time (R117); `cold` is resting with more than 100 ms counted (R102). -/
inductive HeadRest | busy | since (t : Nat) | cold
  deriving DecidableEq, Repr

/-- The Print Energy Unit (R102) and the Converter's timed samples (R103). -/
structure Energy where
  history     : Line
  historyPage : Option Nat
  rest        : HeadRest
  thermistor  : Nat
  supply      : Nat
  ready       : Bool
  thermalHold : Bool
  supplyHold  : Bool
  firing      : Option Firing
  lastTimed   : Option Nat
  deriving DecidableEq, Repr

/-! ## Feed motion (06_feed_motion_and_paper_handling.md) -/

/-- Purposes of RUN entries (R123). -/
inductive RunPurpose | pick | offset | eject | cutOffset | advance
  deriving DecidableEq, Repr

/-- What a motion queue entry carries (R123): a physical line goes with its image, its new dots (R106) and its plan. -/
inductive EntryKind
  | scanLine (line : Nat)
  | printLine (tag : LineTag) (image fresh : Line) (plan : List Phase)
  | run (purpose : RunPurpose)
  deriving DecidableEq, Repr

/-- A motion queue entry: its steps, those not yet taken, I_req, target level, DUE or FEED-ONLY (R123). -/
structure Entry where
  kind   : EntryKind
  steps  : Nat
  left   : Nat
  ireq   : Nat
  target : Nat
  due    : Bool
  deriving DecidableEq, Repr

/-- R131. -/
inductive MotorState | off | energizing | run | hold
  deriving DecidableEq, Repr

/-- A feed motion controller (R123 to R131). `lastAt`, `lastIreq`, `lastTarget` are those of the step taken last; `since` is when
the current state's count began. -/
structure Feed where
  queue      : List Entry
  moving     : Bool
  level      : Nat
  stepCount  : Nat
  lastAt     : Nat
  lastIreq   : Nat
  lastTarget : Nat
  current    : MotorState
  since      : Nat
  deriving DecidableEq, Repr

/-- A PWM generator (R133). -/
structure Generator where
  value : Nat
  cycle : Nat
  deriving DecidableEq, Repr

/-- R138. -/
inductive CutterState | idle | away | leaving | returning
  deriving DecidableEq, Repr

/-- The Cutter Controller: its state and when the drive was switched on (R138). -/
structure Cutter where
  state : CutterState
  since : Nat
  deriving DecidableEq, Repr

/-- Motors, generators, cutter. -/
structure Mechanism where
  scanFeed  : Feed
  printFeed : Feed
  scanPwm   : Generator
  printPwm  : Generator
  lampPwm   : Generator
  cutter    : Cutter
  /-- steps taken by a PAPER-ADVANCE in progress (R141) -/
  advanced  : Nat
  deriving DecidableEq, Repr

/-! ## Power, ringing and wake (07_power_modes_ringing_and_wake.md) -/

/-- R145. -/
inductive Mode | active | standby | waking | doze
  deriving DecidableEq, Repr

/-- The wake causes (R151). -/
structure WakeCauses where
  ring : Bool
  alarm : Bool
  docEntry : Bool
  cover : Bool
  paper : Bool
  wakeKey : Bool
  link : Bool
  deriving DecidableEq, Repr

/-- The Power Controller. Counts are kept as the time at which they began (log 1). -/
structure Power where
  mode      : Mode
  headSince : Option Nat
  idleFrom  : Option Nat
  dozeFrom  : Option Nat
  wakingAt  : Nat
  causes    : WakeCauses
  deriving DecidableEq, Repr

/-- R154. -/
inductive RingState | idle | inBurst | gap
  deriving DecidableEq, Repr

/-- The Ring Qualifier (R154). -/
structure Ring where
  state  : RingState
  first  : Nat
  latest : Nat
  count  : Nat
  deriving DecidableEq, Repr

/-- The Wake Timer (R158): the seconds given, the time of the ALARM-SET, and an expiry held until RELEASE. -/
structure WakeTimer where
  running : Bool
  given   : Nat
  since   : Nat
  held    : Bool
  deriving DecidableEq, Repr

/-- The Silence Supervisor (R160); the host reset count lies in the retention domain. -/
structure Silence where
  since      : Option Nat
  firstStage : Bool
  hostResets : Nat
  /-- when the HOSTRST pulse of a second expiry began (R162) -/
  pulse      : Option Nat
  deriving DecidableEq, Repr

/-! ## Start-up (08_start_up_and_retention.md) -/

/-- R164. -/
inductive ResetKind | powerOn | supplyDrop | pin | restart
  deriving DecidableEq, Repr

/-- Where the part stands (8.1, 8.3). JUDGE and RELEASE are moments within `RESET_END` and `MECHANISM_PHASE_END`. -/
inductive StartPhase | inReset | settings | memory | levels | mechanism | ready
  deriving DecidableEq, Repr

/-- The four cause flags (R166). -/
structure CauseFlags where
  powerOn    : Bool
  supplyDrop : Bool
  pin        : Bool
  restart    : Bool
  deriving DecidableEq, Repr

inductive CutterStatus | home | homed | fault | notTried
  deriving DecidableEq, Repr

inductive CalOutcome | good | poor | sheet | uncalibrated
  deriving DecidableEq, Repr

inductive SettingsStatus | loaded | clamped | defaulted
  deriving DecidableEq, Repr

/-- The store group of the boot report (R172, R178). -/
structure RebuildCounts where
  rebuilt         : Bool
  docsKept        : Nat
  docsInterrupted : Nat
  pagesKept       : Nat
  pagesTruncated  : Nat
  pagesDamaged    : Nat
  pagesRemoved    : Nat
  orphansFreed    : Nat
  deriving DecidableEq, Repr

/-- The boot report (R178), less the cause flags and the host reset count, which are read live. -/
structure BootReport where
  kind         : ResetKind
  jobsLost     : Nat
  status       : SettingsStatus
  clamped      : Nat
  sizeMb       : Nat
  blocks       : Nat
  free         : Nat
  used         : Nat
  suspect      : Nat
  bad          : Nat
  counts       : RebuildCounts
  levels       : Levels
  jamAtStart   : Bool
  cutter       : CutterStatus
  calibration  : CalOutcome
  batteryLow   : Bool
  rate         : Nat
  deriving DecidableEq, Repr

/-- The Start-Up Controller. -/
structure StartUp where
  phase       : StartPhase
  kind        : ResetKind
  jobsLost    : Nat
  /-- the main supply is below the brown-out threshold: the battery-only period (R165) -/
  batteryOnly : Bool
  /-- the page DRAM refreshes itself: in DOZE and WAKING, and from a supply fall until JUDGE (R150, R165, R167; log 36) -/
  selfRefresh : Bool
  /-- the retention marker pattern is valid (R166) -/
  marker      : Bool
  causes      : CauseFlags
  /-- the domain was judged lost: the store is built FRESH (R166, R169) -/
  domainLost  : Bool
  batteryLow  : Bool
  lastBattery : Nat
  status      : SettingsStatus
  clamped     : Nat
  counts      : RebuildCounts
  levels      : Levels
  jamAtStart  : Bool
  /-- the cutter homing of the MECHANISM phase: its outcome, or none while it runs -/
  homing      : Option CutterStatus
  /-- the start-up calibration's outcome, or none while it runs -/
  calOutcome  : Option CalOutcome
  report      : BootReport
  deriving DecidableEq, Repr

/-! ## Settings (09_settings.md) -/

/-- Which command began a store (R187 to R189). -/
inductive StoreOp | store | protect | default
  deriving DecidableEq, Repr

/-- The EEPROM: 512 bytes, or an image left partly written by a reset, which fails its sum check (R168). -/
inductive Eeprom | bytes (image : List Byte) | partlyWritten
  deriving DecidableEq, Repr

/-- A store being written (R187). -/
structure Writing where
  operation : StoreOp
  image     : List Byte
  deriving DecidableEq, Repr

/-- The Settings Store: the 80 working values in ascending id order, protect flag, image state (`same`), store operation (WRITING
or none for IDLE), and the EEPROM. -/
structure Settings where
  values  : List Nat
  protect : Bool
  same    : Bool
  writing : Option Writing
  eeprom  : Eeprom
  deriving DecidableEq, Repr

/-! ## The Command Link and the Event Unit (10_the_command_link.md) -/

/-- R191. -/
inductive RxState | hunt | header | payload | check
  deriving DecidableEq, Repr

/-- The receiver: its state, the frame's bytes so far from the start byte, and when the last one came (R191, R192). -/
structure Receiver where
  state  : RxState
  bytes  : List Byte
  lastAt : Nat
  deriving DecidableEq, Repr

/-- A valid frame in the inbound buffer (R193, R194): COMMAND or DATA-IN, its payload, its size in bytes. -/
structure InFrame where
  command : Bool
  payload : List Byte
  size    : Nat
  deriving DecidableEq, Repr

/-- A DATA-OUT frame handed to the Command Link (R77): the lines it carries, whether it carries PAGE-END, and the job that
handed it, while it lives. -/
structure OutFrame where
  payload : List Byte
  lines   : List ReadLine
  pageEnd : Bool
  job     : Option Nat
  deriving DecidableEq, Repr

inductive Sending | reply | dataOut
  deriving DecidableEq, Repr

/-- The link fault totals (R198). -/
structure LinkTotals where
  check      : Nat
  length     : Nat
  kind       : Nat
  gap        : Nat
  framing    : Nat
  overrun    : Nat
  noReceiver : Nat
  badRecord  : Nat
  deriving DecidableEq, Repr

/-- The eight link faults (R198). -/
inductive LinkFault | check | length | kind | gap | framing | overrun | noReceiver | badRecord
  deriving DecidableEq, Repr

/-- The Command Link. -/
structure Link where
  rate            : Nat
  receiver        : Receiver
  inbound         : List InFrame
  hold            : Bool
  reply           : Option (List Byte)
  dataOut         : Option OutFrame
  sending         : Option Sending
  dozeAccepted    : Bool
  restartAccepted : Bool
  totals          : LinkTotals
  hostReset       : Bool
  deriving DecidableEq, Repr

/-- The operations DONE reports (R207). -/
inductive DoneOp | calibrate | eject | advance | cut | store | protect | default
  deriving DecidableEq, Repr

/-- The outcomes DONE reports (R207). -/
inductive DoneOutcome | good | poor | sheet | ejected | long | cover | advanced | cut | jam | stored | failed
  deriving DecidableEq, Repr

/-- Why ringing stopped (R156). -/
inductive RingStop | invalid | length | gap
  deriving DecidableEq, Repr

/-- The STORE detail (R18). -/
structure StoreDetail where
  low     : Bool
  full    : Bool
  parity  : Bool
  chain   : Bool
  free    : Nat
  reason  : Option FullReason
  parityReads : Nat
  chainFaults : Nat
  suspect : Option Nat
  damaged : Option (Nat × Nat)
  deriving DecidableEq, Repr

/-- The EMERGENCY detail (R135). -/
structure EmergencyDetail where
  scanState    : MotorState
  printState   : MotorState
  scanMoving   : Bool
  printMoving  : Bool
  headPower    : Bool
  strobeCut    : Bool
  cutterRunning : Bool
  deriving DecidableEq, Repr

/-- The JOB detail (R80); `final = none` reports a boundary. -/
structure JobDetail where
  job      : Nat
  kind     : JobKind
  final    : Option FinalStatus
  boundary : Option Boundary
  document : Nat
  page     : Nat
  copy     : Nat
  pages    : Nat
  deriving DecidableEq, Repr

/-- The detail of a pending record, by source (R199, R207). -/
inductive Detail
  | boot (bytes : List Byte)
  | emergency (d : EmergencyDetail)
  | jam (doc cutter pick long : Bool) (docJams cutterJams : Nat)
  | supply (headLow batteryLow : Bool) (sample : Option (Nat × Nat))
  | job (d : JobDetail)
  | store (d : StoreDetail)
  | ring (stop : Option RingStop) (count length : Nat)
  | alarm (seconds : Nat)
  | wake (causes : WakeCauses) (wakes : Nat)
  | sensor (docEntry paper coverOpen : Bool)
  | done (op : DoneOp) (outcome : DoneOutcome) (steps : Nat)
  | link (counts : LinkTotals)
  | silence (stopped limit hostResets : Nat)
  deriving DecidableEq, Repr

/-- A pending record (R199): occurrence count and detail; its source is its place. -/
structure Record where
  count  : Nat
  detail : Detail
  deriving DecidableEq, Repr

/-- The Event Unit: a record or none for each source, and the masks; ATN (R199, R200). -/
structure Events where
  pending : List (Option Record)
  masked  : List Bool
  atn     : Bool
  deriving DecidableEq, Repr

end Sys2Proof.Machine
end

