-- ==== Sys2Proof/Machine/Items.lean ====
section
/-! DEFINITION. The settings items (R181): ids, ranges, defaults, the accessors of the working values, clamping (R183, R186). -/

namespace Sys2Proof.Machine

/-- A row of the table of R181. -/
structure Item where
  id  : Nat
  lo  : Nat
  hi  : Nat
  dflt : Nat
  deriving DecidableEq, Repr

/-- ENERGY[0] to ENERGY[15] (R181, R109). -/
def energyItems : List Item :=
  [⟨0x10, 50, 4000, 2000⟩, ⟨0x11, 50, 4000, 1900⟩, ⟨0x12, 50, 4000, 1800⟩, ⟨0x13, 50, 4000, 1700⟩,
   ⟨0x14, 50, 4000, 1500⟩, ⟨0x15, 50, 4000, 1350⟩, ⟨0x16, 50, 4000, 1200⟩, ⟨0x17, 50, 4000, 1100⟩,
   ⟨0x18, 50, 4000, 1000⟩, ⟨0x19, 50, 4000, 920⟩, ⟨0x1A, 50, 4000, 850⟩, ⟨0x1B, 50, 4000, 790⟩,
   ⟨0x1C, 50, 4000, 740⟩, ⟨0x1D, 50, 4000, 700⟩, ⟨0x1E, 50, 4000, 660⟩, ⟨0x1F, 50, 4000, 620⟩]

/-- VNOM, LOAD-K, HISTORY-H, WMAX, DOT-LIMIT, HOT-LIMIT, RESUME-LIMIT, LAMP-LEVEL (R181). -/
def printItems : List Item :=
  [⟨0x20, 120, 250, 200⟩, ⟨0x21, 0, 255, 40⟩, ⟨0x22, 8, 16, 12⟩, ⟨0x23, 500, 4000, 2500⟩,
   ⟨0x24, 216, 1728, 432⟩, ⟨0x25, 128, 250, 208⟩, ⟨0x26, 96, 242, 192⟩, ⟨0x27, 0, 1023, 800⟩]

/-- PRINT-RAMP[0] to [15] (R181, R122). -/
def printRampItems : List Item :=
  [⟨0x30, 300, 20000, 4000⟩, ⟨0x31, 300, 20000, 3200⟩, ⟨0x32, 300, 20000, 2600⟩, ⟨0x33, 300, 20000, 2200⟩,
   ⟨0x34, 300, 20000, 1900⟩, ⟨0x35, 300, 20000, 1650⟩, ⟨0x36, 300, 20000, 1450⟩, ⟨0x37, 300, 20000, 1300⟩,
   ⟨0x38, 300, 20000, 1180⟩, ⟨0x39, 300, 20000, 1080⟩, ⟨0x3A, 300, 20000, 1000⟩, ⟨0x3B, 300, 20000, 930⟩,
   ⟨0x3C, 300, 20000, 870⟩, ⟨0x3D, 300, 20000, 820⟩, ⟨0x3E, 300, 20000, 780⟩, ⟨0x3F, 300, 20000, 750⟩]

/-- SCAN-RAMP[0] to [15] (R181, R122). -/
def scanRampItems : List Item :=
  [⟨0x40, 300, 20000, 3000⟩, ⟨0x41, 300, 20000, 2400⟩, ⟨0x42, 300, 20000, 2000⟩, ⟨0x43, 300, 20000, 1700⟩,
   ⟨0x44, 300, 20000, 1500⟩, ⟨0x45, 300, 20000, 1350⟩, ⟨0x46, 300, 20000, 1200⟩, ⟨0x47, 300, 20000, 1100⟩,
   ⟨0x48, 300, 20000, 1000⟩, ⟨0x49, 300, 20000, 920⟩, ⟨0x4A, 300, 20000, 860⟩, ⟨0x4B, 300, 20000, 800⟩,
   ⟨0x4C, 300, 20000, 760⟩, ⟨0x4D, 300, 20000, 720⟩, ⟨0x4E, 300, 20000, 690⟩, ⟨0x4F, 300, 20000, 660⟩]

/-- RUN-CURRENT-PRINT, HOLD-CURRENT-PRINT, RUN-CURRENT-SCAN, HOLD-CURRENT-SCAN, HOLD-DELAY, OFF-DELAY,
CUT-OFFSET, PICK-LIMIT, READ-OFFSET, EJECT-STEPS, MAX-SHEET-STEPS, THRESHOLD (R181). -/
def motionItems : List Item :=
  [⟨0x50, 0, 1023, 640⟩, ⟨0x51, 0, 1023, 192⟩, ⟨0x52, 0, 1023, 560⟩, ⟨0x53, 0, 1023, 160⟩,
   ⟨0x54, 10, 1000, 50⟩, ⟨0x55, 0, 60000, 2000⟩, ⟨0x58, 0, 1000, 180⟩, ⟨0x59, 100, 2000, 600⟩,
   ⟨0x5A, 0, 400, 96⟩, ⟨0x5B, 0, 2000, 500⟩, ⟨0x5C, 1540, 30800, 15400⟩, ⟨0x5D, 30, 90, 60⟩]

/-- LOW-WATER, LEAD-LINES, PAGE-LINE-LIMIT, IDLE-TIMEOUT, DOZE-DELAY, SILENCE-LIMIT (R181). -/
def storeAndPowerItems : List Item :=
  [⟨0x60, 4, 256, 16⟩, ⟨0x61, 16, 512, 64⟩, ⟨0x62, 1024, 8192, 8192⟩, ⟨0x68, 1, 255, 30⟩,
   ⟨0x69, 0, 255, 5⟩, ⟨0x6A, 0, 60, 10⟩]

/-- RING-PERIOD-MIN, RING-PERIOD-MAX, BURST-MIN, BURST-MAX, GAP-MAX, RING-WAKE-COUNT (R181). -/
def ringItems : List Item :=
  [⟨0x70, 10, 40, 14⟩, ⟨0x71, 30, 100, 70⟩, ⟨0x72, 100, 2000, 400⟩, ⟨0x73, 500, 5000, 3000⟩,
   ⟨0x74, 2000, 12000, 8000⟩, ⟨0x75, 1, 15, 2⟩]

/-- The 80 items in ascending id order (R181). -/
def items : List Item :=
  energyItems ++ printItems ++ printRampItems ++ scanRampItems ++ motionItems ++ storeAndPowerItems ++ ringItems

/-- The place of an item in the table, if the id names one (R181). -/
def itemPlace (id : Nat) : Option Nat :=
  items.findIdx? (fun it => it.id == id)

/-- The row at a place of the table. -/
def itemAt (place : Nat) : Item :=
  items.getD place ⟨0, 0, 0, 0⟩

/-- Every item at its default (R181). -/
def defaultValues : List Nat :=
  items.map Item.dflt

/-- The working value at a place of the table. -/
def Settings.at (g : Settings) (place : Nat) : Nat :=
  g.values.getD place 0

/-- ENERGY[band] (R109). -/
def Settings.energy (g : Settings) (band : Nat) : Nat := g.at band
/-- VNOM (R181). -/
def Settings.vnom (g : Settings) : Nat := g.at 16
/-- LOAD-K (R181). -/
def Settings.loadK (g : Settings) : Nat := g.at 17
/-- HISTORY-H (R181). -/
def Settings.historyH (g : Settings) : Nat := g.at 18
/-- WMAX (R181). -/
def Settings.wmax (g : Settings) : Nat := g.at 19
/-- DOT-LIMIT (R181). -/
def Settings.dotLimit (g : Settings) : Nat := g.at 20
/-- HOT-LIMIT (R181). -/
def Settings.hotLimit (g : Settings) : Nat := g.at 21
/-- RESUME-LIMIT (R181). -/
def Settings.resumeLimit (g : Settings) : Nat := g.at 22
/-- LAMP-LEVEL (R181). -/
def Settings.lampLevel (g : Settings) : Nat := g.at 23
/-- PRINT-RAMP[level] or SCAN-RAMP[level] (R122). -/
def Settings.ramp (g : Settings) (m : Motor) (level : Nat) : Nat :=
  match m with
  | .print => g.at (24 + level)
  | .scan => g.at (40 + level)
/-- RUN-CURRENT of a motor (R131). -/
def Settings.runCurrent (g : Settings) (m : Motor) : Nat :=
  match m with
  | .print => g.at 56
  | .scan => g.at 58
/-- HOLD-CURRENT of a motor (R131). -/
def Settings.holdCurrent (g : Settings) (m : Motor) : Nat :=
  match m with
  | .print => g.at 57
  | .scan => g.at 59
/-- HOLD-DELAY (R181). -/
def Settings.holdDelay (g : Settings) : Nat := g.at 60
/-- OFF-DELAY (R181). -/
def Settings.offDelay (g : Settings) : Nat := g.at 61
/-- CUT-OFFSET (R181). -/
def Settings.cutOffset (g : Settings) : Nat := g.at 62
/-- PICK-LIMIT (R181). -/
def Settings.pickLimit (g : Settings) : Nat := g.at 63
/-- READ-OFFSET (R181). -/
def Settings.readOffset (g : Settings) : Nat := g.at 64
/-- EJECT-STEPS (R181). -/
def Settings.ejectSteps (g : Settings) : Nat := g.at 65
/-- MAX-SHEET-STEPS (R181). -/
def Settings.maxSheetSteps (g : Settings) : Nat := g.at 66
/-- THRESHOLD (R181). -/
def Settings.threshold (g : Settings) : Nat := g.at 67
/-- LOW-WATER (R181). -/
def Settings.lowWater (g : Settings) : Nat := g.at 68
/-- LEAD-LINES (R181). -/
def Settings.leadLines (g : Settings) : Nat := g.at 69
/-- PAGE-LINE-LIMIT (R181). -/
def Settings.pageLineLimit (g : Settings) : Nat := g.at 70
/-- IDLE-TIMEOUT (R181). -/
def Settings.idleTimeout (g : Settings) : Nat := g.at 71
/-- DOZE-DELAY (R181). -/
def Settings.dozeDelay (g : Settings) : Nat := g.at 72
/-- SILENCE-LIMIT (R181). -/
def Settings.silenceLimit (g : Settings) : Nat := g.at 73
/-- RING-PERIOD-MIN (R181). -/
def Settings.ringPeriodMin (g : Settings) : Nat := g.at 74
/-- RING-PERIOD-MAX (R181). -/
def Settings.ringPeriodMax (g : Settings) : Nat := g.at 75
/-- BURST-MIN (R181). -/
def Settings.burstMin (g : Settings) : Nat := g.at 76
/-- BURST-MAX (R181). -/
def Settings.burstMax (g : Settings) : Nat := g.at 77
/-- GAP-MAX (R181). -/
def Settings.gapMax (g : Settings) : Nat := g.at 78
/-- RING-WAKE-COUNT (R181). -/
def Settings.ringWakeCount (g : Settings) : Nat := g.at 79

/-- The first stage of R183: a value taken into its item's range. -/
def clampRange (place v : Nat) : Nat :=
  let it := itemAt place
  max it.lo (min v it.hi)

/-- A speed table entry against its neighbours (R183): at most the next slower level's entry, at least the next faster one's. -/
def clampRamp (g : Settings) (base place v : Nat) : Nat :=
  let upper := if place = base then v else min v (g.at (place - 1))
  if place = base + 15 then upper else max upper (g.at (place + 1))

/-- The second stage of R183: the item being set yields to the other item of its pair. -/
def clampDependency (g : Settings) (place v : Nat) : Nat :=
  if place = 21 then max v (g.resumeLimit + 8)
  else if place = 22 then min v (g.hotLimit - 8)
  else if place = 74 then min v (g.ringPeriodMax - 1)
  else if place = 75 then max v (g.ringPeriodMin + 1)
  else if place = 76 then min v (g.burstMax - 1)
  else if place = 77 then max v (g.burstMin + 1)
  else if 24 ≤ place ∧ place ≤ 39 then clampRamp g 24 place v
  else if 40 ≤ place ∧ place ≤ 55 then clampRamp g 40 place v
  else v

/-- The value SETTING-SET takes (R183). -/
def clampSet (g : Settings) (place v : Nat) : Nat :=
  clampDependency g place (clampRange place v)

/-- The motor whose speed table holds an item (R184). -/
def rampMotor (place : Nat) : Option Motor :=
  if 24 ≤ place ∧ place ≤ 39 then some .print
  else if 40 ≤ place ∧ place ≤ 55 then some .scan
  else none

/-- Step 4 of R186 on one table: an entry above the entry of the level below it is lowered to that entry. -/
def lowerRamp (bound : Nat) : List Nat → List Nat
  | [] => []
  | v :: vs => min v bound :: lowerRamp (min v bound) vs

/-- Step 1 of R186. -/
def clampAllRanges (vs : List Nat) : List Nat :=
  (items.zip vs).map (fun p => max p.1.lo (min p.2 p.1.hi))

/-- Steps 2 and 3 of R186: the item at `place` lowered to at most `bound`. -/
def lowerAt (place bound : Nat) (vs : List Nat) : List Nat :=
  modifyAt place (fun v => min v bound) vs

/-- The clamping of a loaded image, in the order of R186. -/
def clampLoaded (vs : List Nat) : List Nat :=
  let r := clampAllRanges vs
  let r := lowerAt 22 (r.getD 21 0 - 8) r
  let r := lowerAt 74 (r.getD 75 0 - 1) r
  let r := lowerAt 76 (r.getD 77 0 - 1) r
  r.take 24 ++ lowerRamp 20000 ((r.drop 24).take 16) ++ lowerRamp 20000 ((r.drop 40).take 16) ++ r.drop 56

/-- The four dependencies of R181 hold of the working values. -/
def Settings.dependencies (g : Settings) : Bool :=
  decide (g.resumeLimit + 8 ≤ g.hotLimit) && decide (g.ringPeriodMin < g.ringPeriodMax) &&
  decide (g.burstMin < g.burstMax) &&
  (List.range 15).all (fun l => decide (g.ramp .print (l + 1) ≤ g.ramp .print l)) &&
  (List.range 15).all (fun l => decide (g.ramp .scan (l + 1) ≤ g.ramp .scan l))

/-- Every working value lies in its item's range (R181), and there are 80 of them. -/
def Settings.inRange (g : Settings) : Bool :=
  g.values.length == items.length &&
  (items.zip g.values).all (fun p => decide (p.1.lo ≤ p.2) && decide (p.2 ≤ p.1.hi))

end Sys2Proof.Machine
end

