-- ==== Sys2Proof/Machine/State.lean ====
section
/-! DEFINITION. The state of the part, the update of each of its blocks, the reasons a step can stop, and the state right after reset. -/

namespace Sys2Proof.Machine

/-- The whole part. `pending` is the queue of steps that wait, first in first out; `now` the clock in microseconds (log 1). -/
structure State where
  pending    : List Instr
  now        : Nat
  start      : StartUp
  dram       : List Host.Cell
  dramFaults : ParityFaults
  store      : Store
  jobs       : WorkOrders
  scan       : ScanPath
  energy     : Energy
  mech       : Mechanism
  levels     : Levels
  power      : Power
  ring       : Ring
  wake       : WakeTimer
  silence    : Silence
  settings   : Settings
  link       : Link
  events     : Events
  deriving DecidableEq, Repr

/-- No step of the part stops it: the manual gives every fault an effect (INVENTORY.md, Faults; log 39). -/
inductive Fault
  deriving DecidableEq, Repr

inductive Refusal
  /-- Raised by `exec` alone, for a command that has no meaning yet; safe. No arm raises it. -/
  | notModelled (mnemonic : String)
  deriving DecidableEq, Repr

/-- The outcome of a step of the part. -/
abbrev Result := Host.Outcome State Fault Refusal

def State.onPending (f : List Instr → List Instr) (s : State) : State := { s with pending := f s.pending }
def State.onNow (f : Nat → Nat) (s : State) : State := { s with now := f s.now }
def State.onStart (f : StartUp → StartUp) (s : State) : State := { s with start := f s.start }
def State.onDram (f : List Host.Cell → List Host.Cell) (s : State) : State := { s with dram := f s.dram }
def State.onFaults (f : ParityFaults → ParityFaults) (s : State) : State := { s with dramFaults := f s.dramFaults }
def State.onStore (f : Store → Store) (s : State) : State := { s with store := f s.store }
def State.onJobs (f : WorkOrders → WorkOrders) (s : State) : State := { s with jobs := f s.jobs }
def State.onScan (f : ScanPath → ScanPath) (s : State) : State := { s with scan := f s.scan }
def State.onEnergy (f : Energy → Energy) (s : State) : State := { s with energy := f s.energy }
def State.onMech (f : Mechanism → Mechanism) (s : State) : State := { s with mech := f s.mech }
def State.onLevels (f : Levels → Levels) (s : State) : State := { s with levels := f s.levels }
def State.onPower (f : Power → Power) (s : State) : State := { s with power := f s.power }
def State.onRing (f : Ring → Ring) (s : State) : State := { s with ring := f s.ring }
def State.onWake (f : WakeTimer → WakeTimer) (s : State) : State := { s with wake := f s.wake }
def State.onSilence (f : Silence → Silence) (s : State) : State := { s with silence := f s.silence }
def State.onSettings (f : Settings → Settings) (s : State) : State := { s with settings := f s.settings }
def State.onLink (f : Link → Link) (s : State) : State := { s with link := f s.link }
def State.onEvents (f : Events → Events) (s : State) : State := { s with events := f s.events }

/-! ## Values after a reset, block by block -/

/-- A free block with no chain (R171). -/
def Block.blank : Block := ⟨.free, none, 0⟩

/-- An EMPTY page-table slot (R171). -/
def Page.blank : Page := ⟨.empty, 0, 0, 0, 0, 0, 0, 0, .standard, .w1728, 0, 0, 0, false, 0, 0, false, false⟩

/-- An EMPTY directory slot (R26, R171). -/
def Document.blank : Document := ⟨.empty, .scan, [], .standard, .w1728, none, 0, false⟩

/-- A place that names nothing. -/
def Cursor.zero : Cursor := ⟨0, 0, false⟩

/-- A reader on no page (R31). -/
def Reader.idle : Reader := ⟨0, 0, none, false, 0, .zero, 0, .zero, [], [], []⟩

/-- A new part's store (log 5): 1 MB, every block FREE, every slot EMPTY. -/
def Store.blank : Store :=
  { blocks := List.replicate 512 .blank, pages := List.replicate Config.pageSlots .blank,
    documents := List.replicate Config.documentSlots .blank, sizeMb := 1, low := false, recovered := 0, waiters := [],
    scanIn := ⟨none, none⟩, linkIn := none, printOut := .idle, linkOut := .idle }

/-- R31: what every reset takes from the store; the records stay. -/
def Store.afterReset (st : Store) : Store :=
  { st with low := false, recovered := 0, waiters := [], scanIn := ⟨none, none⟩, linkIn := none, printOut := .idle,
            linkOut := .idle }

/-- The print side with nothing to do (R144). -/
def PrintSide.idle : PrintSide := ⟨.off, none, .start⟩

/-- The send side with nothing to do. -/
def SendSide.idle : SendSide := ⟨.off, false, [], [], none⟩

/-- R81. -/
def WorkOrders.afterReset : WorkOrders :=
  { slots := List.replicate Config.jobSlots none, nextId := 1, startCount := 0, holders := ⟨.free, .free, .free, .free⟩,
    waits := ⟨[], [], [], []⟩, print := .idle, send := .idle }

/-- No sheet geometry held (R101). -/
def Sheet.none : Sheet := ⟨0, 0, false, .none, .none, 0, 0, false, .none, 0, false, false, 0, .none⟩

/-- R101. -/
def ScanPath.afterReset : ScanPath :=
  { dark := List.replicate Config.headDots 0, white := List.replicate Config.headDots 255, status := .uncalibrated,
    calibration := none, background := none, slots := List.replicate Config.lineSlots .free, capture := none, coder := none,
    lamp := ⟨none, false⟩, phase := .off, sheet := Sheet.none, eject := none, after := none, lost := none, waitAnswered := false }

/-- R102, R121. -/
def Energy.afterReset : Energy :=
  { history := List.replicate Config.headDots false, historyPage := none, rest := .cold, thermistor := 0, supply := 0,
    ready := false, thermalHold := false, supplyHold := false, firing := none, lastTimed := none }

/-- R144. -/
def Feed.afterReset : Feed := ⟨[], false, 0, 0, 0, 0, 0, .off, 0⟩

/-- R138, R144: the drive is off, and the state is IDLE or AWAY as CUTTER-HOME shows. -/
def Cutter.off (home : Bool) : Cutter := ⟨if home then .idle else .away, 0⟩

/-- R133, R144. -/
def Mechanism.afterReset (home : Bool) : Mechanism :=
  ⟨.afterReset, .afterReset, ⟨0, 0⟩, ⟨0, 0⟩, ⟨0, 0⟩, .off home, 0⟩

/-- No wake cause gathered (R152). -/
def WakeCauses.none : WakeCauses := ⟨false, false, false, false, false, false, false⟩

/-- R163. -/
def Power.afterReset : Power := ⟨.standby, none, none, none, 0, .none⟩

/-- R163. -/
def Ring.afterReset : Ring := ⟨.idle, 0, 0, 0⟩

/-- R163: STOPPED, 0 seconds remaining. -/
def WakeTimer.stopped : WakeTimer := ⟨false, 0, 0, false⟩

/-- R163: the host reset count is kept. -/
def Silence.afterReset (hostResets : Nat) : Silence := ⟨none, false, hostResets, none⟩

/-- Every link fault total 0 (R204). -/
def LinkTotals.zero : LinkTotals := ⟨0, 0, 0, 0, 0, 0, 0, 0⟩

/-- The receiver in HUNT (R204). -/
def Receiver.hunt : Receiver := ⟨.hunt, [], 0⟩

/-- R204, R167: HOLD asserted, HOSTRST asserted unless the reset is a RESTART. -/
def Link.afterReset (rate : Nat) (hostReset : Bool) : Link :=
  { rate := rate, receiver := .hunt, inbound := [], hold := true, reply := none, dataOut := none, sending := none,
    dozeAccepted := false, restartAccepted := false, totals := .zero, hostReset := hostReset }

/-- R204: no record pending, every source unmasked, ATN deasserted. -/
def Events.afterReset : Events := ⟨List.replicate 16 none, List.replicate 16 false, false⟩

/-- A rebuild that has counted nothing. -/
def RebuildCounts.zero : RebuildCounts := ⟨false, 0, 0, 0, 0, 0, 0, 0⟩

/-- DESIGN CHOICE (log 7), unsafe: the levels before any have been taken. -/
def levelsAtReset : Levels := ⟨false, false, true, false, true, false⟩

/-- DESIGN CHOICE (log 42): the boot report before the first RELEASE. -/
def BootReport.blank : BootReport :=
  { kind := .powerOn, jobsLost := 0, status := .defaulted, clamped := 0, sizeMb := 1, blocks := 0, free := 0, used := 0,
    suspect := 0, bad := 0, counts := .zero, levels := levelsAtReset, jamAtStart := false, cutter := .notTried,
    calibration := .uncalibrated, batteryLow := false, rate := 0 }

/-- The first application of power (R164, example of 8.2): a POWER-ON reset is in force, the marker is not valid. -/
def StartUp.firstPower : StartUp :=
  { phase := .inReset, kind := .powerOn, jobsLost := 0, batteryOnly := false, selfRefresh := false, marker := false,
    causes := ⟨false, false, false, false⟩, domainLost := true, batteryLow := false, lastBattery := 0, status := .defaulted,
    clamped := 0, counts := .zero, levels := levelsAtReset, jamAtStart := false, homing := none, calOutcome := none,
    report := .blank }

/-- DESIGN CHOICE (log 8): before the first load, the defaults over a blank EEPROM. -/
def Settings.firstPower : Settings :=
  { values := defaultValues, protect := false, same := false, writing := none,
    eeprom := .bytes (List.replicate Config.imageBytes 0xFF) }

/-- The machine right after reset: the first application of power, with its POWER-ON reset in force (R164; log 4, log 5). -/
def State.reset : State :=
  { pending := [], now := 0, start := .firstPower, dram := [], dramFaults := ⟨[], []⟩, store := .blank,
    jobs := .afterReset, scan := .afterReset, energy := .afterReset, mech := .afterReset true, levels := levelsAtReset,
    power := .afterReset, ring := .afterReset, wake := .stopped, silence := .afterReset 0, settings := .firstPower,
    link := .afterReset 0 true, events := .afterReset }

end Sys2Proof.Machine
end

