-- ==== Sys2Proof/Machine/Operands.lean ====
section
/-! DEFINITION. The encodings of parameters, result data and enumerations (R205), and the codes of each list of the manual. -/

namespace Sys2Proof.Machine

/-! ## Numbers and flags (R205; 00_scope.md, Byte order: most significant byte first) -/

def be1 (n : Nat) : List Byte := [BitVec.ofNat 8 n]
def be2 (n : Nat) : List Byte := [BitVec.ofNat 8 (n / 256), BitVec.ofNat 8 n]
def be3 (n : Nat) : List Byte := [BitVec.ofNat 8 (n / 65536), BitVec.ofNat 8 (n / 256), BitVec.ofNat 8 n]
def be4 (n : Nat) : List Byte :=
  [BitVec.ofNat 8 (n / 16777216), BitVec.ofNat 8 (n / 65536), BitVec.ofNat 8 (n / 256), BitVec.ofNat 8 n]

/-- The number two bytes spell, most significant first. -/
def num2 (a b : Byte) : Nat := a.toNat * 256 + b.toNat

/-- A set of flags as a number: the first listed flag is the least significant bit (R205). -/
def flagSet : List Bool → Nat
  | [] => 0
  | b :: bs => b.toNat + 2 * flagSet bs

def flag1 (b : Bool) : List Byte := be1 b.toNat

/-- The code of a field that holds none (R205). -/
def noneCode : Nat := 0xFF
/-- DEDUCED (log 21): none in a field of two bytes. -/
def noneCode2 : Nat := 0xFFFF

/-! ## Enumerations: positions in the list where the owning rule first lists them (R205) -/

def Resolution.code : Resolution → Nat
  | .standard => 0 | .fine => 1 | .superfine => 2

def Resolution.ofCode : Nat → Option Resolution
  | 0 => some .standard | 1 => some .fine | 2 => some .superfine | _ => none

/-- Feed steps per stored line (00_scope.md). -/
def Resolution.steps : Resolution → Nat
  | .standard => 4 | .fine => 2 | .superfine => 1

/-- Physical lines per stored line (R46). -/
def Resolution.physicalLines : Resolution → Nat
  | .standard => 2 | .fine => 1 | .superfine => 1

/-- Feed steps per physical line (R46). -/
def Resolution.physicalSteps : Resolution → Nat
  | .standard => 2 | .fine => 2 | .superfine => 1

def PageWidth.dots : PageWidth → Nat
  | .w1728 => 1728 | .w2048 => 2048

def PageWidth.code : PageWidth → Nat
  | .w1728 => 0 | .w2048 => 1

def PageWidth.ofCode : Nat → Option PageWidth
  | 0 => some .w1728 | 1 => some .w2048 | _ => none

/-- L_l: the length of a LITERAL record (R36). -/
def PageWidth.literalLength (w : PageWidth) : Nat := 1 + w.dots / 8

def Origin.code : Origin → Nat
  | .scan => 0 | .receive => 1 | .copy => 2

def Origin.ofCode : Nat → Option Origin
  | 0 => some .scan | 1 => some .receive | 2 => some .copy | _ => none

def DocState.code : DocState → Nat
  | .empty => 0 | .opened => 1 | .closed => 2

def PageState.code : PageState → Nat
  | .empty => 0 | .filling => 1 | .complete => 2 | .truncated => 3 | .damaged => 4

def JobKind.code : JobKind → Nat
  | .scan => 0 | .print => 1 | .receive => 2 | .send => 3 | .copy => 4

def JobKind.ofCode : Nat → Option JobKind
  | 0 => some .scan | 1 => some .print | 2 => some .receive | 3 => some .send | 4 => some .copy | _ => none

def ScanMode.code : ScanMode → Nat
  | .text => 0 | .photo => 1

def ScanMode.ofCode : Nat → Option ScanMode
  | 0 => some .text | 1 => some .photo | _ => none

def JobState.code : JobState → Nat
  | .waiting => 0 | .running => 1 | .holding => 2 | .held => 3 | .boundary => 4

/-- 11.1: in the order of the boundary table. -/
def BoundaryCode.code : BoundaryCode → Nat
  | .scMore => 0 | .scLast => 1 | .scFull => 2 | .scJam => 3 | .prMore => 4 | .prLast => 5 | .prPaper => 6 | .prCut => 7
  | .rxFull => 8 | .txMore => 9 | .txLast => 10 | .cpDone => 11

/-- The reason of a JOB record: none 0, then BLOCKS to CUTTER (R207). -/
def Reason.code : Option Reason → Nat
  | none => 0
  | some .blocks => 1 | some .pages => 2 | some .docPages => 3 | some .pick => 4 | some .long => 5 | some .paper => 6
  | some .cover => 7 | some .cutter => 8

def FullReason.code : FullReason → Nat
  | .blocks => 0 | .pages => 1 | .docPages => 2

def FullReason.reason : FullReason → Reason
  | .blocks => .blocks | .pages => .pages | .docPages => .docPages

def FinalStatus.code : FinalStatus → Nat
  | .completed => 0 | .dropped => 1 | .aborted => 2

/-- The JOB-ANSWER choice codes (11.1). -/
def Choice.ofCode : Nat → Option Choice
  | 0 => some .next | 1 => some .finish | 2 => some .repeatPage | 3 => some .resume | 4 => some .retry | 5 => some .wait
  | 6 => some .drop | _ => none

def MotorState.code : MotorState → Nat
  | .off => 0 | .energizing => 1 | .run => 2 | .hold => 3

def CutterState.code : CutterState → Nat
  | .idle => 0 | .away => 1 | .leaving => 2 | .returning => 3

/-- The power mode codes (R205). -/
def Mode.code : Mode → Nat
  | .active => 0 | .standby => 1 | .waking => 2 | .doze => 3

def SettingsStatus.code : SettingsStatus → Nat
  | .loaded => 0 | .clamped => 1 | .defaulted => 2

def CutterStatus.code : CutterStatus → Nat
  | .home => 0 | .homed => 1 | .fault => 2 | .notTried => 3

def CalOutcome.code : CalOutcome → Nat
  | .good => 0 | .poor => 1 | .sheet => 2 | .uncalibrated => 3

def ResetKind.code : ResetKind → Nat
  | .powerOn => 0 | .supplyDrop => 1 | .pin => 2 | .restart => 3

def DoneOp.code : DoneOp → Nat
  | .calibrate => 0 | .eject => 1 | .advance => 2 | .cut => 3 | .store => 4 | .protect => 5 | .default => 6

def DoneOutcome.code : DoneOutcome → Nat
  | .good => 0 | .poor => 1 | .sheet => 2 | .ejected => 3 | .long => 4 | .cover => 5 | .advanced => 6 | .cut => 7
  | .jam => 8 | .stored => 9 | .failed => 10

def RingStop.code : Option RingStop → Nat
  | none => 0 | some .invalid => 1 | some .length => 2 | some .gap => 3

def CauseFlags.code (c : CauseFlags) : Nat := flagSet [c.powerOn, c.supplyDrop, c.pin, c.restart]

def WakeCauses.code (c : WakeCauses) : Nat :=
  flagSet [c.ring, c.alarm, c.docEntry, c.cover, c.paper, c.wakeKey, c.link]

/-- The link rate code of the strap table (R190). -/
def rateCode (first second : Bool) : Nat := if second then (if first then 3 else 2) else (if first then 1 else 0)

/-! ## Results (R196) -/

/-- The result of a command; `locked` is PROTECTED. -/
inductive Answer | done | unknown | badLength | badParam | noSuch | busy | noRoom | locked
  deriving DecidableEq, Repr

def Answer.code : Answer → Nat
  | .done => 0 | .unknown => 1 | .badLength => 2 | .badParam => 3 | .noSuch => 4 | .busy => 5 | .noRoom => 6 | .locked => 7

end Sys2Proof.Machine
end

