-- ==== Sys2Proof/Machine/Flags.lean ====
section
/-! DEFINITION. The Event Unit's flags and records (R199, R200, R207): the detail bytes of each source, coalescing, and a raise. -/

namespace Sys2Proof.Machine

/-! ## Detail bytes (R207) -/

/-- The STORE detail of a raise that sets no flag, with the FREE count given (R18). -/
def StoreDetail.plain (free : Nat) : StoreDetail := ⟨false, false, false, false, free, none, 0, 0, none, none⟩

/-- The eight link fault counts in the order of R198. -/
def LinkTotals.list (t : LinkTotals) : List Nat :=
  [t.check, t.length, t.kind, t.gap, t.framing, t.overrun, t.noReceiver, t.badRecord]

/-- One more fault of a kind, saturating at `top` (R198). -/
def LinkTotals.bump (top : Nat) (f : LinkFault) (t : LinkTotals) : LinkTotals :=
  match f with
  | .check => { t with check := satAdd top t.check 1 }
  | .length => { t with length := satAdd top t.length 1 }
  | .kind => { t with kind := satAdd top t.kind 1 }
  | .gap => { t with gap := satAdd top t.gap 1 }
  | .framing => { t with framing := satAdd top t.framing 1 }
  | .overrun => { t with overrun := satAdd top t.overrun 1 }
  | .noReceiver => { t with noReceiver := satAdd top t.noReceiver 1 }
  | .badRecord => { t with badRecord := satAdd top t.badRecord 1 }

/-- Counts of two LINK details added (R198: saturating at 255). -/
def LinkTotals.add (a b : LinkTotals) : LinkTotals :=
  ⟨satAdd 255 a.check b.check, satAdd 255 a.length b.length, satAdd 255 a.kind b.kind, satAdd 255 a.gap b.gap,
   satAdd 255 a.framing b.framing, satAdd 255 a.overrun b.overrun, satAdd 255 a.noReceiver b.noReceiver,
   satAdd 255 a.badRecord b.badRecord⟩

/-- The fields a JOB record or a status gives of a boundary: code, reason, place (R207; log 21: no code and no place give 0xFF). -/
def Boundary.place (b : Boundary) : Nat := match b.midPage with | some m => m.toNat | none => noneCode

/-- A JOB record: the status of an end or the code of a boundary (R207). -/
def JobDetail.bytes (d : JobDetail) : List Byte :=
  let kindByte := if d.final.isSome then 1 else 0
  let code :=
    match d.final, d.boundary with
    | some f, _ => f.code
    | none, some b => b.code.code
    | none, none => noneCode
  let reason := match d.boundary with | some b => Reason.code b.reason | none => 0
  let place := match d.boundary with | some b => b.place | none => noneCode
  be1 d.job ++ be1 d.kind.code ++ be1 kindByte ++ be1 code ++ be1 reason ++ be1 place ++ be1 d.document ++ be1 d.page ++
    be1 d.copy ++ be1 (min 255 d.pages)

/-- A STORE record (R18, R207; log 21: none is 0xFF in one byte and 0xFFFF in two). -/
def StoreDetail.bytes (d : StoreDetail) : List Byte :=
  let reason := match d.reason with | some r => r.code | none => noneCode
  let suspect := d.suspect.getD noneCode2
  let damaged := d.damaged.getD (noneCode, noneCode)
  be1 (flagSet [d.low, d.full, d.parity, d.chain]) ++ be2 d.free ++ be1 reason ++ be1 d.parityReads ++ be1 d.chainFaults ++
    be2 suspect ++ be1 damaged.1 ++ be1 damaged.2

/-- The detail's bytes in the order of R207, before the unused ones; a SUPPLY with no sample shows 0 for V_c and VNOM (log 75). -/
def Detail.used : Detail → List Byte
  | .boot bytes => bytes
  | .emergency d =>
    be1 0 ++ be1 d.scanState.code ++ be1 d.printState.code ++
      be1 (flagSet [d.scanMoving, d.printMoving, d.headPower, d.strobeCut, d.cutterRunning])
  | .jam doc cutter pick long docJams cutterJams =>
    be1 (flagSet [doc, cutter]) ++ be1 (flagSet [pick, long]) ++ be1 docJams ++ be1 cutterJams
  | .supply headLow batteryLow sample =>
    be1 (flagSet [headLow, batteryLow]) ++ be1 (sample.getD (0, 0)).1 ++ be1 (sample.getD (0, 0)).2
  | .job d => d.bytes
  | .store d => d.bytes
  | .ring stop count length =>
    be1 (if stop.isSome then 1 else 0) ++ be1 (RingStop.code stop) ++ be1 count ++ be2 (min 65535 length)
  | .alarm seconds => be3 seconds
  | .wake causes wakes => be1 causes.code ++ be1 wakes
  | .sensor docEntry paper coverOpen => be1 (flagSet [docEntry, paper, coverOpen])
  | .done op outcome steps => be1 op.code ++ be1 outcome.code ++ be2 steps
  | .link counts => be1 (flagSet (counts.list.map (fun n => decide (0 < n)))) ++ (counts.list.map (BitVec.ofNat 8))
  | .silence stopped limit hostResets => be1 stopped ++ be1 limit ++ be1 hostResets

/-- The ten detail bytes: a byte the source does not use is 0 (R207). -/
def Detail.bytes (d : Detail) : List Byte := (d.used ++ List.replicate 10 0).take 10

/-! ## Coalescing (R199) -/

/-- Flags ORed, current states replaced by the newest (R135, R207). -/
def EmergencyDetail.merge (old new : EmergencyDetail) : EmergencyDetail :=
  { scanState := new.scanState, printState := new.printState, scanMoving := old.scanMoving || new.scanMoving,
    printMoving := old.printMoving || new.printMoving, headPower := old.headPower || new.headPower,
    strobeCut := old.strobeCut || new.strobeCut, cutterRunning := old.cutterRunning || new.cutterRunning }

/-- Flags ORed, counts added, latest values replaced (R17, R18; log 44: the counts saturate at 255). -/
def StoreDetail.merge (old new : StoreDetail) : StoreDetail :=
  { low := old.low || new.low, full := old.full || new.full, parity := old.parity || new.parity, chain := old.chain || new.chain,
    free := new.free, reason := new.reason <|> old.reason, parityReads := satAdd 255 old.parityReads new.parityReads,
    chainFaults := satAdd 255 old.chainFaults new.chainFaults, suspect := new.suspect <|> old.suspect,
    damaged := new.damaged <|> old.damaged }

/-- Every cause of either set (R152). -/
def WakeCauses.union (a b : WakeCauses) : WakeCauses :=
  ⟨a.ring || b.ring, a.alarm || b.alarm, a.docEntry || b.docEntry, a.cover || b.cover, a.paper || b.paper,
   a.wakeKey || b.wakeKey, a.link || b.link⟩

/-- The detail of a pending record after a raise: by the source's coalescing kind (R199); a SUPPLY sample is replaced with its VNOM
(log 60), and kept where the raise brings none (log 75). -/
def Detail.merge (old new : Detail) : Detail :=
  match old, new with
  | .emergency a, .emergency b => .emergency (a.merge b)
  | .jam d c p l n m, .jam d' c' p' l' n' m' =>
    .jam (d || d') (c || c') (p || p') (l || l') (satAdd 255 n n') (satAdd 255 m m')
  | .supply h b v, .supply h' b' v' => .supply (h || h') (b || b') (v' <|> v)
  | .store a, .store b => .store (a.merge b)
  | .wake a n, .wake b m => .wake (a.union b) (satAdd 255 n m)
  | .link a, .link b => .link (a.add b)
  | _, n => n

/-- A record after a raise (R199): made with occurrence count 1, or coalesced. -/
def Record.raised (old : Option Record) (d : Detail) : Record :=
  match old with
  | none => ⟨1, d⟩
  | some r => ⟨satAdd 255 r.count 1, r.detail.merge d⟩

/-- A raise of source `n` at the Event Unit (R199). -/
def Events.raised (n : Nat) (d : Detail) (e : Events) : Events :=
  { e with pending := modifyAt n (fun r => some (Record.raised r d)) e.pending }

/-- A raise as the blocks make it: from a reset until RELEASE nothing is recorded (R199). -/
def raise (n : Nat) (d : Detail) (s : State) : State :=
  if s.start.phase = .ready then s.onEvents (Events.raised n d) else s

/-- A link fault: its total rises and LINK is raised (R198). -/
def linkFault (f : LinkFault) (s : State) : State :=
  raise 14 (.link (LinkTotals.zero.bump 255 f)) (s.onLink (fun l => { l with totals := l.totals.bump 65535 f }))

/-- Some unmasked record is pending (R200). -/
def Events.unmaskedPending (e : Events) : Bool :=
  (e.pending.zip e.masked).any (fun p => p.1.isSome && !p.2)

/-- R200: ATN is asserted exactly when an unmasked record is pending, except from reset until RELEASE. -/
def atnDue (s : State) : Bool := decide (s.start.phase = .ready) && s.events.unmaskedPending

/-- SENSOR with the levels as they stand (R82, R134). -/
def raiseSensor (s : State) : State := raise 12 (.sensor s.levels.docEntry s.levels.paper s.levels.coverOpen) s

/-- DONE (R207). -/
def raiseDone (op : DoneOp) (o : DoneOutcome) (steps : Nat) (s : State) : State := raise 13 (.done op o steps) s

end Sys2Proof.Machine
end

