-- ==== Sys2Proof/Machine/Times.lean ====
section
/-! DEFINITION. The durations the manual states, in microseconds of the clock (00_scope.md, Units). -/

namespace Sys2Proof.Machine

/-- Microseconds in n milliseconds. -/
def ms (n : Nat) : Nat := n * 1000
/-- Microseconds in n seconds. -/
def seconds (n : Nat) : Nat := n * 1000000
/-- Lamp warm-up (R83). -/
def lampTime : Nat := ms 100
/-- Head supply settling (R104). -/
def headSettling : Nat := ms 50
/-- Motor energizing (R131). -/
def energizingTime : Nat := ms 10
/-- A cut cycle's limit (R138). -/
def cutterTime : Nat := ms 1000
/-- The head rest after which the history is white (R117). -/
def headRestTime : Nat := ms 100
/-- The gap after a phase (R112). -/
def phaseGap : Nat := 20
/-- The time to shift and latch a line (R113). -/
def shiftTime : Nat := 220
/-- The head timer (R115). -/
def headTimer : Nat := 4000
/-- The Converter's period in ACTIVE (R103). -/
def samplePeriod : Nat := ms 10
/-- WAKING (R151). -/
def wakingTime : Nat := ms 10
/-- The gap rule (R192). -/
def frameGap : Nat := ms 20
/-- The HOSTRST pulse (R162). -/
def hostResetTime : Nat := ms 100
/-- The battery check's period (R165). -/
def batteryPeriod : Nat := seconds 60

end Sys2Proof.Machine
end

