-- ==== Sys2Proof/Machine/Ops.lean ====
section
/-! DEFINITION. The shared operations: the page DRAM's bytes, the lookups and updates of slots, and `settle`, which ends every step. -/

namespace Sys2Proof.Machine

/-! ## The page DRAM (R1): cells in one canonical form -/

/-- A byte of DRAM; one that nothing has written reads as `Config.dramFill` (log 6). -/
def dramByte : List Host.Cell → Nat → Byte
  | [], _ => Config.dramFill
  | (k, v) :: rest, a => if a = k then v else if a < k then Config.dramFill else dramByte rest a

/-- A byte put at an address where no lower cell stands. -/
def dramCons (a : Nat) (v : Byte) (rest : List Host.Cell) : List Host.Cell :=
  if v = Config.dramFill then rest else (a, v) :: rest

/-- A byte of DRAM written; writing the fill removes the cell. -/
def dramPut : List Host.Cell → Nat → Byte → List Host.Cell
  | [], a, v => dramCons a v []
  | (k, w) :: rest, a, v =>
    if a < k then dramCons a v ((k, w) :: rest)
    else if a = k then dramCons a v rest
    else (k, w) :: dramPut rest a v

/-- A run of bytes written upwards from an address. -/
def dramWrite (m : List Host.Cell) (a : Nat) : List Byte → List Host.Cell
  | [] => m
  | b :: bs => dramWrite (dramPut m a b) (a + 1) bs

/-- Every address lies above `low` and they rise strictly. -/
def risingFrom (low : Nat) : List Host.Cell → Bool
  | [] => true
  | (k, _) :: rest => decide (low ≤ k) && risingFrom (k + 1) rest

/-- The canonical form: addresses strictly rising, no cell equal to the fill. -/
def Memory.wf (m : List Host.Cell) : Bool := risingFrom 0 m && m.all (fun c => c.2 != Config.dramFill)

/-- The address of an offset of a block (R1). -/
def blockAddress (block offset : Nat) : Nat := block * Config.blockBytes + offset

/-- Bytes written to DRAM: each takes a good parity bit with it (R19, log 9). -/
def storeBytes (a : Nat) (bs : List Byte) (s : State) : State :=
  (s.onDram (fun m => dramWrite m a bs)).onFaults (fun f =>
    ⟨f.first.filter (fun x => !(decide (a ≤ x) && decide (x < a + bs.length))),
     f.reread.filter (fun x => !(decide (a ≤ x) && decide (x < a + bs.length)))⟩)

/-! ## Slots -/

def pageOf (s : State) (slot : Nat) : Page := s.store.pages.getD slot .blank
def onPage (slot : Nat) (f : Page → Page) (s : State) : State :=
  s.onStore (fun st => { st with pages := modifyAt slot f st.pages })

def blockOf (s : State) (b : Nat) : Block := s.store.blocks.getD b .blank
def onBlock (b : Nat) (f : Block → Block) (s : State) : State :=
  s.onStore (fun st => { st with blocks := modifyAt b f st.blocks })

/-- Document n is directory slot n (R6): place n − 1 of the list; 0 and numbers above 32 name none. -/
def docOf (s : State) (n : Nat) : Document := if n = 0 then .blank else s.store.documents.getD (n - 1) .blank
def onDoc (n : Nat) (f : Document → Document) (s : State) : State :=
  if n = 0 then s else s.onStore (fun st => { st with documents := modifyAt (n - 1) f st.documents })

/-- The page-table slot of a document's page index (R6). -/
def pageAt (s : State) (n index : Nat) : Option Nat := if index = 0 then none else (docOf s n).pages[index - 1]?

/-- The job in a slot (R48). -/
def jobIn (s : State) (k : Nat) : Option Job := (s.jobs.slots[k]?).join
def onJob (k : Nat) (f : Job → Job) (s : State) : State :=
  s.onJobs (fun w => { w with slots := modifyAt k (Option.map f) w.slots })

/-- The slot of the job with an id (R49). -/
def slotOfId (s : State) (id : Nat) : Option Nat :=
  s.jobs.slots.findIdx? (fun j => match j with | some x => decide (x.id = id) | none => false)

/-- The slots in use, in slot order. -/
def usedSlots (s : State) : List Nat := (List.range Config.jobSlots).filter (fun k => (jobIn s k).isSome)

def Engines.at {α : Type} (e : Engine) (v : Engines α) : α :=
  match e with
  | .scanner => v.scanner | .printer => v.printer | .linkIn => v.linkIn | .linkOut => v.linkOut

def Engines.set {α : Type} (e : Engine) (x : α) (v : Engines α) : Engines α :=
  match e with
  | .scanner => { v with scanner := x } | .printer => { v with printer := x }
  | .linkIn => { v with linkIn := x } | .linkOut => { v with linkOut := x }

def holderOf (s : State) (e : Engine) : Holder := s.jobs.holders.at e
def setHolder (e : Engine) (h : Holder) (s : State) : State :=
  s.onJobs (fun w => { w with holders := w.holders.set e h })

/-- R53, R147: a free engine is given to a holder; the SCANNER or PRINTER held sets the idle count to 0, also where the engine is free
again at the step's end. -/
def takeEngine (e : Engine) (h : Holder) (s : State) : State :=
  match e with
  | .scanner | .printer => (setHolder e h s).onPower (fun p => { p with idleFrom := none })
  | .linkIn | .linkOut => setHolder e h s

def onWaits (e : Engine) (f : List Nat → List Nat) (s : State) : State :=
  s.onJobs (fun w => { w with waits := w.waits.set e (f (w.waits.at e)) })

/-- The slot of the job that holds an engine (R53). -/
def jobHolding (s : State) (e : Engine) : Option Nat :=
  match holderOf s e with | .job k => some k | _ => none

/-- An internal operation of an engine (R53). -/
def opRuns (s : State) (e : Engine) (op : InternalOp) : Bool :=
  match holderOf s e with | .internal ops => ops.contains op | _ => false

/-- An internal operation ends; the engine falls free with its last (R53). -/
def endOp (e : Engine) (op : InternalOp) (s : State) : State :=
  match holderOf s e with
  | .internal ops => setHolder e (if ops.erase op = [] then .free else .internal (ops.erase op)) s
  | _ => s

def feedOf (s : State) (m : Motor) : Feed := match m with | .scan => s.mech.scanFeed | .print => s.mech.printFeed
def onFeed (m : Motor) (f : Feed → Feed) (s : State) : State :=
  s.onMech (fun x => match m with
    | .scan => { x with scanFeed := f x.scanFeed }
    | .print => { x with printFeed := f x.printFeed })

/-- A motor at rest: an empty queue and no step due (R124, R128). -/
def Feed.rests (f : Feed) : Bool := !f.moving && f.queue.isEmpty

/-- A motor is energized in every state but OFF (R131). -/
def Feed.energized (f : Feed) : Bool := decide (f.current ≠ .off)

/-- The drive of the cutter is on (R138). -/
def Cutter.drives (c : Cutter) : Bool := decide (c.state = .leaving) || decide (c.state = .returning)

/-- HEADPWR is on (R146). -/
def Power.headPower (p : Power) : Bool := p.headSince.isSome

/-- Some pause of `d` microseconds that began at `t` has passed. -/
def passed (t d now : Nat) : Bool := decide (t + d ≤ now)

/-! ## The inbound buffer's room (R193) -/

/-- Bytes of the inbound buffer in use: the frame in reception, the frames not yet released, the channel queue. -/
def inboundUsed (s : State) : Nat :=
  s.link.receiver.bytes.length + (s.link.inbound.map InFrame.size).sum +
    (match s.store.linkIn with | some c => (c.queue.map ChannelFrame.size).sum | none => 0)

def freeBytes (s : State) : Nat := Config.inboundBytes - inboundUsed s

/-- R193: HOLD below 1094 free bytes, and from each reset until RELEASE, and from the entry to DOZE until STANDBY. -/
def holdDue (s : State) : Bool :=
  decide (s.start.phase ≠ .ready) || decide (s.power.mode = .doze) || decide (s.power.mode = .waking) ||
    decide (freeBytes s < Config.holdBelow)

/-! ## The counts that run while a condition holds -/

/-- R147: when the idle count runs. -/
def idleRuns (s : State) : Bool :=
  decide (s.start.phase = .ready) && decide (s.power.mode = .active) && decide (holderOf s .scanner = .free) &&
    decide (holderOf s .printer = .free) && !s.mech.scanFeed.energized && !s.mech.printFeed.energized

/-- R149: when the doze count runs. -/
def dozeRuns (s : State) : Bool :=
  decide (s.start.phase = .ready) && decide (s.power.mode = .standby) && decide (s.settings.dozeDelay ≠ 0) &&
    s.jobs.slots.all Option.isNone && s.settings.writing.isNone && s.link.reply.isNone && s.link.dataOut.isNone

/-- R160: when the silence count runs. -/
def silenceRuns (s : State) : Bool :=
  decide (s.start.phase = .ready) && decide (s.settings.silenceLimit ≠ 0) &&
    ((jobHolding s .scanner).isSome || (jobHolding s .printer).isSome)

/-- A count kept as the time it began: it begins when its condition does and is 0 while it does not hold. -/
def countFrom (runs : Bool) (since : Option Nat) (now : Nat) : Option Nat :=
  if runs then some (since.getD now) else none

/-- The end of every step: ATN (R200), HOLD (R193), the idle, doze and silence counts (R147, R149, R160), by what holds at the step's end
(log 64); an engine held within the step has set the idle count to 0 (`takeEngine`). -/
def settle (s : State) : State :=
  { s with
    events := { s.events with atn := atnDue s }
    link := { s.link with hold := holdDue s }
    power := { s.power with
      idleFrom := countFrom (idleRuns s) s.power.idleFrom s.now
      dozeFrom := countFrom (dozeRuns s) s.power.dozeFrom s.now }
    silence := { s.silence with
      since := countFrom (silenceRuns s) s.silence.since s.now
      firstStage := silenceRuns s && s.silence.firstStage } }

/-- An event step: its effect and `settle` when its condition holds; nothing otherwise (log 2). -/
def event (due : Bool) (effect : State → State) (s : State) : Result :=
  .next (if due then settle (effect s) else s)

end Sys2Proof.Machine
end

