-- ==== Sys2Proof/Machine/LinkOps.lean ====
section
/-! DEFINITION. The Command Link's shared operations: the check, frames, intake of a command and its reply, and the transmitter
(R191 to R197). -/

namespace Sys2Proof.Machine

/-! ## The check (R191) -/

/-- One bit of the CRC with generator x^16 + x^12 + x^5 + 1, most significant bit first. -/
def crcBit (reg : BitVec 16) (bit : Bool) : BitVec 16 :=
  if reg.msb != bit then (reg <<< 1) ^^^ 0x1021 else reg <<< 1

def crcByte (reg : BitVec 16) (b : Byte) : BitVec 16 := ((List.range 8).map b.getMsbD).foldl crcBit reg

/-- The check over kind, length and payload: preset to all ones, no inversion (R191). -/
def crc (bs : List Byte) : BitVec 16 := bs.foldl crcByte 0xFFFF

def kindCommand : Byte := 0x10
def kindDataIn : Byte := 0x11
def kindReply : Byte := 0x90
def kindDataOut : Byte := 0x91

/-- A whole frame (10.2, 11.1). -/
def frame (kind : Byte) (payload : List Byte) : List Byte :=
  let checked := kind :: be2 payload.length ++ payload
  0xA5 :: checked ++ field2 (crc checked)

/-- The frame the transmitter is sending (R197). -/
def sendingFrame (s : State) : Option (List Byte) :=
  match s.link.sending with
  | some .reply => s.link.reply.map (frame kindReply)
  | some .dataOut => s.link.dataOut.map (fun o => frame kindDataOut o.payload)
  | none => none

/-! ## The transmitter (R197) -/

/-- A frame placed in the queue begins at once if the transmitter is IDLE. -/
def beginSending (what : Sending) (s : State) : State :=
  s.onLink (fun l => { l with sending := l.sending <|> some what })

/-- The last byte of a frame is sent: a REPLY that waits begins, otherwise a DATA-OUT frame, otherwise IDLE. -/
def transmitNext (s : State) : State :=
  s.onLink (fun l => { l with sending :=
    if l.reply.isSome then some .reply else if l.dataOut.isSome then some .dataOut else none })

/-! ## Command intake (R195) -/

/-- R195: when the part takes a command. -/
def intakeOpen (s : State) : Bool :=
  decide (s.start.phase = .ready) && (decide (s.power.mode = .active) || decide (s.power.mode = .standby)) &&
    s.link.reply.isNone && !s.link.dozeAccepted && !s.link.restartAccepted

/-- The oldest untaken COMMAND frame's payload (R195). -/
def oldestCommand (s : State) : Option (List Byte) := (s.link.inbound.find? InFrame.command).map InFrame.payload

/-- The part takes this command now: intake is open and the oldest COMMAND frame spells it (log 3). -/
def takes (i : Instr) (s : State) : Bool :=
  intakeOpen s && decide ((oldestCommand s).map decodeCommand = some i.asSent)

/-- The oldest COMMAND frame is released from the buffer (R193, R195). -/
def releaseCommand (s : State) : State :=
  s.onLink (fun l => { l with inbound := l.inbound.eraseP InFrame.command })

/-- What a command comes to: a result other than DONE, which changes nothing (R196), or the state with its effect and the result
data. -/
abbrev Verdict := Except Answer (State × List Byte)

/-- The REPLY is placed in the outbound queue (R195, R205). -/
def placeReply (code : Byte) (a : Answer) (data : List Byte) (s : State) : State :=
  beginSending .reply (s.onLink (fun l => { l with reply := some (code :: BitVec.ofNat 8 a.code :: data) }))

/-- The verdict of a command taken, as state and REPLY. -/
def answer (code : Byte) (s : State) (v : Verdict) : State :=
  match v with
  | .ok r => placeReply code .done r.2 r.1
  | .error a => placeReply code a [] s

/-- A command step (log 3): when the part takes the command, its frame is released, its verdict answered, and the step settles. -/
def command (i : Instr) (judge : State → Verdict) (s : State) : Result :=
  event (takes i s)
    (fun s => answer (BitVec.ofNat 8 ((commandCode i).getD 0)) (releaseCommand s) (judge (releaseCommand s))) s

end Sys2Proof.Machine
end

