-- ==== Sys2Proof/Machine/Records.lean ====
section
/-! DEFINITION. Line records: runs, the span coder's choice, expansion, delimiting, and the head's reduction (R32 to R36, R38, R44,
R45, R206). -/

namespace Sys2Proof.Machine

/-! ## Runs (R33) -/

/-- The run lengths of a line from a dot of colour `c` on, `n` dots of that colour already counted. -/
def runsFrom (c : Bool) (n : Nat) : Line → List Nat
  | [] => [n]
  | d :: ds => if d = c then runsFrom c (n + 1) ds else n :: runsFrom d 1 ds

/-- The runs of a line, beginning with white (R33, R36). -/
def runsOf (l : Line) : List Nat := runsFrom false 0 l

/-- A run as the part writes it: short up to 127, long from 128 (R33). -/
def runBytes (n : Nat) : List Byte :=
  if n < 128 then [BitVec.ofNat 8 n] else [BitVec.ofNat 8 (0x80 + n / 256), BitVec.ofNat 8 n]

/-- The runs laid out from dot 0 (R44). -/
def layRuns (c : Bool) : List Nat → Line
  | [] => []
  | n :: ns => List.replicate n c ++ layRuns (!c) ns

/-- The run lengths that coded bytes spell; a long run cut in half is dropped. -/
def readRuns : List Byte → List Nat
  | [] => []
  | b :: rest =>
    if b.toNat < 0x80 then b.toNat :: readRuns rest
    else match rest with
      | [] => []
      | c :: rest' => ((b.toNat - 0x80) * 256 + c.toNat) :: readRuns rest'

/-- How a RUNS body ends (R33, R38): with the run that brings the sum to the width, with one that overshoots, or cut short.
The number is the length of the body taken. -/
inductive RunsEnd
  | whole (len : Nat)
  | overshoot (len : Nat)
  | cut
  deriving DecidableEq, Repr

/-- One more run of value `v` ends the body, or it goes on. -/
def runsJudge (width sum len : Nat) (onward : RunsEnd) : RunsEnd :=
  if sum = width then .whole len else if width < sum then .overshoot len else onward

/-- The RUNS body that begins a list of bytes (R33, R38). -/
def delimitRuns (width sum len : Nat) : List Byte → RunsEnd
  | [] => .cut
  | b :: rest =>
    if b.toNat < 0x80 then
      runsJudge width (sum + b.toNat) (len + 1) (delimitRuns width (sum + b.toNat) (len + 1) rest)
    else match rest with
      | [] => .cut
      | c :: rest' =>
        runsJudge width (sum + ((b.toNat - 0x80) * 256 + c.toNat)) (len + 2)
          (delimitRuns width (sum + ((b.toNat - 0x80) * 256 + c.toNat)) (len + 2) rest')

/-! ## Bitmaps (R32): the lower-numbered dot in the more significant bit, 1 for black -/

def byteDots (b : Byte) : Line := (List.range 8).map b.getMsbD
def bitmapDots (bs : List Byte) : Line := bs.flatMap byteDots

/-- Eight dots as a byte. -/
def dotsByte (ds : Line) : Byte :=
  BitVec.ofNat 8 ((List.range 8).foldl (fun n i => 2 * n + (ds.getD i false).toNat) 0)

/-- The bitmap of `n` bytes of a line. -/
def lineBitmap : Nat → Line → List Byte
  | 0, _ => []
  | n + 1, l => dotsByte (l.take 8) :: lineBitmap n (l.drop 8)

/-! ## Headers (R206) -/

def headWhite : Byte := 0x00
def headRepeat : Byte := 0x01
def headRuns : Byte := 0x02
def headLiteral : Byte := 0x03
def headBegin : Byte := 0xF0
def headEnd : Byte := 0xF1

/-- The items of page data by header (R206). -/
inductive ItemKind | white | repeated | runs | literal | pageBegin | pageEnd
  deriving DecidableEq, Repr

def itemKind (h : Byte) : Option ItemKind :=
  if h = headWhite then some .white else if h = headRepeat then some .repeated
  else if h = headRuns then some .runs else if h = headLiteral then some .literal
  else if h = headBegin then some .pageBegin else if h = headEnd then some .pageEnd else none

/-- The attribute byte of a PAGE-BEGIN the part sends (R34, R206). -/
def attributeByte (r : Resolution) (w : PageWidth) : Byte := BitVec.ofNat 8 (r.code + 4 * w.code)

/-- A received attribute: none for resolution code 3; the other bits are accepted with any value (R34). -/
def readAttribute (b : Byte) : Option (Resolution × PageWidth) :=
  (Resolution.ofCode (b.toNat % 4)).map (fun r => (r, if b.getLsbD 2 then .w2048 else .w1728))

/-! ## The span coder (R36) -/

def blankLine (w : PageWidth) : Line := List.replicate w.dots false

def runsRecord (l : Line) : List Byte := headRuns :: (runsOf l).flatMap runBytes
def literalRecord (w : PageWidth) (l : Line) : List Byte := headLiteral :: lineBitmap (w.dots / 8) l

/-- The record of a line, the previous line of the page given: the three tests of R36 in order. -/
def codeLine (w : PageWidth) (previous l : Line) : List Byte :=
  if l.all (fun d => !d) then [headWhite]
  else if l = previous then [headRepeat]
  else if (runsRecord l).length < w.literalLength then runsRecord l
  else literalRecord w l

/-- The line a whole record stands for, the previous line given (R32, R44). -/
def expandRecord (w : PageWidth) (previous : Line) (record : List Byte) : Line :=
  match record with
  | [] => blankLine w
  | h :: body =>
    match itemKind h with
    | some .repeated => previous
    | some .runs => layRuns false (readRuns body)
    | some .literal => bitmapDots body
    | _ => blankLine w

/-! ## The head's line (R45) -/

/-- The source dots head dot j covers, first and last (R45). -/
def coveredFrom (j : Nat) : Nat := j * 2048 / 1728
def coveredTo (j : Nat) : Nat := ((j + 1) * 2048 - 1) / 1728

/-- R45: a 1728-dot line unchanged, a 2048-dot line reduced by OR. -/
def headLine (w : PageWidth) (l : Line) : Line :=
  match w with
  | .w1728 => l
  | .w2048 => (List.range Config.headDots).map (fun j =>
      ((l.drop (coveredFrom j)).take (coveredTo j + 1 - coveredFrom j)).any id)

/-! ## Received items (R38, R40) -/

/-- An item at the front of a DATA-IN payload (R37 to R41): a line record usable or not, with the payload left; a marker; or what
cannot be delimited. `lost`: it was a header that names no kind. -/
inductive Received
  | usable (record : List Byte) (rest : List Byte)
  | unusable (rest : List Byte)
  | pageBegin (r : Resolution) (w : PageWidth) (rest : List Byte)
  | pageEnd (rest : List Byte)
  | lost (unknownHeader : Bool)
  deriving DecidableEq, Repr

/-- A RUNS item by its end (R38, R39): a usable one of L_l bytes or more is stored as the LITERAL of its line. -/
def receivedRuns (w : PageWidth) (body : List Byte) : Received :=
  match delimitRuns w.dots 0 0 body with
  | .whole n =>
    if n + 1 < w.literalLength then .usable (headRuns :: body.take n) (body.drop n)
    else .usable (literalRecord w (layRuns false (readRuns (body.take n)))) (body.drop n)
  | .overshoot n => .unusable (body.drop n)
  | .cut => .unusable []

/-- The item that begins a payload, delimited with a width (R38, R40, R41); none at an empty payload. -/
def receivedItem (w : PageWidth) (payload : List Byte) : Option Received :=
  match payload with
  | [] => none
  | h :: body =>
    some (match itemKind h with
    | some .white => .usable [headWhite] body
    | some .repeated => .usable [headRepeat] body
    | some .runs => receivedRuns w body
    | some .literal =>
      if w.dots / 8 ≤ body.length then .usable (headLiteral :: body.take (w.dots / 8)) (body.drop (w.dots / 8)) else .unusable []
    | some .pageBegin =>
      (match body with
       | a :: rest => (match readAttribute a with | some rw => .pageBegin rw.1 rw.2 rest | none => .lost false)
       | [] => .lost false)
    | some .pageEnd => .pageEnd body
    | none => .lost true)

end Sys2Proof.Machine
end

