-- ==== Sys2Proof/Machine/StoreOps.lean ====
section
/-! DEFINITION. The page store's shared operations: blocks, page records, writers (R1 to R11, R15 to R18, R22). -/

namespace Sys2Proof.Machine

/-! ## Counts and the low condition (R17) -/

def countBlocks (st : Store) (b : BlockState) : Nat := (st.blocks.filter (fun x => decide (x.state = b))).length
def freeBlocks (s : State) : Nat := countBlocks s.store .free

/-- R17, after an allocation: the condition is set and STORE raised with LOW. -/
def lowAfterTaking (s : State) : State :=
  if !s.store.low && decide (freeBlocks s < s.settings.lowWater) then
    raise 8 (.store { StoreDetail.plain (freeBlocks s) with low := true }) (s.onStore (fun st => { st with low := true }))
  else s

/-- R17, after a freeing: the condition is cleared, nothing raised. -/
def lowAfterFreeing (s : State) : State :=
  if decide (s.settings.lowWater + 8 < freeBlocks s) then s.onStore (fun st => { st with low := false }) else s

/-- R17, after LOW-WATER is changed: set or cleared without STORE. -/
def lowAfterSetting (s : State) : State :=
  let low := decide (freeBlocks s < s.settings.lowWater) || (s.store.low && !decide (s.settings.lowWater + 8 < freeBlocks s))
  s.onStore (fun st => { st with low := low })

/-! ## Allocation and freeing (R2, R3) -/

def lowestFree (s : State) : Option Nat := s.store.blocks.findIdx? (fun b => decide (b.state = .free))

/-- R2: block `b` becomes the last block of the page in `slot`. -/
def linkBlock (slot b : Nat) (s : State) : State :=
  let p := pageOf s slot
  let s := onBlock b (fun _ => ⟨.used, none, slot⟩) s
  let s := if p.blockCount = 0 then s else onBlock p.lastBlock (fun x => { x with next := some b }) s
  onPage slot (fun p => { p with
    firstBlock := if p.blockCount = 0 then b else p.firstBlock
    lastBlock := b, blockCount := p.blockCount + 1, bytesUsed := 0 }) s

/-- R2: the lowest-numbered FREE block for the page, with the low-water check; none when no block is FREE. -/
def allocate (slot : Nat) (s : State) : Option State :=
  (lowestFree s).map (fun b => lowAfterTaking (linkBlock slot b s))

/-- R3: a freed block by its state. -/
def Block.freed (b : Block) : Block :=
  { b with
    state := (match b.state with | .used => .free | .suspect => .bad | x => x)
    next := none }

/-- R3: one block freed, with the low-water check. -/
def freeBlock (b : Nat) (s : State) : State := lowAfterFreeing (onBlock b Block.freed s)

/-- The USED and SUSPECT blocks whose owner is the page. -/
def ownedBlocks (s : State) (slot : Nat) : List Nat :=
  (List.range s.store.blocks.length).filter (fun b =>
    let x := blockOf s b
    (decide (x.state = .used) || decide (x.state = .suspect)) && decide (x.owner = slot))

/-- Blocks freed one after another. -/
def freeBlocksOf (bs : List Nat) (s : State) : State := bs.foldl (fun s b => freeBlock b s) s

/-! ## Page records -/

/-- Place `i` removed from a list of entries. -/
def dropAt {α : Type} (i : Nat) (l : List α) : List α := l.take i ++ l.drop (i + 1)

/-- The page index of a slot in its document's list. -/
def indexOf (s : State) (n slot : Nat) : Nat := (docOf s n).pages.findIdx (fun x => x == slot) + 1

/-- R11: a reader on the page reads no further line of it and ends it where it stands. -/
def Reader.pageGone (slot : Nat) (r : Reader) : Reader :=
  if r.slot = some slot then { r with slot := none, ended := true } else r

/-- The channels let go of a page that leaves the store: the writers (log 45), and the readers that stand on it (R11). -/
def forgetPage (slot : Nat) (s : State) : State :=
  s.onStore (fun st => { st with
    scanIn := if st.scanIn.slot = some slot then ⟨none, none⟩ else st.scanIn
    linkIn := st.linkIn.map (fun c => if c.slot = some slot then { c with slot := none } else c)
    printOut := st.printOut.pageGone slot, linkOut := st.linkOut.pageGone slot })

/-- The page's blocks are freed, its record becomes EMPTY and it leaves the page list (R3, R11, R16, R26, R29). -/
def erasePage (slot : Nat) (s : State) : State :=
  let n := (pageOf s slot).document
  let s := freeBlocksOf (ownedBlocks s slot) (forgetPage slot s)
  let s := onPage slot (fun _ => .blank) s
  onDoc n (fun d => { d with pages := d.pages.filter (fun x => x != slot) }) s

/-- A position that names a later page index is lowered by one (R16). -/
def lowered (index k : Nat) : Nat := if index < k then k - 1 else k

/-- R11, R16 for a job on the document, of which the page at `index` leaves the list: current page and scan page. `pageRemoved` keeps
what the index no longer says (log 14). The first page stays as JOB-START gave it (log 54). -/
def Job.pageLeft (n index : Nat) (j : Job) : Job :=
  if j.document = n then
    { j with
      pageRemoved := j.pageRemoved || decide (j.currentPage = index)
      currentPage := lowered index j.currentPage
      scanPage := lowered index j.scanPage }
  else j

/-- R68: the last page of a job's range, if not 0, after the removal of a free-as-read page; `rangeDone` as `pageRemoved` (log 14). -/
def Job.rangeCut (n index : Nat) (j : Job) : Job :=
  if j.document = n then
    { j with
      rangeDone := j.rangeDone || (decide (j.lastPage = 1) && decide (index = 1))
      lastPage := if j.lastPage = 0 then 0 else if index ≤ j.lastPage then max 1 (j.lastPage - 1) else j.lastPage }
  else j

/-- R16 for a reader on the document. -/
def Reader.pageLeft (n index : Nat) (r : Reader) : Reader :=
  if r.document = n then { r with pageIndex := lowered index r.pageIndex } else r

/-- R11, R111: a line of the page that still waits to be offered no longer counts on the slot. -/
def StoredLine.pageLeft (slot : Nat) (l : StoredLine) : StoredLine :=
  if l.page = slot then { l with discarded := true } else l

/-- R11: a FILLING page is discarded while jobs and readers may stand on it; its writer writes the page that takes its index. -/
def discardPage (slot : Nat) (s : State) : State :=
  let n := (pageOf s slot).document
  let index := indexOf s n slot
  let s := erasePage slot s
  let s := s.onStore (fun st => { st with
    printOut := st.printOut.pageLeft n index, linkOut := st.linkOut.pageLeft n index })
  let s := s.onJobs (fun w => { w with print := { w.print with line := w.print.line.map (StoredLine.pageLeft slot) } })
  s.onJobs (fun w => { w with slots := w.slots.map (Option.map (Job.pageLeft n index)) })

/-- R16, R68: a free-as-read page is removed: as at a discard, and the ranges of the document's jobs lose a page. -/
def removePage (slot : Nat) (s : State) : State :=
  let n := (pageOf s slot).document
  let index := indexOf s n slot
  (discardPage slot s).onJobs (fun w => { w with slots := w.slots.map (Option.map (Job.rangeCut n index)) })

/-! ## The writers' channels -/

/-- The job that writes a document (R6). -/
def writerSlot (s : State) (n : Nat) : Option Nat := (docOf s n).writer.bind (slotOfId s)

def onWriter (n : Nat) (f : Job → Job) (s : State) : State :=
  match writerSlot s n with | some k => onJob k f s | none => s

def dropWaiter (w : Waiter) (s : State) : State :=
  s.onStore (fun st => { st with waiters := st.waiters.filter (fun x => decide (x ≠ w)) })

def addWaiter (w : Waiter) (s : State) : State :=
  s.onStore (fun st => { st with waiters := st.waiters ++ [w] })

/-- The record in the SCAN-IN channel is discarded and its wait ends (R9, R10). -/
def dropScanHeld (s : State) : State :=
  dropWaiter .scanRecord (s.onStore (fun st => { st with scanIn := { st.scanIn with held := none } }))

/-- The record in the LINK-IN channel is discarded and its wait ends. -/
def dropLinkHeld (s : State) : State :=
  dropWaiter .linkRecord (s.onStore (fun st => { st with linkIn := st.linkIn.map (fun c => { c with held := none }) }))

/-- The slot of the record SCAN-IN holds becomes FREE (R93). -/
def freeTaken (s : State) : State :=
  s.onScan (fun x => { x with slots := x.slots.map (fun v => match v with | .coded _ _ true => .free | v => v) })

/-- R22: a page that became DAMAGED while FILLING, or was removed under its writer (log 45), ends for the writer too. -/
def writerLosesPage (slot : Nat) (s : State) : State :=
  let s := if s.store.scanIn.slot = some slot then freeTaken (dropScanHeld s) else s
  if (s.store.linkIn.bind LinkIn.slot) = some slot then
    (dropLinkHeld s).onStore (fun st => { st with linkIn := st.linkIn.map (fun c => { c with reception := .discarding }) })
  else s

/-- The bytes of a record that fit in the last block are written (R8); the rest is left. -/
def putBytes (slot : Nat) (bs : List Byte) (s : State) : State × List Byte :=
  let p := pageOf s slot
  let room := Config.blockBytes - p.bytesUsed
  let s := storeBytes (blockAddress p.lastBlock p.bytesUsed) (bs.take room) s
  (onPage slot (fun p => { p with bytesUsed := p.bytesUsed + (bs.take room).length }) s, bs.drop room)

/-- R8, R9: a record appended; what is left when no block is FREE, the part that fitted lying past the committed extent. -/
def appendRecord (slot : Nat) (bs : List Byte) (s : State) : State × List Byte :=
  let r := putBytes slot bs s
  if r.2 = [] then r
  else match allocate slot r.1 with
    | some s' => putBytes slot r.2 s'
    | none => (onPage slot (fun p => { p with part := bs.length - r.2.length }) r.1, r.2)

/-- R8: the record is whole; R39: one that conceals raises the concealed counts. -/
def commitRecord (slot : Nat) (conceals : Bool) (s : State) : State :=
  let n := (pageOf s slot).document
  let s := onPage slot (fun p => { p with
    committed := p.committed + 1, part := 0, concealed := satAdd 65535 p.concealed conceals.toNat }) s
  onWriter n (fun j => { j with
    linesDone := satAdd 65535 j.linesDone 1, concealed := satAdd 65535 j.concealed conceals.toNat }) s

/-- R42: the page is at its line limit. -/
def atLineLimit (s : State) (slot : Nat) : Bool := decide (s.settings.pageLineLimit ≤ (pageOf s slot).committed)

def dropPageLine (slot : Nat) (s : State) : State := onPage slot (fun p => { p with dropped := satAdd 65535 p.dropped 1 }) s
def dropJobLine (k : Nat) (s : State) : State := onJob k (fun j => { j with dropped := satAdd 65535 j.dropped 1 }) s

/-- R42: the line is discarded and the page's and the job's dropped counts rise. -/
def dropAtLimit (slot : Nat) (s : State) : State :=
  onWriter (pageOf s slot).document (fun j => { j with dropped := satAdd 65535 j.dropped 1 }) (dropPageLine slot s)

/-- R10: a FILLING page ended normally. -/
def endPageNormally (slot : Nat) (s : State) : State :=
  onPage slot (fun p => { p with
    state := if p.state = .filling then (if p.dropped = 0 then .complete else .truncated) else p.state }) s

/-- R10: a FILLING page ended as kept-short. -/
def keepShort (slot : Nat) (s : State) : State :=
  onPage slot (fun p => { p with state := if p.state = .filling then .truncated else p.state }) s

/-! ## Page starts (R7) -/

/-- R6: the page index that the next page of a document takes. -/
def nextIndex (s : State) (n : Nat) : Nat := (docOf s n).pages.length + 1

def lowestEmptyPage (s : State) : Option Nat := s.store.pages.findIdx? (fun p => decide (p.state = .empty))

/-- The page record of R4 at page start. -/
def Page.started (n : Nat) (r : Resolution) (w : PageWidth) (freeAsRead : Bool) : Page :=
  { Page.blank with state := .filling, document := n, resolution := r, width := w, freeAsRead := freeAsRead }

/-- R7: the three checks in order; the slot taken and the state, or the reason. -/
def startPage (n : Nat) (r : Resolution) (w : PageWidth) (freeAsRead : Bool) (s : State) : Except FullReason (Nat × State) :=
  if Config.pagesPerDocument ≤ (docOf s n).pages.length then .error .docPages
  else match lowestEmptyPage s with
    | none => .error .pages
    | some slot =>
      if (lowestFree s).isNone then .error .blocks
      else
        let s := onPage slot (fun _ => Page.started n r w freeAsRead) s
        let s := onDoc n (fun d => { d with pages := d.pages ++ [slot] }) s
        .ok (slot, (allocate slot s).getD s)

/-- STORE with the FULL flag, when a job takes a store-full boundary (R18): for BLOCKS and PAGES. -/
def raiseFull (r : FullReason) (s : State) : State :=
  if r = .docPages then s
  else raise 8 (.store { StoreDetail.plain (freeBlocks s) with full := true, reason := some r }) s

end Sys2Proof.Machine
end

