-- ==== Sys2Proof/Machine/Readers.lean ====
section
/-! DEFINITION. The reader channels: beginning and leaving a page, reading and consuming lines, parity and chain faults, free-as-read
(R12 to R16, R19 to R22, R44). -/

namespace Sys2Proof.Machine

/-- The two readers (01_the_page_store.md). -/
inductive Outlet | print | link
  deriving DecidableEq, Repr

def Outlet.engine : Outlet → Engine | .print => .printer | .link => .linkOut

def readerOf (s : State) (o : Outlet) : Reader := match o with | .print => s.store.printOut | .link => s.store.linkOut

def onReader (o : Outlet) (f : Reader → Reader) (s : State) : State :=
  s.onStore (fun st => match o with
    | .print => { st with printOut := f st.printOut }
    | .link => { st with linkOut := f st.linkOut })

/-- The job whose reader it is. -/
def onReaderJob (o : Outlet) (f : Job → Job) (s : State) : State :=
  match jobHolding s o.engine with | some k => onJob k f s | none => s

/-- The history line becomes white and the history page none (R117). -/
def whitenHistory (s : State) : State :=
  s.onEnergy (fun e => { e with history := List.replicate Config.headDots false, historyPage := none })

/-- R117: PRINT-OUT beginning a page or repositioned whitens the history. -/
def whitenFor (o : Outlet) (s : State) : State := match o with | .print => whitenHistory s | .link => s

/-! ## Chains (R21) -/

/-- R21: the checks of a block a pointer names, for the page being read. -/
def blockGood (s : State) (slot b : Nat) : Bool :=
  decide (b < s.store.blocks.length) &&
    (decide ((blockOf s b).state = .used) || decide ((blockOf s b).state = .suspect)) && decide ((blockOf s b).owner = slot)

/-- The blocks of a chain from `b` on, as far as `last` or `fuel` links. -/
def chainTo (s : State) (last : Nat) : Nat → Nat → List Nat
  | 0, b => [b]
  | fuel + 1, b =>
    if b = last then [b]
    else match (blockOf s b).next with
      | none => [b]
      | some c => b :: chainTo s last fuel c

/-- R20, R21: the page is trimmed at a place after `lines` whole lines, and is DAMAGED. With `none` no block was reached (log 16). -/
def trimPage (slot lines : Nat) (place : Option Cursor) (s : State) : State :=
  let p := pageOf s slot
  let kept := match place with | some c => chainTo s c.block s.store.blocks.length p.firstBlock | none => []
  let extra := (ownedBlocks s slot).filter (fun b => !kept.contains b)
  let s := onPage slot (fun p => { p with
    state := .damaged, committed := lines, blockCount := kept.length
    lastBlock := (match place with | some c => c.block | none => p.lastBlock)
    part := 0
    bytesUsed := (match place with | some c => c.offset | none => 0) }) s
  let s := match place with | some c => onBlock c.block (fun b => { b with next := none }) s | none => s
  freeBlocksOf extra s

/-- R21, R20: a reader on the page beyond the new committed count ends the page where it stands. -/
def Reader.cutShort (slot lines : Nat) (r : Reader) : Reader :=
  if r.slot = some slot ∧ lines < r.readLine then { r with ended := true } else r

/-- The page is DAMAGED for its readers and its writer (R21, R22). -/
def damagePage (slot lines : Nat) (place : Option Cursor) (s : State) : State :=
  let filling := decide ((pageOf s slot).state = .filling)
  let s := trimPage slot lines place s
  let s := if filling then writerLosesPage slot s else s
  s.onStore (fun st => { st with printOut := st.printOut.cutShort slot lines, linkOut := st.linkOut.cutShort slot lines })

/-- The document and page index of a page, as STORE gives them (R18). -/
def placeOf (s : State) (slot : Nat) : Nat × Nat := ((pageOf s slot).document, indexOf s (pageOf s slot).document slot)

/-- R21: a chain fault found by a reader: the page ends at the last line it read whole. A block that passed its check stays as the
last block, though the faulty record began at its offset 0 (log 66). -/
def chainFault (o : Outlet) (slot : Nat) (s : State) : State :=
  let r := readerOf s o
  let place := if r.readAt.unchecked then none else some r.readAt
  let s := damagePage slot r.readLine place s
  let s := raise 8 (.store { StoreDetail.plain (freeBlocks s) with
    chain := true, chainFaults := 1, damaged := some (placeOf s slot) }) s
  onReader o (fun r => { r with ended := true }) s

/-! ## Beginning, leaving, repositioning (R12, R14, R16) -/

/-- The position at line 0 of a page. -/
def Reader.atStart (first : Nat) (w : PageWidth) (r : Reader) : Reader :=
  { r with ended := false, readLine := 0, readAt := ⟨first, 0, true⟩, consumedLine := 0, consumedAt := ⟨first, 0, true⟩,
           lastRead := blankLine w, lastConsumed := blankLine w, inFlight := [] }

/-- R12: a reader begins a page, with the check of its first block (R21). -/
def beginPage (o : Outlet) (n index slot : Nat) (freeAsRead : Bool) (s : State) : State :=
  let p := pageOf s slot
  let s := onReader o (fun r => { r.atStart p.firstBlock p.width with document := n, pageIndex := index, slot := some slot }) s
  let s := onPage slot (fun p => { p with readers := p.readers + 1, freeAsRead := p.freeAsRead || freeAsRead }) s
  let s := whitenFor o s
  if p.blockCount ≠ 0 ∧ !(blockGood s slot p.firstBlock) then chainFault o slot s
  else onReader o (fun r => { r with readAt := { r.readAt with unchecked := false }, consumedAt := { r.consumedAt with unchecked := false } }) s

/-- R16: the last reader has left a free-as-read page: it is removed, or unmarked and kept whole. -/
def lastReaderLeft (slot : Nat) (s : State) : State :=
  let p := pageOf s slot
  if p.fullyConsumed || p.frontFreed then
    removePage slot (if p.state = .filling then writerLosesPage slot s else s)
  else onPage slot (fun p => { p with freeAsRead := false }) s

/-- R16: a free-as-read page is fully consumed when it is not FILLING and the consumed line number has reached its committed count. -/
def Page.markConsumed (line : Nat) (p : Page) : Page :=
  if p.freeAsRead ∧ p.state ≠ .filling ∧ p.committed ≤ line then { p with fullyConsumed := true } else p

/-- R4: PRINT-OUT ends a page that is not FILLING with its consumed position at the committed count, or past it: so a page without lines
counts, and one that was cut behind the reader (log 96, DESIGN CHOICE). -/
def Page.countPrint (line : Nat) (p : Page) : Page :=
  if p.state ≠ .filling ∧ p.committed ≤ line then { p with printCount := satAdd 255 p.printCount 1 } else p

/-- R12, R16: a reader leaves its page. -/
def leavePage (o : Outlet) (s : State) : State :=
  match (readerOf s o).slot with
  | none => onReader o (fun r => { Reader.idle with document := r.document, pageIndex := r.pageIndex }) s
  | some slot =>
    let line := (readerOf s o).consumedLine
    let s := onReader o (fun r => { Reader.idle with document := r.document, pageIndex := r.pageIndex }) s
    let s := onPage slot (fun p => { p.markConsumed line with readers := p.readers - 1 }) s
    if (pageOf s slot).readers = 0 && (pageOf s slot).freeAsRead then lastReaderLeft slot s else s

/-- R14: the read position goes back to the consumed position; lines read beyond it are dropped. -/
def toConsumed (o : Outlet) (s : State) : State :=
  whitenFor o (onReader o (fun r => { r with
    readLine := r.consumedLine, readAt := r.consumedAt, lastRead := r.lastConsumed, inFlight := [], ended := r.slot.isNone }) s)

/-- R14: both positions go back to line 0. -/
def toStart (o : Outlet) (s : State) : State :=
  match (readerOf s o).slot with
  | none => toConsumed o s
  | some slot => whitenFor o (onReader o (Reader.atStart (pageOf s slot).firstBlock (pageOf s slot).width) s)

/-! ## Reading a record (R13, R19, R20, R44) -/

/-- A byte of a chain: its place and its address. -/
structure ChainByte where
  place : Cursor
  address : Nat
  value : Byte

/-- The place after a byte. -/
def Cursor.after (c : Cursor) (n : Nat) : Cursor := ⟨c.block, c.offset + n, false⟩

/-- Where the committed extent of a page ends in its last block (R44): bytes used, less the part of a record not committed. -/
def Page.extent (p : Page) : Nat := p.bytesUsed - p.part

/-- Where the bytes of a block end for a reader that reads from `c`: its end, or the end of the committed extent in the page's last
block. The line that a cut left as its page's last lies past that extent (R20), and is read again to the block's end (log 15). -/
def extentOf (s : State) (slot : Nat) (c : Cursor) : Nat :=
  let p := pageOf s slot
  if c.block = p.lastBlock ∧ ¬(p.state = .damaged ∧ p.extent ≤ c.offset) then p.extent else Config.blockBytes

/-- `n` bytes of DRAM from a place of one block, up to `limit`. -/
def blockRun (s : State) (c : Cursor) (n limit : Nat) : List ChainByte :=
  (List.range (min n (limit - c.offset))).map (fun i =>
    { place := c.after i, address := blockAddress c.block (c.offset + i),
      value := dramByte s.dram (blockAddress c.block (c.offset + i)) })

/-- The block that follows, when its pointer passes R21. -/
def followed (s : State) (slot b : Nat) : Option Nat :=
  match (blockOf s b).next with
  | some c => if blockGood s slot c then some c else none
  | none => none

/-- The next `n` bytes of the chain from a place, block after block, each followed pointer checked (R21); `committedOnly` stops at
the end of the committed extent. Fewer bytes than `n` are all that can be reached. -/
def chainRun (s : State) (slot : Nat) (committedOnly : Bool) : Nat → Cursor → Nat → List ChainByte
  | 0, _, _ => []
  | fuel + 1, c, n =>
    let here := blockRun s c n (if committedOnly then extentOf s slot c else Config.blockBytes)
    if n ≤ here.length then here
    else match followed s slot c.block with
      | some b => here ++ chainRun s slot committedOnly fuel ⟨b, 0, false⟩ (n - here.length)
      | none => here

/-- A record delimited in the chain: its bytes with their places, or the bytes that were read of a malformed one (R44). -/
inductive Delimited
  | record (bytes : List ChainByte)
  | malformed (bytes : List ChainByte)

/-- The bytes that were read (R19). -/
def Delimited.bytes : Delimited → List ChainByte
  | .record bs => bs
  | .malformed bs => bs

/-- R33, R44: a RUNS record with its header, out of the first bytes of the chain, and if they do not complete it out of all of it. -/
def delimitStored (w : PageWidth) (first : List ChainByte) (all : Unit → List ChainByte) : Delimited :=
  match delimitRuns w.dots 0 0 ((first.drop 1).map ChainByte.value) with
  | .whole n => .record (first.take (n + 1))
  | .overshoot n => .malformed (first.take (n + 1))
  | .cut =>
    match delimitRuns w.dots 0 0 (((all ()).drop 1).map ChainByte.value) with
    | .whole n => .record ((all ()).take (n + 1))
    | .overshoot n => .malformed ((all ()).take (n + 1))
    | .cut => .malformed (all ())

/-- R32, R33, R44: the record at a place that is not at a block's end. -/
def delimit (s : State) (slot : Nat) (w : PageWidth) (c : Cursor) : Delimited :=
  match chainRun s slot false 1 c 1 with
  | [] => .malformed []
  | h :: _ =>
    match itemKind h.value with
    | some .white => .record [h]
    | some .repeated => .record [h]
    | some .runs =>
      let blocks := s.store.blocks.length
      delimitStored w (h :: (chainRun s slot true 2 c 257).drop 1) (fun _ => h :: (chainRun s slot true blocks c (blocks * Config.blockBytes)).drop 1)
    | some .literal =>
      let bs := chainRun s slot false 2 c w.literalLength
      if bs.length = w.literalLength then .record bs else .malformed bs
    | _ => .malformed [h]

/-- The bytes of a record that fail twice (R19): an error on the first read makes every byte be read once more. -/
def twiceFailing (f : ParityFaults) (bs : List ChainByte) : List ChainByte :=
  if bs.any (fun b => f.first.contains b.address) then bs.filter (fun b => f.reread.contains b.address) else []

/-- A parity error on the first read that the second read does not show (R19). -/
def recoveredRead (f : ParityFaults) (bs : List ChainByte) : Bool :=
  bs.any (fun b => f.first.contains b.address) && !bs.any (fun b => f.reread.contains b.address)

/-- The place just past a record. -/
def placeAfter (c : Cursor) (bs : List ChainByte) : Cursor :=
  match bs.getLast? with | some b => b.place.after 1 | none => c

/-- R20: the blocks of twice-failing bytes become SUSPECT if USED. -/
def suspectBlocks (bs : List Nat) (s : State) : State :=
  bs.foldl (fun s b => onBlock b (fun x => if x.state = .used then { x with state := .suspect } else x) s) s

/-- A line handed on: the read position passes its record (R13). -/
def handOn (o : Outlet) (image : Line) (record : List Byte) (after : Cursor) (s : State) : State :=
  onReader o (fun r => { r with
    readLine := r.readLine + 1, readAt := after, lastRead := image
    inFlight := r.inFlight ++ [⟨r.readLine, image, record, after⟩] }) s

/-- R20: the line is concealed; a failing header or RUNS body cuts the page after it (log 15). Where two blocks fail, STORE names the
later one (log 53), a block that was SUSPECT already too (log 76); bytes delimited by a header that itself fails count (log 77). -/
def conceal (o : Outlet) (slot : Nat) (w : PageWidth) (bs : List ChainByte) (failing : List ChainByte) (s : State) : State :=
  let r := readerOf s o
  let headFails := failing.any (fun b => decide (some b.address = bs.head?.map ChainByte.address))
  let isRuns := (bs.head?.map ChainByte.value) = some headRuns
  let cut := headFails || isRuns
  let blocks := (failing.map (fun b => b.place.block)).dedup
  let s := suspectBlocks blocks s
  let s := onPage slot (fun p => { p with concealed := satAdd 65535 p.concealed 1 }) s
  let s := onReaderJob o (fun j => { j with concealed := satAdd 65535 j.concealed 1 }) s
  let s := if cut then damagePage slot (r.readLine + 1) (some r.readAt) s else s
  let s := raise 8 (.store { StoreDetail.plain (freeBlocks s) with
    parity := true, parityReads := 1, suspect := blocks.getLast?
    damaged := if cut then some (placeOf s slot) else none }) s
  let image := if r.readLine = 0 then blankLine w else r.lastRead
  let record := if r.readLine = 0 then [headWhite] else [headRepeat]
  let s := handOn o image record (if cut then r.readAt else placeAfter r.readAt bs) s
  if cut then onReader o (fun r => { r with ended := true }) s else s

/-- R19: an error that the second read does not show raises the recovered count. -/
def countRecovered (bs : List ChainByte) (s : State) : State :=
  if recoveredRead s.dramFaults bs then s.onStore (fun st => { st with recovered := satAdd 65535 st.recovered 1 }) else s

/-- R13, R19, R20, R44: the record at the read position, which is not at a block's end: parity is judged first, then the record. -/
def readHere (o : Outlet) (slot : Nat) (s : State) : State :=
  let r := readerOf s o
  let w := (pageOf s slot).width
  let d := delimit s slot w r.readAt
  let failing := twiceFailing s.dramFaults d.bytes
  if failing ≠ [] then conceal o slot w d.bytes failing s
  else match d with
    | .malformed bs => chainFault o slot (countRecovered bs s)
    | .record bs =>
      let record := bs.map ChainByte.value
      handOn o (expandRecord w r.lastRead record) record (placeAfter r.readAt bs) (countRecovered bs s)

/-- The read position stands in a block that has been checked (R21). -/
def arriveAt (o : Outlet) (c : Cursor) (s : State) : State := onReader o (fun r => { r with readAt := { c with unchecked := false } }) s

/-- R13: the next line of the reader's page is read: at offset 2048 the next pointer is followed first, with the check of R21. -/
def readLineOf (o : Outlet) (s : State) : State :=
  let r := readerOf s o
  match r.slot with
  | none => s
  | some slot =>
    if r.readAt.offset = Config.blockBytes then
      match followed s slot r.readAt.block with
      | none => chainFault o slot s
      | some b => readHere o slot (arriveAt o ⟨b, 0, false⟩ s)
    else if r.readAt.unchecked && !(blockGood s slot r.readAt.block) then chainFault o slot s
    else readHere o slot (arriveAt o r.readAt s)

/-- Where a reader stands on its page (R13). -/
inductive Standing | ready | starved | pageEnd
  deriving DecidableEq, Repr

def standing (s : State) (o : Outlet) : Standing :=
  let r := readerOf s o
  match r.slot with
  | none => .pageEnd
  | some slot =>
    if r.ended then .pageEnd
    else if r.readLine < (pageOf s slot).committed then .ready
    else if (pageOf s slot).state = .filling then .starved else .pageEnd

/-! ## Consumption (R14 to R16) -/

/-- R14: the oldest line handed on is consumed. -/
def consumeLine (o : Outlet) (s : State) : State :=
  match (readerOf s o).inFlight with
  | [] => s
  | l :: rest =>
    let s := onReader o (fun r => { r with
      consumedLine := r.consumedLine + 1, consumedAt := l.after, lastConsumed := l.image, inFlight := rest }) s
    onReaderJob o (fun j => { j with linesDone := satAdd 65535 j.linesDone 1 }) s

/-- `n` lines consumed in order. -/
def consumeLines (o : Outlet) : Nat → State → State
  | 0, s => s
  | n + 1, s => consumeLines o n (consumeLine o s)

/-- The consumed position has passed every record that touches the block (R15). -/
def Reader.past (b : Nat) (r : Reader) : Bool :=
  decide (r.consumedAt.block ≠ b) || decide (r.consumedAt.offset = Config.blockBytes)

/-- A place at the end of a freed block becomes the start of the next one, its pointer still to be checked (R21). -/
def Cursor.movedOff (b next : Nat) (c : Cursor) : Cursor :=
  if c.block = b ∧ c.offset = Config.blockBytes then ⟨next, 0, true⟩ else c

def ReadLine.movedOff (b next : Nat) (l : ReadLine) : ReadLine := { l with after := l.after.movedOff b next }

def Reader.movedOff (slot b next : Nat) (r : Reader) : Reader :=
  if r.slot = some slot then
    { r with readAt := r.readAt.movedOff b next, consumedAt := r.consumedAt.movedOff b next,
             inFlight := r.inFlight.map (ReadLine.movedOff b next) }
  else r

/-- R15: the three conditions for freeing a page's first block; the block that follows it. -/
def frontToFree (s : State) (slot : Nat) : Option Nat :=
  let p := pageOf s slot
  let readers := [s.store.printOut, s.store.linkOut].filter (fun r => decide (r.slot = some slot))
  if p.freeAsRead && decide (p.state ≠ .empty) && decide (p.firstBlock ≠ p.lastBlock) && !readers.isEmpty &&
      readers.all (Reader.past p.firstBlock) && decide (2 ≤ p.blockCount) then
    (blockOf s p.firstBlock).next
  else none

/-- R15: the first block is freed. -/
def freeFront (slot next : Nat) (s : State) : State :=
  let b := (pageOf s slot).firstBlock
  let s := onPage slot (fun p => { p with firstBlock := next, blockCount := p.blockCount - 1, frontFreed := true }) s
  let s := s.onStore (fun st => { st with
    printOut := st.printOut.movedOff slot b next, linkOut := st.linkOut.movedOff slot b next })
  freeBlock b s

/-- R15 for the page of a reader. -/
def farRule (o : Outlet) (s : State) : Option State :=
  match (readerOf s o).slot with
  | none => none
  | some slot => (frontToFree s slot).map (fun next => freeFront slot next s)

end Sys2Proof.Machine
end

