-- ==== Sys2Proof/Machine/FeedOps.lean ====
section
/-! DEFINITION. The feed motion controllers and the cutter: stop requests, admission, allowances, levels, steps, currents (R122 to
R133, R138). -/

namespace Sys2Proof.Machine

/-! ## Stop requests (R128) -/

def motorEngine : Motor → Engine | .scan => .scanner | .print => .printer

/-- The six causes of a stop request (R128). -/
structure StopCauses where
  hold : Bool
  boundary : Bool
  starved : Bool
  thermal : Bool
  supply : Bool
  ended : Bool
  deriving DecidableEq, Repr

def StopCauses.list (c : StopCauses) : List Bool := [c.hold, c.boundary, c.starved, c.thermal, c.supply, c.ended]

/-- A job stopped by JOB-HOLD or the silence supervisor (R57, R128); a boundary code that replaces the pending HOLD ends that request
(log 82). -/
def Job.stopsForHold (j : Job) : Bool :=
  (decide (j.state = .holding) && decide (j.pendingStop = some .hold)) || decide (j.state = .held)

/-- A job stopped by a boundary code (R57, R128). -/
def Job.stopsForBoundary (j : Job) : Bool :=
  (decide (j.state = .holding) && decide (j.pendingStop ≠ some .hold)) || decide (j.state = .boundary)

/-- R118: a PRINT or COPY job holds the PRINTER. -/
def printJobHolds (s : State) : Bool := (jobHolding s .printer).isSome

/-- The stop requests in force on a controller (R128). -/
def stopCauses (s : State) (m : Motor) : StopCauses :=
  let j := (jobHolding s (motorEngine m)).bind (jobIn s)
  let print := decide (m = .print) && printJobHolds s
  { hold := (j.map Job.stopsForHold).getD false
    boundary := (j.map Job.stopsForBoundary).getD false
    starved := (j.map (fun j => match m with | .scan => j.starvedWrite | .print => j.starvedRead)).getD false
    thermal := print && s.energy.thermalHold
    supply := print && s.energy.supplyHold
    ended := opRuns s (motorEngine m) .drain }

def stopped (s : State) (m : Motor) : Bool := (stopCauses s m).list.any id

/-! ## Levels (R122, R125, R126) -/

/-- The interval of a level of a motor's speed table (R122). -/
def interval (s : State) (m : Motor) (level : Nat) : Nat := s.settings.ramp m level

/-- R122: the fastest level whose interval is at least I_req, level 0 when none is. -/
def targetLevel (g : Settings) (m : Motor) (ireq : Nat) : Nat :=
  (((List.range 16).filter (fun l => decide (ireq ≤ g.ramp m l))).getLast?).getD 0

/-- The caps of a queue's steps not yet taken, after an entry of target `before` (R125): the first step of an entry is held to the
lower of its target and that of the entry before. -/
def capsOf (before : Option Nat) : List Entry → List Nat
  | [] => []
  | e :: rest =>
    let first := if e.left = e.steps then (match before with | some t => min t e.target | none => e.target) else e.target
    (List.replicate (min 1 e.left) first ++ List.replicate (e.left - 1) e.target) ++ capsOf (some e.target) rest

/-- R125: the allowances, backwards from the last queued step. -/
def allowances : List Nat → List Nat
  | [] => []
  | [_] => [0]
  | c :: rest =>
    match allowances rest with
    | [] => [0]
    | a :: as => min c (a + 1) :: a :: as

/-- The allowances of the steps not yet taken (R125). -/
def Feed.allowances (f : Feed) : List Nat :=
  Machine.allowances (capsOf (if f.moving then some f.lastTarget else none) f.queue)

/-- R126: the level of the next step of a motion in progress. -/
def Feed.nextLevel (f : Feed) : Nat := min (f.level + 1) (f.allowances.headD 0)

/-! ## Admission (R123) -/

/-- R123: the queue has room and no stop request is in force. -/
def admits (s : State) (m : Motor) : Bool :=
  decide ((feedOf s m).queue.length < Config.queueEntries) && !stopped s m

def enqueue (m : Motor) (e : Entry) (s : State) : State := onFeed m (fun f => { f with queue := f.queue ++ [e] }) s

/-- A RUN entry (R123): target 15. -/
def runEntry (purpose : RunPurpose) (steps : Nat) : Entry := ⟨.run purpose, steps, steps, 0, 15, false⟩

def Entry.isRun (p : RunPurpose) (e : Entry) : Bool := decide (e.kind = .run p)
def Entry.isLine (e : Entry) : Bool := match e.kind with | .run _ => false | _ => true

/-- R129, R130: LINE entries become FEED-ONLY. -/
def Entry.feedOnly (e : Entry) : Entry := if e.isLine then { e with due := false } else e

/-! ## Motor power and current (R131, R132) -/

/-- R124, R132, R138: a motion may begin: the motor is at rest with an entry, motor power is available, the cutter is not running. -/
def motionDue (s : State) (m : Motor) : Bool :=
  !(feedOf s m).moving && !(feedOf s m).queue.isEmpty && s.energy.ready && !s.mech.cutter.drives

/-- R131, R132: both motors go to OFF. -/
def motorsOff (s : State) : State :=
  let off := fun (f : Feed) => { f with current := MotorState.off, since := s.now }
  onFeed .print off (onFeed .scan off s)

/-- R133: the value a generator is given: a motor's current state, the lamp. -/
def motorValue (g : Settings) (m : Motor) (c : MotorState) : Nat :=
  match c with
  | .off => 0
  | .energizing => g.runCurrent m
  | .run => g.runCurrent m
  | .hold => g.holdCurrent m

def givenValue (s : State) : Pwm → Nat
  | .scanMotor => motorValue s.settings .scan s.mech.scanFeed.current
  | .printMotor => motorValue s.settings .print s.mech.printFeed.current
  | .lamp => if s.scan.lamp.since.isSome then s.settings.lampLevel else 0

/-- R133: the high counts of the generator's present period. -/
def Generator.highCounts (g : Generator) : Nat := g.value / 4 + (if g.cycle < g.value % 4 then 1 else 0)

/-! ## Steps (R124, R126, R127) -/

/-- R124: the interval before the next step, at the level it will have. -/
def nextInterval (s : State) (m : Motor) : Nat :=
  let f := feedOf s m
  max (interval s m f.nextLevel) (max ((f.queue.head?.map Entry.ireq).getD 0) f.lastIreq)

/-- R124: the rest interval after the last step. -/
def restInterval (s : State) (m : Motor) : Nat := max (interval s m 0) (feedOf s m).lastIreq

/-- The next step is the first of its entry (R127). -/
def Feed.atFirstStep (f : Feed) : Bool := match f.queue with | e :: _ => decide (e.left = e.steps) | [] => false

/-- A step counted on the entry at the head of the queue; it leaves the queue with its last (R123). -/
def stepEntry : List Entry → List Entry
  | [] => []
  | e :: rest => if e.left ≤ 1 then rest else { e with left := e.left - 1 } :: rest

/-- R124, R126: the controller's own part of a step, at a level. -/
def Feed.stepped (level now : Nat) (f : Feed) : Feed :=
  { f with
    queue := stepEntry f.queue, level := level, stepCount := (f.stepCount + 1) % 4294967296, lastAt := now
    lastIreq := (f.queue.head?.map Entry.ireq).getD 0, lastTarget := (f.queue.head?.map Entry.target).getD 0 }

/-! ## The cutter (R138) -/

/-- A cut cycle begins: from IDLE in LEAVING, from AWAY in RETURNING. -/
def beginCycle (s : State) : State :=
  s.onMech (fun x => { x with cutter :=
    ⟨match x.cutter.state with | .idle => .leaving | .leaving => .leaving | _ => .returning, s.now⟩ })

end Sys2Proof.Machine
end

