-- ==== Sys2Proof/Machine/EnergyOps.lean ====
section
/-! DEFINITION. The Print Energy Unit: the computation of a line, its samples and holds, and HEADPWR (R103 to R119, R104, R146, R148). -/

namespace Sys2Proof.Machine

/-! ## The computation for one line (R106 to R113) -/

/-- Dots of head block b (R107). -/
def headBlock (l : Line) (b : Nat) : Line := (l.drop (216 * b)).take 216

def blackCount (l : Line) : Nat := (l.filter id).length

/-- The new-dot image: black in the line and white in the history (R106). -/
def freshDots (l history : Line) : Line := (l.zip history).map (fun p => p.1 && !p.2)

/-- How many dots are new (R106). -/
def newDots (l history : Line) : Nat := blackCount (freshDots l history)

/-- n_b and new_b of each head block (R107). -/
def blockCounts (l history : Line) : List (Nat × Nat × Nat) :=
  (List.range 8).map (fun b => (b, blackCount (headBlock l b), newDots (headBlock l b) (headBlock history b)))

/-- A phase before its widths: head blocks, N_p, M_p (R108). -/
structure Group where
  blocks : List Nat
  dots   : Nat
  fresh  : Nat
  deriving DecidableEq, Repr

/-- R108: head blocks placed in order, `current` being the phase in progress. -/
def groupBlocks (limit : Nat) (current : Group) : List (Nat × Nat × Nat) → List Group
  | [] => if current.blocks = [] then [] else [current]
  | (b, n, m) :: rest =>
    if n = 0 then groupBlocks limit current rest
    else if current.blocks = [] ∨ current.dots + n ≤ limit then
      groupBlocks limit ⟨current.blocks ++ [b], current.dots + n, current.fresh + m⟩ rest
    else current :: groupBlocks limit ⟨[b], n, m⟩ rest

/-- R108: the phase plan's groups. -/
def phaseGroups (limit : Nat) (l history : Line) : List Group := groupBlocks limit ⟨[], 0, 0⟩ (blockCounts l history)

/-- R109: the base width of a thermistor sample. -/
def baseWidth (g : Settings) (thermistor : Nat) : Nat := g.energy (thermistor / 16)

/-- R110: the sample clamped into the window of VNOM. -/
def clampSupply (vnom v : Nat) : Nat := max (7 * vnom / 8) (min v (9 * vnom / 8))

/-- R110: Wv. -/
def supplyWidth (wb vnom v : Nat) : Nat := wb * vnom * vnom / (clampSupply vnom v * clampSupply vnom v)

/-- R111: Wl_p. -/
def loadWidth (wv dots loadK : Nat) : Nat := wv + wv * dots * loadK / 65536

/-- R111, R112: a phase from its group. -/
def phaseOf (g : Settings) (wv : Nat) (q : Group) : Phase :=
  let wp := min (loadWidth wv q.dots g.loadK) g.wmax
  let s1 := wp * g.historyH / 16
  { blocks := q.blocks, dots := q.dots, newDots := q.fresh, s1 := s1, s2 := wp - s1
    fireS2 := decide (0 < q.fresh) && decide (0 < wp - s1) }

/-- R111: the width of the group is clamped. -/
def clampsWidth (g : Settings) (wv : Nat) (q : Group) : Bool := decide (g.wmax < loadWidth wv q.dots g.loadK)

/-- R112: the phase time. -/
def Phase.time (p : Phase) : Nat := p.s1 + (if p.fireS2 then p.s2 else 0) + phaseGap

/-- What the unit works out for a line (R106 to R113). -/
structure LinePlan where
  phases  : List Phase
  clamped : Nat
  ireq    : Nat
  deriving DecidableEq, Repr

/-- R113: the line time of a plan. -/
def lineTime (phases : List Phase) : Nat := max ((phases.map Phase.time).sum) shiftTime

/-- R106 to R113: the plan of a line against its history line, with its samples, over its feed steps. -/
def planLine (g : Settings) (l history : Line) (thermistor supply steps : Nat) : LinePlan :=
  let wv := supplyWidth (baseWidth g thermistor) g.vnom supply
  let groups := phaseGroups g.dotLimit l history
  let phases := groups.map (phaseOf g wv)
  { phases := phases, clamped := (groups.filter (clampsWidth g wv)).length, ireq := ceilDiv (lineTime phases) steps }

/-! ## Samples and holds (R103, R118, R119) -/

/-- R118. -/
def judgeThermal (g : Settings) (c : Nat) (hold : Bool) : Bool :=
  if g.hotLimit ≤ c then true else if c ≤ g.resumeLimit then false else hold

/-- R119. -/
def judgeSupply (g : Settings) (v : Nat) (hold : Bool) : Bool :=
  if v < 3 * g.vnom / 4 then true else if 7 * g.vnom / 8 ≤ v then false else hold

/-- R103: a pair of samples replaces the latest and is judged; SUPPLY is raised each time the supply hold becomes SET (R119). -/
def takeSamples (thermistor supply : Byte) (s : State) : State :=
  let judged := decide (s.power.mode = .active) && s.energy.ready
  let supplyHold := if judged then judgeSupply s.settings supply.toNat s.energy.supplyHold else s.energy.supplyHold
  let raised := supplyHold && !s.energy.supplyHold
  let s := s.onEnergy (fun e => { e with
    thermistor := thermistor.toNat, supply := supply.toNat
    thermalHold := judgeThermal s.settings thermistor.toNat e.thermalHold, supplyHold := supplyHold })
  if raised then raise 3 (.supply true false (some (supply.toNat, s.settings.vnom))) s else s

/-! ## HEADPWR (R104, R146, R148) -/

/-- R116: a strobe in progress is cut; its line is not strobed. -/
def cutStrobe (s : State) : State :=
  if s.energy.firing.isSome then whitenHistory (s.onEnergy (fun e => { e with firing := none })) else s

/-- R104: HEADPWR is switched off: NOT-READY, the strobe cut, the history white, the supply hold CLEAR. -/
def headOff (s : State) : State :=
  let s := whitenHistory (cutStrobe s)
  (s.onEnergy (fun e => { e with ready := false, supplyHold := false })).onPower (fun p => { p with headSince := none })

/-- HEADPWR is switched on if COVER shows CLOSED; the settling is counted from now (R104, R137, R146). -/
def headOn (s : State) : State :=
  if s.levels.coverOpen || s.power.headPower then s else s.onPower (fun p => { p with headSince := some s.now })

/-- R146: ACTIVE is entered; a cause taken again leaves the mode as it is. The first pair of timed samples (R103) is due 10 ms from
here (log 88, DESIGN CHOICE). -/
def enterActive (s : State) : State :=
  if s.power.mode = .standby then
    headOn ((s.onPower (fun p => { p with mode := .active, idleFrom := none })).onEnergy (fun e => { e with lastTimed := some s.now }))
  else s

/-- R148: STANDBY is entered from ACTIVE. -/
def enterStandby (s : State) : State :=
  let s := motorsOff (headOff s)
  (s.onPower (fun p => { p with mode := .standby, dozeFrom := none, idleFrom := none })).onEnergy (fun e => { e with lastTimed := none })

/-- R150: DOZE is entered: HOLD follows from the mode, a partial frame is discarded with no count, one
not yet judged with it (log 72), the DRAM is in self-refresh. -/
def enterDoze (s : State) : State :=
  let s := (s.onPower (fun p => { p with mode := .doze, dozeFrom := none, causes := .none })).onLink
    (fun l => { l with receiver := .hunt, dozeAccepted := false })
  s.onStart (fun t => { t with selfRefresh := true })

/-- R151, R152: a wake cause ends DOZE, or is gathered in WAKING. -/
def wakeCause (c : WakeCauses) (s : State) : State :=
  match s.power.mode with
  | .doze => s.onPower (fun p => { p with mode := .waking, wakingAt := s.now, causes := c })
  | .waking => s.onPower (fun p => { p with causes := p.causes.union c })
  | _ => s

end Sys2Proof.Machine
end

