-- ==== Sys2Proof/Machine/JobOps.lean ====
section
/-! DEFINITION. The Work Order Controller's shared operations: stops and boundaries, wait lists and grants, yields, and the end of a job
(R48 to R64). -/

namespace Sys2Proof.Machine

/-! ## What a kind claims (R50) -/

def JobKind.scans (k : JobKind) : Bool := decide (k = .scan) || decide (k = .copy)
def JobKind.prints (k : JobKind) : Bool := decide (k = .print) || decide (k = .copy)
def JobKind.writes (k : JobKind) : Bool := k.scans || decide (k = .receive)

def JobKind.engines : JobKind → List Engine
  | .scan => [.scanner] | .print => [.printer] | .receive => [.linkIn] | .send => [.linkOut] | .copy => [.scanner, .printer]

/-- The kind of the job in a slot. -/
def kindIn (s : State) (k : Nat) : Option JobKind := (jobIn s k).map Job.kind

/-- R48: the page index of the page a scanning job writes, in the field its kind has for it. -/
def Job.writesPage (index : Nat) (j : Job) : Job :=
  if j.kind = .copy then { j with scanPage := index } else { j with currentPage := index }

/-- The job that scans, with its slot. -/
def scanJob (s : State) : Option (Nat × Job) := (jobHolding s .scanner).bind (fun k => (jobIn s k).map (fun j => (k, j)))
/-- The job that prints, with its slot. -/
def printJob (s : State) : Option (Nat × Job) := (jobHolding s .printer).bind (fun k => (jobIn s k).map (fun j => (k, j)))
/-- The job that sends, with its slot. -/
def sendJob (s : State) : Option (Nat × Job) := (jobHolding s .linkOut).bind (fun k => (jobIn s k).map (fun j => (k, j)))
/-- The job that receives, with its slot. -/
def receiveJob (s : State) : Option (Nat × Job) := (jobHolding s .linkIn).bind (fun k => (jobIn s k).map (fun j => (k, j)))

/-- Every motor of the job's engines rests (R57). -/
def jobRests (s : State) (k : Nat) : Bool :=
  (decide (jobHolding s .scanner ≠ some k) || (feedOf s .scan).rests) &&
    (decide (jobHolding s .printer ≠ some k) || (feedOf s .print).rests)

/-! ## The scan buffer and page of a job (R93) -/

/-- A captured line is abandoned and every slot FREE: the page's lines leave the buffer (R93). -/
def freeSlots (s : State) : State :=
  s.onScan (fun x => { x with slots := List.replicate Config.lineSlots .free, capture := none })

/-- The scan page is discarded with its lines (R11, R93), if it is FILLING; a DAMAGED page stays as it is (R22). -/
def discardScanPage (s : State) : State :=
  match s.store.scanIn.slot with
  | none => freeSlots s
  | some slot =>
    let s := dropScanHeld (freeSlots s)
    let s := s.onStore (fun st => { st with scanIn := ⟨none, none⟩ })
    if (pageOf s slot).state = .filling then discardPage slot s else s

/-- The scan page is kept short (R10), its record in the channel and its lines in the buffer discarded. -/
def keepScanPage (s : State) : State :=
  match s.store.scanIn.slot with
  | none => freeSlots s
  | some slot =>
    let s := dropScanHeld (freeSlots s)
    keepShort slot (s.onStore (fun st => { st with scanIn := ⟨none, none⟩ }))

/-- R37, R61: the LINK-IN page at the job's end, kept short or discarded. -/
def endLinkPage (keep : Bool) (s : State) : State :=
  match s.store.linkIn.bind LinkIn.slot with
  | none => dropLinkHeld s
  | some slot =>
    let s := dropLinkHeld s
    if keep then keepShort slot s
    else if (pageOf s slot).state = .filling then discardPage slot s else s

/-! ## Stops and boundaries (R57, R63, R80) -/

def jobDetail (j : Job) (final : Option FinalStatus) (b : Option Boundary) : JobDetail :=
  { job := j.id, kind := j.kind, final := final, boundary := b, document := j.document, page := j.currentPage,
    copy := j.currentCopy, pages := j.pagesDone }

/-- The JOB-n source of a slot (R49, R80). -/
def raiseJob (k : Nat) (final : Option FinalStatus) (s : State) : State :=
  match jobIn s k with
  | some j => raise (4 + k) (.job (jobDetail j final (if final.isSome then none else j.boundary))) s
  | none => s

/-- What setting a code does besides (R18, R65, R66, R87): an SC-JAM discards the page, and a page start that waits is asked
for no more; a store-full boundary raises STORE. -/
def codeEffect (b : Boundary) (s : State) : State :=
  match b.code with
  | .scJam => dropWaiter .pageStart (discardScanPage s)
  | .scFull | .rxFull =>
    (match b.reason with
     | some .blocks => raiseFull .blocks s
     | some .pages => raiseFull .pages s
     | _ => s)
  | _ => s

/-- R63: the job enters BOUNDARY with its code and detail, and raises its JOB event. -/
def enterBoundary (k : Nat) (b : Boundary) (s : State) : State :=
  let s := codeEffect b s
  raiseJob k none (onJob k (fun j => { j with state := .boundary, boundary := some b, pendingStop := none }) s)

/-- R57: what a job that is HOLDING for `stop` enters at rest. -/
def enterStopped (k : Nat) (stop : Stop) (s : State) : State :=
  match stop with
  | .hold => onJob k (fun j => { j with state := .held, pendingStop := none }) s
  | .code b => enterBoundary k b s

/-- R57: a stop of the job: at once where its motors rest, otherwise HOLDING until they do. -/
def stopJob (k : Nat) (stop : Stop) (s : State) : State :=
  if jobRests s k then enterStopped k stop s
  else onJob k (fun j => { j with state := .holding, pendingStop := some stop }) s

/-- The boundary of a code with no reason. -/
def plainCode (c : BoundaryCode) : Boundary := ⟨c, none, none⟩

/-- R63: the automatic answer of a code for the job. -/
def automatic (j : Job) (c : BoundaryCode) : Option Choice :=
  if j.holdAtBoundary then none
  else match c with
    | .scMore | .prMore | .txMore => some .next
    | .scLast | .prLast | .txLast | .cpDone => some .finish
    | _ => none

/-- R57, R63: the job can meet a code now: RUNNING, or HOLDING for HOLD; with an automatic answer in HELD too (log 18). -/
def canMeet (j : Job) (c : BoundaryCode) : Bool :=
  decide (j.state = .running) || (decide (j.state = .holding) && decide (j.pendingStop = some .hold)) ||
    (decide (j.state = .held) && (automatic j c).isSome)

/-! ## Wait lists and grants (R53, R54) -/

def priorityIn (s : State) (k : Nat) : Nat := ((jobIn s k).map Job.priority).getD 0

/-- R53: a job joins a list behind every job of its priority or higher; one that yields, ahead of those of its own priority. -/
def joinList (s : State) (k : Nat) (yields : Bool) (l : List Nat) : List Nat :=
  let p := priorityIn s k
  let ahead := fun x => if yields then decide (p < priorityIn s x) else decide (p ≤ priorityIn s x)
  l.takeWhile ahead ++ [k] ++ l.dropWhile ahead

/-- The job takes its place in the list of each engine it claims (R52). -/
def joinLists (k : Nat) (kind : JobKind) (yields : Bool) (s : State) : State :=
  kind.engines.foldl (fun s e => onWaits e (joinList s k yields) s) s

/-- A job leaves every list (R53). -/
def leaveLists (k : Nat) (s : State) : State :=
  [Engine.scanner, .printer, .linkIn, .linkOut].foldl (fun s e => onWaits e (fun l => l.filter (fun x => x != k)) s) s

/-- A side of the machine begins a job's work (R54, R65, R68, R74, R76). -/
def beginWork (e : Engine) (s : State) : State :=
  match e with
  | .scanner => s.onScan (fun x => { x with phase := .look, after := none, lost := none, waitAnswered := false })
  | .printer => s.onJobs (fun w => { w with print := ⟨.needPage, none, .start⟩ })
  | .linkIn => s.onStore (fun st => { st with linkIn := some ⟨.noPage, .w1728, none, none, []⟩ })
  | .linkOut => s.onJobs (fun w => { w with send := ⟨.needPage, false, [], [], none⟩ })

/-- R54: a job is granted its engines: it leaves the lists, is RUNNING, and begins; the SCANNER or PRINTER brings ACTIVE (R146). -/
def grantJob (k : Nat) (kind : JobKind) (s : State) : State :=
  let s := leaveLists k s
  let s := kind.engines.foldl (fun s e => beginWork e (takeEngine e (.job k) s)) s
  let s := onJob k (fun j => { j with state := .running }) s
  if kind.scans || kind.prints then enterActive s else s

/-- R54: the head of an engine's list that the rule grants now. -/
def grantable (s : State) (e : Engine) : Option (Nat × JobKind) :=
  if holderOf s e ≠ .free then none
  else match (s.jobs.waits.at e).head? with
    | none => none
    | some k =>
      match kindIn s k with
      | none => none
      | some .copy =>
        if holderOf s .scanner = .free ∧ holderOf s .printer = .free ∧ s.jobs.waits.scanner.head? = some k ∧
            s.jobs.waits.printer.head? = some k then some (k, .copy) else none
      | some kind => some (k, kind)

/-- R54, for the first engine that has someone to grant. -/
def grantRule (s : State) : Option State :=
  ([Engine.scanner, .printer, .linkIn, .linkOut].findSome? (grantable s)).map (fun p => grantJob p.1 p.2 s)

/-! ## Yielding and moving on (R55, R63) -/

/-- R55: the head of the list of the job's engine has a higher priority. -/
def outranked (s : State) (j : Job) : Bool :=
  match j.kind.engines with
  | [e] => (match (s.jobs.waits.at e).head? with | some h => decide (j.priority < priorityIn s h) | none => false)
  | _ => false

/-- R55: the job yields its engine. -/
def yieldJob (k : Nat) (j : Job) (s : State) : State :=
  let s := onJob k (fun j => { j with state := .waiting, starvedWrite := false, starvedRead := false, sheetWait := false }) s
  let s := j.kind.engines.foldl (fun s e => setHolder e .free s) s
  let s := joinLists k j.kind true s
  match j.kind with
  | .scan => s.onScan (fun x => { x with phase := .off })
  | .print => s.onJobs (fun w => { w with print := .idle })
  | .send => s.onJobs (fun w => { w with send := .idle })
  | _ => s

/-- The job's reader position moves on to its next page (log 14): where the page has left the list, the same index names it. -/
def Job.nextPage (j : Job) : Job :=
  { j with currentPage := if j.pageRemoved then j.currentPage else j.currentPage + 1, pageRemoved := false }

/-- Page `index` of the job's range exists or may yet come (R68, R76). -/
def mayCome (s : State) (j : Job) (index : Nat) : Bool :=
  !j.rangeDone && (decide (j.lastPage = 0) || decide (index ≤ j.lastPage)) &&
    (decide (index ≤ (docOf s j.document).pages.length) || decide ((docOf s j.document).state = .opened))

/-- A further page of the job's range exists or may yet come (R68, R76). -/
def furtherPage (s : State) (j : Job) : Bool := mayCome s j j.nextPage.currentPage

/-- R68, R71: the next copy begins with the first page. -/
def Job.nextCopy (j : Job) : Job := { j with currentCopy := j.currentCopy + 1, currentPage := j.firstPage, pageRemoved := false }

/-! ## The end of a job (R61, R62, R129) -/

/-- R62, 1: the FILLING page of the job by its final status. -/
def endWriting (kind : JobKind) (keep : Bool) (s : State) : State :=
  if kind.scans then (if keep then keepScanPage s else discardScanPage s)
  else if kind = .receive then endLinkPage keep s else s

/-- R62, 2: the job's readers leave their pages. -/
def endReading (kind : JobKind) (s : State) : State :=
  if kind.prints then leavePage .print s else if kind = .send then leavePage .link s else s

/-- R6, R50: the writer role is given up and the document CLOSED. -/
def giveUpWriting (n id : Nat) (s : State) : State :=
  if (docOf s n).writer = some id then onDoc n (fun d => { d with writer := none, state := .closed }) s else s

/-- R62, 3. -/
def leaveDocument (j : Job) (s : State) : State :=
  giveUpWriting j.document j.id (onDoc j.document (fun d => { d with users := d.users - 1 }) s)

/-- R129: the internal operations that hold an ended job's mechanism engine. -/
def drainOps (s : State) (e : Engine) : List InternalOp :=
  let m := if e = .scanner then Motor.scan else Motor.print
  (if (feedOf s m).rests then [] else [.drain]) ++ (if e = .printer ∧ s.mech.cutter.drives then [.cutCycle] else [])

/-- R129: every LINE entry of the queue becomes FEED-ONLY. -/
def feedOnlyQueue (m : Motor) (s : State) : State := onFeed m (fun f => { f with queue := f.queue.map Entry.feedOnly }) s

/-- An engine given up by an ended job (R61, R129). -/
def releaseEngine (e : Engine) (s : State) : State :=
  match e with
  | .scanner =>
    let s := dropWaiter .pageStart (feedOnlyQueue .scan s)
    let s := s.onScan (fun x => { x with
      phase := .off, sheet := Sheet.none, eject := none, after := none, lost := none, waitAnswered := false })
    setHolder e (if drainOps s e = [] then .free else .internal (drainOps s e)) s
  | .printer =>
    let s := feedOnlyQueue .print s
    let s := s.onJobs (fun w => { w with print := .idle })
    setHolder e (if drainOps s e = [] then .free else .internal (drainOps s e)) s
  | .linkIn =>
    let n := ((s.store.linkIn.map LinkIn.queue).getD []).length
    let s := (List.range n).foldl (fun s _ => linkFault .noReceiver s) s
    setHolder e .free (s.onStore (fun st => { st with linkIn := none }))
  | .linkOut =>
    let s := s.onJobs (fun w => { w with send := .idle })
    let s := s.onLink (fun l => { l with dataOut := l.dataOut.map (fun o => { o with job := none }) })
    setHolder e (if s.link.dataOut.isSome then .internal [.frameSending] else .free) s

/-- The engines the job holds (R48). -/
def enginesHeld (s : State) (k : Nat) : List Engine :=
  [Engine.scanner, .printer, .linkIn, .linkOut].filter (fun e => decide (jobHolding s e = some k))

/-- R62: a job ends. The engines fall free or to their internal operations; the grant rule follows (`advance`). -/
def endJob (k : Nat) (status : FinalStatus) (s : State) : State :=
  match jobIn s k with
  | none => s
  | some j =>
    let held := enginesHeld s k
    let s := if held = [] then leaveLists k s else s
    let s := if held = [] then s else endReading j.kind (endWriting j.kind (decide (status = .completed)) s)
    let s := leaveDocument j s
    let s := held.foldl (fun s e => releaseEngine e s) s
    let s := raiseJob k (some status) s
    s.onJobs (fun w => { w with slots := w.slots.set k none })

/-! ## A natural page end (R55, R70, R76) -/

/-- R55, R69, R70, R76: a reading job that has moved on stands at the page it is to begin: a page of this copy, at the copy's end
the first page of the next copy. One that finds no page left ends COMPLETED. -/
def endIfDone (k : Nat) (s : State) : State :=
  match jobIn s k with
  | some j =>
    if mayCome s j j.currentPage then s
    else if j.currentCopy < j.copies ∧ mayCome s j j.firstPage then onJob k Job.nextCopy s
    else endJob k .completed s
  | none => s

/-- R55: the comparison at a natural page end: made at once by a RUNNING job, on JOB-RESUME by one that is stopped. -/
def compareAtPageEnd (k : Nat) (s : State) : State :=
  match jobIn s k with
  | none => s
  | some j =>
    if j.kind = .copy ∨ j.kind = .receive then s
    else if j.state = .running then
      (if outranked s j then yieldJob k j s else s)
    else onJob k (fun j => { j with compareDue := true }) s

/-- R55, R69, R70, R76: a reading job moves on to its next page: it ends where none is left, and is compared otherwise. -/
def moveOn (k : Nat) (s : State) : State := compareAtPageEnd k (endIfDone k (onJob k Job.nextPage s))

end Sys2Proof.Machine
end

