-- ==== Sys2Proof/Machine/Boundaries.lean ====
section
/-! DEFINITION. Meeting a boundary, with its automatic answer, and NEXT, REPEAT and FINISH at a page end (R55, R63, R66, R69, R71, R76). -/

namespace Sys2Proof.Machine

/-- R66, R69, R71, R76: NEXT after a page: the job moves on to its next page, after the comparison of R55; where
no page is left it ends (R70, R76). -/
def carryNext (k : Nat) (s : State) : State :=
  match kindIn s k with
  | some .scan => compareAtPageEnd k (s.onScan (fun x => { x with phase := .look }))
  | some .print => moveOn k (s.onJobs (fun w => { w with print := ⟨.needPage, none, .start⟩ }))
  | some .send => moveOn k (s.onJobs (fun w => { w with send := ⟨.needPage, false, [], [], none⟩ }))
  | _ => s

/-- R69, R76: REPEAT at a page end: the same page again from line 0 (log 13). -/
def carryRepeat (k : Nat) (s : State) : State :=
  let s := onJob k (fun j => { j with pageRemoved := false }) s
  match kindIn s k with
  | some .print => s.onJobs (fun w => { w with print := ⟨.needPage, none, .start⟩ })
  | some .send => s.onJobs (fun w => { w with send := ⟨.needPage, false, [], [], none⟩ })
  | _ => s

/-- R63: the choice taken at a MORE, LAST or CP-DONE code. -/
def carryPageEnd (k : Nat) (c : Choice) (s : State) : State :=
  match c with
  | .next => carryNext k s
  | .repeatPage => carryRepeat k s
  | _ => endJob k .completed s

/-- R63: the job meets a code: its automatic answer, or its stop. -/
def meet (k : Nat) (b : Boundary) (s : State) : State :=
  match jobIn s k with
  | none => s
  | some j =>
    match automatic j b.code with
    | some c => carryPageEnd k c s
    | none => stopJob k (.code b) s

/-- R72: the print side of a COPY is advancing. -/
def copyAdvances (s : State) (j : Job) : Bool :=
  decide (j.state = .running) && !j.starvedRead && !s.energy.thermalHold && !s.energy.supplyHold

end Sys2Proof.Machine
end

