-- ==== Sys2Proof/Machine/ScanSide.lean ====
section
/-! DEFINITION. The scan path: lines corrected and binarized, the sheet's geometry, the scan side of a job, ejects, calibration and the
lamp (R83 to R100). -/

namespace Sys2Proof.Machine

/-! ## Correction and binarization (R89 to R91) -/

/-- R89: a raw sample corrected; a sample below the dark value gives 0. -/
def corrected (raw dark white : Nat) : Nat := min 255 ((raw - dark) * 255 / max (white - dark) 16)

/-- R89 over the sensor's 1728 pixels. -/
def correctLine (x : ScanPath) (raw : List Byte) : List Nat :=
  (raw.zip (x.dark.zip x.white)).map (fun p => corrected p.1.toNat p.2.1 p.2.2)

/-- R90: the background value after a line. -/
def nextBackground (bg : Nat) (values : List Nat) : Nat := (3 * bg + values.foldl max 0) / 4

/-- The line image of a page width: dots beyond the sensor are white (R88). -/
def padLine (w : PageWidth) (l : Line) : Line := l ++ List.replicate (w.dots - l.length) false

/-- R90: TEXT, by the background just set. -/
def binarizeText (threshold bg : Nat) (values : List Nat) : Line := values.map (fun v => decide (v < bg * threshold / 100))

/-- The 4 by 4 ordered matrix (R91). -/
def ditherMatrix : List (List Nat) := [[0, 8, 2, 10], [12, 4, 14, 6], [3, 11, 1, 9], [15, 7, 13, 5]]

/-- R91: the threshold of dot x of line n. -/
def ditherThreshold (n x : Nat) : Nat := 16 * ((ditherMatrix.getD (n % 4) []).getD (x % 4) 0) + 8

/-- R91: PHOTO. -/
def binarizePhoto (n : Nat) (values : List Nat) : Line :=
  values.zipIdx.map (fun p => decide (p.1 < ditherThreshold n p.2))

/-! ## Times of a line (R88) -/

/-- T_scan for a width. -/
def scanTime (w : PageWidth) : Nat := w.dots + 80

/-- R88: I_req of a LINE entry of k steps. -/
def scanIreq (w : PageWidth) (k : Nat) : Nat := ceilDiv (scanTime w) k

/-! ## The page being scanned -/

/-- The page SCAN-IN writes; where it was removed under its writer (log 45), a page of the document's defaults. -/
def scanPageOf (s : State) : Page :=
  match s.store.scanIn.slot with
  | some slot => pageOf s slot
  | none =>
    match scanJob s with
    | some (_, j) => Page.started j.document (docOf s j.document).resolution (docOf s j.document).width false
    | none => .blank

/-- R86: line n is a line of the page; the formula holds for a trailing edge before line 0 too (log 58). -/
def isPageLine (s : State) (n : Nat) : Bool :=
  match s.scan.sheet.offset, s.scan.sheet.trailing with
  | some o, some t => decide (o + n * (scanPageOf s).resolution.steps < t + s.scan.sheet.readOffset)
  | some _, none => true
  | none, _ => false

/-- Steps of a kind of RUN entry still queued. -/
def queuedSteps (s : State) (m : Motor) (p : RunPurpose) : Nat :=
  (((feedOf s m).queue.filter (Entry.isRun p)).map Entry.left).sum

def queuedEntries (s : State) (m : Motor) (p : RunPurpose) : Nat := ((feedOf s m).queue.filter (Entry.isRun p)).length

/-- R83: the lamp is switched on. -/
def lampOn (s : State) : State :=
  s.onScan (fun x => { x with lamp := if x.lamp.since.isSome then x.lamp else ⟨some s.now, false⟩ })

def lampOff (s : State) : State := s.onScan (fun x => { x with lamp := ⟨none, false⟩ })

/-- R84, R87: JAM with the DOC-JAM flag and its cause. -/
def raiseDocJam (pick long : Bool) (s : State) : State := raise 2 (.jam true false pick long 1 0) s

def setScanPhase (p : ScanPhase) (s : State) : State := s.onScan (fun x => { x with phase := p })

/-- R35, R48, R65, R83, R90: a page start has been accepted: the job's index names the page, the last of its document's list; coder,
background and sheet begin, and the lamp is switched on. -/
def acceptStart (k slot : Nat) (s : State) : State :=
  let w := (pageOf s slot).width
  let s := s.onStore (fun st => { st with scanIn := ⟨some slot, none⟩ })
  let s := s.onScan (fun x => { x with
    phase := .warming, sheet := Sheet.none, background := some 255, coder := some ⟨blankLine w, 0⟩, eject := none, after := none
    lost := none, waitAnswered := false })
  lampOn (onJob k (fun j => Job.writesPage (docOf s j.document).pages.length { j with starvedWrite := false, sheetWait := false }) s)

/-- R65: the page start a scanning job asks for. -/
def scanStart (s : State) (j : Job) : Except FullReason (Nat × State) :=
  let d := docOf s j.document
  startPage j.document d.resolution d.width (decide (j.kind = .copy) && j.freeAsRead) s

/-- R65, R67: the writer asks for a page start. -/
def requestStart (k : Nat) (j : Job) (s : State) : State :=
  match scanStart s j with
  | .ok r => acceptStart k r.1 r.2
  | .error reason =>
    (onJob k (fun j => { j with sheetWait := false }) s).onScan
      (fun x => { x with phase := .startWait reason, waitAnswered := false })

/-! ## Store-full (R67, R72) -/

/-- R72: a COPY's writer waits silently. -/
def waitSilently (k : Nat) (atStart : Bool) (s : State) : State :=
  let s := onJob k (fun j => { j with starvedWrite := true }) s
  if atStart then addWaiter .pageStart (dropWaiter .pageStart s) else s

/-- R67: the job meets SC-FULL. -/
def meetFull (k : Nat) (r : FullReason) (mid : Bool) (s : State) : State :=
  let s := onJob k (fun j => { j with starvedWrite := false }) (dropWaiter .pageStart s)
  meet k ⟨.scFull, some r.reason, some mid⟩ s

/-- R67, R72: a scanning job whose writer has no room, for the reason `r`: at a page start, that of the first refusal, kept through a
COPY's silent wait (log 100, DESIGN CHOICE). -/
def noRoom (k : Nat) (j : Job) (r : FullReason) (mid : Bool) (s : State) : Option State :=
  if s.scan.waitAnswered then none
  else if j.kind = .copy && decide (r ≠ .docPages) && copyAdvances s j then
    (if j.starvedWrite then none else some (waitSilently k (!mid) s))
  else if canMeet j .scFull then some (meetFull k r mid s) else none

/-! ## The sheet (R84 to R87) -/

/-- R85: the leading edge fixes the offset O; the step just taken is step 0 (log 17). -/
def leadingEdge (s : State) : State :=
  let queued := queuedSteps s .scan .pick
  let o := max s.settings.readOffset queued
  s.onScan (fun x => { x with
    phase := .lines
    sheet := { x.sheet with
      edgePending := false, sinceEdge := some 0, offset := some o, readOffset := s.settings.readOffset, offsetDue := o - queued
      nextLine := 0, longCount := some 0 } })

/-- R82, R85: an edge shown at rest with no pick step queued: O is READ-OFFSET, all of it in the offset entry, and the next step the
motor takes is step 0 (log 17). -/
def restingEdge (s : State) : State :=
  s.onScan (fun x => { x with
    phase := .lines
    sheet := { x.sheet with
      offset := some s.settings.readOffset, readOffset := s.settings.readOffset, offsetDue := s.settings.readOffset, nextLine := 0 } })

/-- R82: the step just taken is the edge step of a sheet whose offset was fixed at rest. -/
def edgeStep (s : State) : State :=
  s.onScan (fun x => { x with sheet := { x.sheet with edgePending := false, sinceEdge := some 0, longCount := some 0 } })

/-- R86: the trailing edge at the step just taken. -/
def trailingEdge (s : State) : State :=
  s.onScan (fun x => { x with sheet := { x.sheet with trailingPending := false, trailing := x.sheet.sinceEdge } })

/-- R82: the edges that wait are placed at the step just taken. -/
def placeEdge (s : State) : State :=
  let s := if s.scan.sheet.edgePending && decide (s.scan.phase = .pick) then leadingEdge s
    else if s.scan.sheet.edgePending && decide (s.scan.phase = .lines) then edgeStep s else s
  if s.scan.sheet.trailingPending && s.scan.sheet.sinceEdge.isSome && s.scan.sheet.trailing.isNone then trailingEdge s else s

/-- R87: the sheet is long. -/
def longSheet (s : State) : Bool :=
  s.levels.docRead &&
    (match s.scan.sheet.longCount with | some c => decide (s.settings.maxSheetSteps ≤ c) | none => false)

/-- R84, R87, R66: an SC-JAM of the scan side with its JAM. -/
def jamScan (k : Nat) (r : Reason) (s : State) : State :=
  let s := setScanPhase .jammed (raiseDocJam (decide (r = .pick)) (decide (r = .long)) s)
  meet k ⟨.scJam, some r, none⟩ (s.onScan (fun x => { x with eject := none, sheet := { x.sheet with longCount := none } }))

/-- R86: every line of the page has been admitted. -/
def linesAdmitted (s : State) : Bool :=
  s.scan.sheet.trailing.isSome && decide (s.scan.sheet.offsetDue = 0) && !isPageLine s s.scan.sheet.nextLine

/-- R86: the slot holds no line of the page: it is FREE, or RESERVED for an entry beyond the last line. -/
def slotDone (s : State) (v : LineSlot) : Bool :=
  match v with
  | .free => true
  | .reserved n => !isPageLine s n
  | _ => false

/-- R86: no line of the page is left in the buffer or in the channel. -/
def bufferEmpty (s : State) : Bool := s.scan.slots.all (slotDone s) && s.store.scanIn.held.isNone

/-- R65, R86: SCAN-IN ends the page normally; pages done of a SCAN rises, and the index moves on to the one the next page takes, past 64
after a document's 64th page (log 80). A page removed under its writer has left that index free, and it stays (log 93, DESIGN CHOICE). -/
def endScanPage (k : Nat) (j : Job) (s : State) : State :=
  let s := match s.store.scanIn.slot with | some slot => endPageNormally slot s | none => s
  let s := s.onStore (fun st => { st with scanIn := ⟨none, none⟩ })
  let s := s.onScan (fun x => { x with sheet := { x.sheet with pageEnded := true } })
  onJob k (fun x => Job.writesPage (nextIndex s j.document)
    { x with pagesDone := if x.kind = .copy then x.pagesDone else satAdd 65535 x.pagesDone 1 }) s

/-- R71, R73: the scan side of a COPY ends: the writer role is given up. -/
def endScanSide (k : Nat) (s : State) : State :=
  match jobIn s k with
  | some j => setScanPhase .ended (giveUpWriting j.document j.id s)
  | none => s

/-! ## Ejects (R99, R100) -/

/-- R73: the feed that an emergency stop cut off is admitted again (log 61). -/
def admitEjectDue (s : State) : State :=
  enqueue .scan (runEntry .eject s.scan.sheet.ejectDue) (s.onScan (fun x => { x with sheet := { x.sheet with ejectDue := 0 } }))

/-- R99: the next RUN entry of an eject: 8 steps while DOC-READ shows SHEET, at most 16 steps queued ahead, then EJECT-STEPS. -/
def ejectOffer (s : State) (e : Eject) : Option State :=
  if e.long then none
  else if s.scan.sheet.ejectDue ≠ 0 then (if admits s .scan then some (admitEjectDue s) else none)
  else if e.finalAdmitted then none
  else if s.levels.docRead then
    (if queuedEntries s .scan .eject < 2 ∧ queuedSteps s .scan .eject ≤ 8 ∧ admits s .scan then
      some (enqueue .scan (runEntry .eject 8) s) else none)
  else if s.settings.ejectSteps = 0 then some (s.onScan (fun x => { x with eject := some { e with finalAdmitted := true } }))
  else if admits s .scan then
    some (enqueue .scan (runEntry .eject s.settings.ejectSteps) (s.onScan (fun x => { x with eject := some { e with finalAdmitted := true } })))
  else none

/-- R100: a job's eject begins; its long-sheet count runs on from the edge, or from its first step after an SC-JAM. -/
def beginEject (a : AfterEject) (countAnew : Bool) (s : State) : State :=
  s.onScan (fun x => { x with
    phase := .eject, eject := some ⟨false, false⟩, after := some a
    sheet := { x.sheet with ejectDue := 0, longCount := if countAnew then none else x.sheet.longCount } })

/-- R67, R73, R100: what the end of a job's eject moves the job on to. -/
def afterEject (k : Nat) (a : AfterEject) (s : State) : State :=
  let s := s.onScan (fun x => { x with eject := none, after := none })
  match a with
  | .endDropped => endJob k .dropped s
  | .endCompleted => endJob k .completed s
  | .endScanSide => endScanSide k s

/-! ## The scan side's rules, one per phase -/

/-- R56, R58: SHEET-WAIT of a HOLDING or HELD job still changes with its cause; the sheet is not picked. At BOUNDARY it stays as it was
until the job is RUNNING again (log 79, DESIGN CHOICE). -/
def heldLook (k : Nat) (j : Job) (s : State) : Option State :=
  if (j.state = .holding ∨ j.state = .held) ∧ !j.compareDue ∧ j.sheetWait = s.levels.docEntry then
    some (onJob k (fun x => { x with sheetWait := !s.levels.docEntry }) s)
  else none

/-- R65, R71: a sheet is looked for. -/
def lookRule (k : Nat) (j : Job) (again : Bool) (s : State) : Option State :=
  if j.state ≠ .running then (if again then none else heldLook k j s)
  else if s.levels.docEntry then some (requestStart k j s)
  else if again then some (endScanSide k s)
  else if j.sheetWait then none
  else some (onJob k (fun x => { x with sheetWait := true }) s)

/-- R83, R84: the pick begins when the lamp has been on for 100 ms; a sheet already at DOC-READ is a pick failure. -/
def warmRule (k : Nat) (j : Job) (s : State) : Option State :=
  if j.state = .running ∧ s.scan.lamp.warm then
    (if s.levels.docRead then some (jamScan k .pick s)
     else some (s.onScan (fun x => { x with phase := .pick, sheet := { x.sheet with pickLimit := s.settings.pickLimit } })))
  else none

/-- R84: one more pick entry. -/
def admitPick (s : State) : State :=
  let steps := min 8 (s.scan.sheet.pickLimit - s.scan.sheet.pickAdmitted)
  enqueue .scan (runEntry .pick steps) (s.onScan (fun x => { x with sheet := { x.sheet with pickAdmitted := x.sheet.pickAdmitted + steps } }))

/-- R84: the last of the PICK-LIMIT steps has been taken: with no leading edge till then the pick has failed, and an edge that DOC-READ
shows later, before the motor rests or after, is no edge of the page (log 103, DESIGN CHOICE). -/
def pickTaken (s : State) : Bool :=
  decide (s.scan.sheet.pickLimit ≤ s.scan.sheet.pickAdmitted) && decide (queuedEntries s .scan .pick = 0)

/-- R84, R85: pick entries two deep while DOC-READ has shown no edge, and the pick's failure (`pickTaken`). An edge shown at rest with no
pick step queued ends the pick. JAM is raised when the job can meet SC-JAM (log 68). -/
def pickRule (k : Nat) (j : Job) (s : State) : Option State :=
  let sheet := s.scan.sheet
  if sheet.pickAdmitted < sheet.pickLimit then
    (if sheet.edgePending then
      (if queuedEntries s .scan .pick = 0 ∧ admits s .scan then some (restingEdge s) else none)
     else if queuedEntries s .scan .pick < 2 ∧ admits s .scan then some (admitPick s) else none)
  else if pickTaken s ∧ canMeet j .scJam then some (jamScan k .pick s)
  else none

/-- R85 to R87: the offset entry, the long sheet (log 68), the page's end, the eject and the rest after it. -/
def linesRule (k : Nat) (j : Job) (s : State) : Option State :=
  let sheet := s.scan.sheet
  if sheet.trailing.isNone && longSheet s && canMeet j .scJam then some (jamScan k .long s)
  else if sheet.offsetDue ≠ 0 ∧ admits s .scan then
    some (enqueue .scan (runEntry .offset sheet.offsetDue) (s.onScan (fun x => { x with sheet := { x.sheet with offsetDue := 0 } })))
  else if sheet.ejectDue ≠ 0 ∧ admits s .scan then some (admitEjectDue s)
  else if linesAdmitted s && bufferEmpty s && !sheet.pageEnded then some (endScanPage k j s)
  else if linesAdmitted s && !sheet.ejectAdmitted && (decide (s.settings.ejectSteps = 0) || admits s .scan) then
    let s := s.onScan (fun x => { x with sheet := { x.sheet with ejectAdmitted := true } })
    some (if s.settings.ejectSteps = 0 then s else enqueue .scan (runEntry .eject s.settings.ejectSteps) s)
  else if sheet.pageEnded && sheet.ejectAdmitted && decide (sheet.offsetDue = 0 ∧ sheet.ejectDue = 0) && s.mech.scanFeed.rests then
    some (setScanPhase .pageDone s)
  else none

/-- R65, R71: the job's page end is complete. -/
def pageDoneRule (k : Nat) (j : Job) (s : State) : Option State :=
  if j.kind = .copy then (if j.state = .running then some (setScanPhase .lookMore s) else none)
  else
    let code := if s.levels.docEntry then BoundaryCode.scMore else .scLast
    if canMeet j code then some (meet k (plainCode code) s) else none

/-- R99, R100: the eject's last step has been taken and the feed rests. -/
def ejectCarriedOut (s : State) (e : Eject) : Bool :=
  e.finalAdmitted && decide (s.scan.sheet.ejectDue = 0) && s.mech.scanFeed.rests

/-- R99, R100: a job's eject; a long sheet until DOC-READ has shown NONE, as in `linesRule` (log 68). An eject carried out moves a RUNNING
job on; one that is stopped enters HELD or BOUNDARY first, and is left as R56 has those states left (R56, R57; log 99, DEDUCED). -/
def ejectRule (k : Nat) (j : Job) (s : State) : Option State :=
  match s.scan.eject, s.scan.after with
  | some e, some a =>
    if !e.finalAdmitted && longSheet s && canMeet j .scJam then some (jamScan k .long s)
    else match ejectOffer s e with
      | some s' => some s'
      | none =>
        if decide (j.state = .running) && ejectCarriedOut s e then some (afterEject k a s) else none
  | _, _ => none

/-- R67, R72: the waits of the scan writer in mid-page. -/
def midPageRule (k : Nat) (j : Job) (s : State) : Option State :=
  if s.store.scanIn.held.isSome then noRoom k j .blocks true s
  else if j.starvedWrite || s.scan.waitAnswered then
    some ((onJob k (fun x => { x with starvedWrite := false }) s).onScan (fun x => { x with waitAnswered := false }))
  else none

/-- R7, R67: the page start is refused now. -/
def startRefused (s : State) (j : Job) : Bool := match scanStart s j with | .ok _ => false | .error _ => true

/-- R56, R58, R67: STARVED of a stopped job whose page start waits follows its cause; the start is taken when the job is RUNNING. -/
def heldStartRule (k : Nat) (j : Job) (s : State) : Option State :=
  if j.state ≠ .running ∧ s.store.waiters.contains .pageStart ∧ j.starvedWrite ≠ startRefused s j then
    some (onJob k (fun x => { x with starvedWrite := startRefused s j }) s)
  else none

/-- R136: a page that has lost its place meets SC-JAM when the job moves again. -/
def lostRule (k : Nat) (j : Job) (s : State) : Option State :=
  match s.scan.lost with
  | some r =>
    if j.state = .running then
      some (meet k ⟨.scJam, some r, none⟩ (s.onScan (fun x => { x with lost := none, phase := .jammed, eject := none })))
    else none
  | none => none

/-- The rule of the scan side's phase. -/
def scanPhaseRule (k : Nat) (j : Job) (s : State) : Option State :=
  match s.scan.phase with
  | .look => lookRule k j false s
  | .lookMore => lookRule k j true s
  | .startWait r => noRoom k j r false s <|> heldStartRule k j s
  | .warming => warmRule k j s
  | .pick => pickRule k j s
  | .lines => linesRule k j s
  | .pageDone => pageDoneRule k j s
  | .eject => ejectRule k j s
  | .off | .jammed | .ended => none

/-- The waits of the writer are looked at in the phases that have a page. At SC-JAM the page and the record that waited are dropped, so
STARVED of the scan side clears (R56). -/
def ScanPhase.writes (p : ScanPhase) : Bool :=
  match p with | .warming | .pick | .lines | .pageDone | .eject | .lookMore | .look | .jammed => true | _ => false

/-- The scan side of the job that holds the SCANNER. -/
def scanRule (s : State) : Option State :=
  match scanJob s with
  | none => none
  | some (k, j) =>
    lostRule k j s <|> (if s.scan.phase.writes then midPageRule k j s else none) <|> scanPhaseRule k j s

/-! ## DOC-EJECT and calibration (R96 to R99) -/

/-- R99: a DOC-EJECT in progress. -/
def docEjectRule (s : State) : Option State :=
  if opRuns s .scanner .eject then
    match s.scan.eject with
    | none => none
    | some e =>
      if !e.long && !e.finalAdmitted && longSheet s then
        some (raiseDocJam false true (s.onScan (fun x => { x with eject := some { e with long := true } })))
      else match ejectOffer s e with
        | some s' => some s'
        | none =>
          if (e.finalAdmitted || e.long) && s.mech.scanFeed.rests then
            some (raiseDone .eject (if e.long then .long else .ejected) 0
              (endOp .scanner .eject (s.onScan (fun x => { x with eject := none, sheet := Sheet.none }))))
          else none
  else none

/-- The calibration that begins now (R97). -/
def Calibration.fresh (now : Nat) (startUp : Bool) : Calibration :=
  ⟨.dark, 0, List.replicate Config.headDots 0, List.replicate Config.headDots 0, now, startUp⟩

/-- R97, R175: a calibration's outcome: DONE and the SCANNER free, or the boot report's. -/
def endCalibration (o : DoneOutcome) (c : CalOutcome) (s : State) : State :=
  let startUp := (s.scan.calibration.map Calibration.startUp).getD false
  let s := lampOff (s.onScan (fun x => { x with calibration := none }))
  if startUp then s.onStart (fun t => { t with calOutcome := some c })
  else raiseDone .calibrate o 0 (endOp .scanner .calibrate s)

/-- R97: a calibration begins: the dark lines first, or the outcome SHEET at once where a sheet lies at DOC-READ. -/
def beginCalibration (startUp : Bool) (s : State) : State :=
  s.onScan (fun x => { x with calibration := some (Calibration.fresh s.now startUp) })

/-- R97: pixels whose white value lies less than 16 above the dark one. -/
def poorPixels (dark white : List Nat) : Nat := ((dark.zip white).filter (fun p => decide (p.2 < p.1 + 16))).length

/-- R97: the working tables are installed and the status set. -/
def installCalibration (dark white : List Nat) (s : State) : State :=
  let poor := decide (64 < poorPixels dark white)
  let s := s.onScan (fun x => { x with dark := dark, white := white, status := if poor then .poor else .good })
  endCalibration (if poor then .poor else .good) (if poor then .poor else .good) s

/-- R97: the averages of 8 lines. -/
def averages (sums : List Nat) : List Nat := sums.map (fun n => n / 8)

/-! ## The lamp (R83) -/

/-- The eject's steps, and any line before them, have been taken. -/
def ejectTaken (s : State) : Bool :=
  decide (s.scan.sheet.ejectDue = 0) && s.mech.scanFeed.queue.all (fun e => !e.isLine && !e.isRun .eject)

/-- R83: the lamp stays on: in the pages' phases from the accepted start until the eject is carried out (log 59), until the feed rests
behind a page abandoned by a fault, an abort or a discard, also where the eject of an aborted job's page is carried out in the drain
(log 102, DESIGN CHOICE), and in a calibration's white lines. After DROP the page is discarded with
the feed at rest, so the eject runs without the lamp. -/
def lampWanted (s : State) : Bool :=
  (match s.scan.calibration with | some c => decide (c.stage ≠ .dark) | none => false) ||
    opRuns s .scanner .drain ||
    ((jobHolding s .scanner).isSome &&
      (match s.scan.phase with
       | .warming | .pick => true
       | .lines => !(s.scan.sheet.ejectAdmitted && ejectTaken s)
       | .eject => decide (s.scan.after ≠ some .endDropped) && !((s.scan.eject.map Eject.finalAdmitted).getD false && ejectTaken s)
       | .jammed => !s.mech.scanFeed.rests
       | _ => false))

/-- R83: the lamp goes off. -/
def lampRule (s : State) : Option State :=
  if s.scan.lamp.since.isSome && !lampWanted s then some (lampOff s) else none

end Sys2Proof.Machine
end

