-- ==== Sys2Proof/Machine/PrintSide.lean ====
section
/-! DEFINITION. The print side of a job and the send side (R46, R68 to R71, R76, R77, R105, R140). -/

namespace Sys2Proof.Machine

def setPrint (f : PrintSide → PrintSide) (s : State) : State := s.onJobs (fun w => { w with print := f w.print })
def setSend (f : SendSide → SendSide) (s : State) : State := s.onJobs (fun w => { w with send := f w.send })
def starveRead (k : Nat) (b : Bool) (s : State) : State := onJob k (fun j => { j with starvedRead := b }) s

/-- R56: STARVED of the reading side set or cleared, where that changes it. -/
def starveReadRule (k : Nat) (j : Job) (b : Bool) (s : State) : Option State :=
  if j.starvedRead = b then none else some (starveRead k b s)

/-! ## The next page of a reading job (R12, R68, R71, R76) -/

/-- R68: the page the job is to begin. -/
inductive Ahead
  /-- a page-table slot -/
  | page (slot : Nat)
  /-- the page lost its first block to another reader: it is passed over (R12) -/
  | passedOver
  /-- a page is still to come, or still to grow (R13, R71) -/
  | toCome
  /-- no page of the range remains -/
  | finished
  deriving DecidableEq, Repr

/-- R71: the print side of a COPY waits for LEAD-LINES on its first copy. -/
def leads (s : State) (j : Job) (p : Page) : Bool :=
  decide (j.kind ≠ .copy) || decide (1 < j.currentCopy) || decide (p.state ≠ .filling) || decide (s.settings.leadLines ≤ p.committed)

def pageAhead (s : State) (j : Job) : Ahead :=
  if j.rangeDone || (decide (j.lastPage ≠ 0) && decide (j.lastPage < j.currentPage)) then .finished
  else match pageAt s j.document j.currentPage with
    | some slot =>
      if (pageOf s slot).freeAsRead && (pageOf s slot).frontFreed then .passedOver
      else if leads s j (pageOf s slot) then .page slot else .toCome
    | none => if (docOf s j.document).state = .opened then .toCome else .finished

/-- R68, R71: the copy's end: the next copy, or the job's last page is done. -/
def copyEnd (k : Nat) (j : Job) (s : State) : State :=
  if j.currentCopy < j.copies then
    onJob k Job.nextCopy s
  else if j.kind = .copy then setPrint (fun p => { p with phase := .copiesDone }) (starveRead k false s)
  else endJob k .completed s

/-- R58: a job that is not RUNNING begins no page; its STARVED still follows its cause. -/
def waitingRule (k : Nat) (j : Job) (s : State) : Option State :=
  starveReadRule k j (decide (pageAhead s j = .toCome)) s

/-- R68, R71: the print side begins its next page. -/
def needPageRule (k : Nat) (j : Job) (s : State) : Option State :=
  if j.state ≠ .running then waitingRule k j s
  else match pageAhead s j with
    | .toCome => starveReadRule k j true s
    | .finished => some (copyEnd k j s)
    | .passedOver => some (onJob k (fun x => { x with currentPage := x.currentPage + 1 }) s)
    | .page slot =>
      let s := setPrint (fun _ => ⟨.printing, none, .start⟩) (starveRead k false s)
      some (beginPage .print j.document j.currentPage slot j.freeAsRead (onJob k (fun x => { x with pageRemoved := false }) s))

/-- R13: the print side at its reader's end, or STARVED. -/
def printingRule (k : Nat) (j : Job) (s : State) : Option State :=
  if s.jobs.print.line.isSome then starveReadRule k j false s
  else match standing s .print with
    | .ready => starveReadRule k j false s
    | .starved => starveReadRule k j true s
    | .pageEnd => some (setPrint (fun p => { p with phase := .readDone }) (starveRead k false s))

/-- R4, R12, R140: every line of the page is consumed: the reader leaves it and the cut begins (log 13). -/
def readDoneRule (s : State) : Option State :=
  if s.store.printOut.inFlight = [] ∧ s.jobs.print.line = none then
    let line := s.store.printOut.consumedLine
    let s := match s.store.printOut.slot with | some slot => onPage slot (Page.countPrint line) s | none => s
    some (setPrint (fun p => { p with phase := .cutting, cut := .start }) (leavePage .print s))
  else none

/-- R138, R145: a cycle may begin: the feed rests, the drive is off and powered. -/
def cycleDue (s : State) : Bool := s.mech.printFeed.rests && !s.mech.cutter.drives && !s.levels.coverOpen

/-- R140: the cut's stages up to the cycle; an offset offered and not admitted keeps its steps (log 87). -/
def cuttingRule (j : Job) (s : State) : Option State :=
  match s.jobs.print.cut with
  | .start =>
    some (setPrint (fun p => { p with cut := if s.settings.cutOffset = 0 then .resting else .offset s.settings.cutOffset }) s)
  | .offset n =>
    if n = 0 then some (setPrint (fun p => { p with cut := .resting }) s)
    else if admits s .print then
      some (enqueue .print (runEntry .cutOffset n) (setPrint (fun p => { p with cut := .resting }) s))
    else none
  | .resting =>
    if cycleDue s && (decide (j.state = .running) || decide (j.state = .holding)) then some (beginCycle (setPrint (fun p => { p with cut := .cycle }) s)) else none
  | .cycle => none
  | .done => some (setPrint (fun p => { p with phase := .pageCut }) s)

/-- R68, R71: the page is cut. -/
def pageCutRule (k : Nat) (j : Job) (s : State) : Option State :=
  if j.kind = .copy then
    (if j.state = .running then
      some (onJob k Job.nextPage (setPrint (fun _ => ⟨.needPage, none, .start⟩) s)) else none)
  else
    let code := if furtherPage s j || decide (j.currentCopy < j.copies) then BoundaryCode.prMore else .prLast
    if canMeet j code then some (meet k (plainCode code) s) else none

/-- R73: a COPY ejects its sheet after FINISH at PR-PAPER or PR-CUT; its print side stands still, and goes on only after a RETRY at an
SC-JAM met in that eject (log 94). -/
def printEnds (s : State) : Bool :=
  match printJob s with
  | some (_, j) => decide (j.kind = .copy) && decide (s.scan.after = some .endCompleted)
  | none => false

/-- R56: the print side waits, where it stands, for a line or a page. -/
def printWaits (s : State) (j : Job) : Bool :=
  match s.jobs.print.phase with
  | .needPage => decide (pageAhead s j = .toCome)
  | .printing => s.jobs.print.line.isNone && decide (standing s .print = .starved)
  | _ => false

/-- The rule of the print side's phase. One that stands still begins nothing; its STARVED follows its cause (R56). -/
def printRule (s : State) : Option State :=
  match printJob s with
  | none => none
  | some (k, j) =>
    if printEnds s then starveReadRule k j (printWaits s j) s
    else match s.jobs.print.phase with
    | .off => none
    | .needPage => needPageRule k j s
    | .printing => printingRule k j s
    | .readDone => readDoneRule s
    | .cutting => cuttingRule j s
    | .pageCut => pageCutRule k j s
    | .copiesDone => if canMeet j .cpDone then some (meet k (plainCode .cpDone) s) else none

/-- The cut succeeded: pages done rises and the job goes on (R68, R140). -/
def cutSucceeded (k : Nat) (s : State) : State :=
  onJob k (fun j => { j with pagesDone := satAdd 65535 j.pagesDone 1 }) (setPrint (fun p => { p with cut := .done }) s)

/-! ## Offering a line (R46, R105, R117) -/

/-- The next physical line: the one pending, or the next stored line read, reduced and split (R45, R46). -/
def nextLine (s : State) : State :=
  if s.jobs.print.line.isSome then s
  else
    let r := s.store.printOut
    let s' := readLineOf .print s
    match s'.store.printOut.inFlight.getLast?, r.slot with
    | some l, some slot =>
      if s'.store.printOut.readLine = r.readLine + 1 then
        let p := pageOf s slot
        setPrint (fun x => { x with line := some ⟨slot, false, l.line, headLine p.width l.image, p.resolution.physicalLines, p.resolution.physicalSteps⟩ }) s'
      else s'
    | _, _ => s'

/-- R105: the print side has a line to offer and a feed to admit it. -/
def lineToOffer (s : State) : Bool :=
  decide (s.jobs.print.phase = .printing) && !printEnds s && admits s .print &&
    (s.jobs.print.line.isSome || decide (standing s .print = .ready))

/-- R105: when the print side offers a line. -/
def offerDue (s : State) : Bool :=
  lineToOffer s && (printJob s).isSome && s.energy.ready && !s.energy.thermalHold && !s.energy.supplyHold

/-- R117: the head has rested for more than 100 ms. -/
def headCold (s : State) : Bool :=
  match s.energy.rest with | .busy => false | .cold => true | .since t => decide (t + headRestTime < s.now)

/-- R117: the history the line is counted against; the history line itself changes with the admission (log 81). -/
def historyFor (s : State) (page : Nat) : Line :=
  if headCold s ∨ s.energy.historyPage ≠ some page then List.replicate Config.headDots false else s.energy.history

/-- R111: the clamped phases raise the count of the line's page, unless that page has been discarded since the line was read. -/
def countClamped (l : StoredLine) (n : Nat) (s : State) : State :=
  if l.discarded then s else onPage l.page (fun p => { p with clamped := satAdd 65535 p.clamped n }) s

/-- R105, 2 to 5: the line is worked out and admitted, and becomes the history line; the head's rest ends with the admission (R117),
where R127 names the entry's first step (log 89, DEDUCED). -/
def admitLine (l : StoredLine) (s : State) : State :=
  let history := historyFor s l.page
  let plan := planLine s.settings l.image history s.energy.thermistor s.energy.supply l.steps
  let tag : LineTag := ⟨l.page, l.line, decide (l.remaining ≤ 1)⟩
  let s := countClamped l plan.clamped s
  let s := enqueue .print ⟨.printLine tag l.image (freshDots l.image history) plan.phases, l.steps, l.steps, plan.ireq, targetLevel s.settings .print plan.ireq, true⟩ s
  let s := s.onEnergy (fun e => { e with history := l.image, historyPage := some l.page, rest := .busy })
  setPrint (fun p => { p with line := if l.remaining ≤ 1 then none else some { l with remaining := l.remaining - 1 } }) s

/-- R105: an offer: a pair of samples is taken and judged, then the line is admitted unless a hold became SET, which leaves the history
line as it stands (log 81). -/
def offerLine (thermistor supply : Byte) (s : State) : State :=
  let s := nextLine s
  match s.jobs.print.line with
  | none => s
  | some l =>
    let s := takeSamples thermistor supply s
    if s.energy.thermalHold || s.energy.supplyHold then s else admitLine l s

/-! ## Repositioning on an answer (R14, R70) -/

/-- R14, R70: printing goes on at the first stored line not yet consumed. -/
def printToConsumed (s : State) : State := setPrint (fun p => { p with line := none }) (toConsumed .print s)

/-- The same, where the print side reads or has read its page (log 34). -/
def backToConsumed (s : State) : State :=
  if s.jobs.print.phase = .printing ∨ s.jobs.print.phase = .readDone then
    setPrint (fun p => { p with phase := .printing }) (printToConsumed s)
  else s

/-! ## The send side (R47, R76, R77) -/

/-- R77: the frame is closed and handed to the Command Link. -/
def closeFrame (k : Nat) (pageEnd : Bool) (s : State) : State :=
  let v := s.jobs.send
  let s := s.onLink (fun l => { l with dataOut := some ⟨v.frame, v.frameLines, pageEnd, some k⟩ })
  beginSending .dataOut (setSend (fun x => { x with frame := [], frameLines := [] }) s)

/-- R77: a record that is due is placed, or waits for credit or for the next frame. -/
def placeRecord (k : Nat) (j : Job) (l : ReadLine) (s : State) : Option State :=
  let v := s.jobs.send
  if Config.maxPayload < v.frame.length + l.record.length then some (closeFrame k false s)
  else if j.credit = 0 then none
  else some (onJob k (fun x => { x with credit := x.credit - 1 })
    (setSend (fun x => { x with frame := x.frame ++ l.record, frameLines := x.frameLines ++ [l], due := none }) s))

/-- R77: a record is due and the credit is 0: a frame that holds a line record is closed. -/
def noCreditRule (k : Nat) (s : State) : Option State :=
  if s.jobs.send.frameLines ≠ [] then some (closeFrame k false s) else none

/-- R77: the next item of the page: PAGE-BEGIN, the records, PAGE-END. -/
def sendingRule (k : Nat) (j : Job) (s : State) : Option State :=
  let v := s.jobs.send
  if v.beginDue then
    let p := match s.store.linkOut.slot with | some slot => pageOf s slot | none => .blank
    some (setSend (fun x => { x with beginDue := false, frame := x.frame ++ [headBegin, attributeByte p.resolution p.width] }) s)
  else match v.due with
    | some l => if j.credit = 0 then noCreditRule k s else placeRecord k j l s
    | none =>
      match standing s .link with
      | .ready =>
        if j.starvedRead then some (starveRead k false s)
        else if j.credit = 0 then noCreditRule k s
        else
          let s' := readLineOf .link s
          some (if s'.store.linkOut.readLine = s.store.linkOut.readLine + 1 then
              setSend (fun x => { x with due := s'.store.linkOut.inFlight.getLast? }) s' else s')
      | .starved =>
        if !j.starvedRead then some (starveRead k true s)
        else if v.frame ≠ [] then some (closeFrame k false s) else none
      | .pageEnd =>
        if Config.maxPayload < v.frame.length + 1 then some (closeFrame k false s)
        else some (closeFrame k true (setSend (fun x => { x with phase := .closing, frame := x.frame ++ [headEnd] }) (starveRead k false s)))

/-- R76: the send side begins its next page. -/
def sendNeedPageRule (k : Nat) (j : Job) (s : State) : Option State :=
  if j.state ≠ .running then waitingRule k j s
  else match pageAhead s j with
    | .toCome => starveReadRule k j true s
    | .finished => some (endJob k .completed s)
    | .passedOver => some (onJob k (fun x => { x with currentPage := x.currentPage + 1 }) s)
    | .page slot =>
      let s := setSend (fun _ => ⟨.sending, true, [], [], none⟩) (starveRead k false s)
      some (beginPage .link j.document j.currentPage slot j.freeAsRead (onJob k (fun x => { x with pageRemoved := false }) s))

/-- R56, R58: STARVED of a SEND within a page does not show what its reader finds; it follows its cause in every state. -/
def starveStale (s : State) (j : Job) : Bool :=
  j.starvedRead != (decide (standing s .link = .starved) && s.jobs.send.due.isNone && !s.jobs.send.beginDue)

/-- R56, R58, R77: a record is due with a credit of 0 and NO-CREDIT does not show it; it is set in every state. It
clears with SEND-CREDIT alone, also where no record is due any more (log 101, DESIGN CHOICE). -/
def noCreditStale (s : State) (j : Job) : Bool :=
  !j.noCredit && decide (j.credit = 0) && !s.jobs.send.beginDue &&
    (s.jobs.send.due.isSome || decide (standing s .link = .ready))

/-- The send side of the job that holds LINK-OUT: one frame at a time, the next when the previous has been sent (R77). -/
def sendRule (s : State) : Option State :=
  match sendJob s with
  | none => none
  | some (k, j) =>
    match s.jobs.send.phase with
    | .needPage => sendNeedPageRule k j s
    | .sending =>
      if starveStale s j then some (starveRead k (!j.starvedRead) s)
      else if noCreditStale s j then some (onJob k (fun x => { x with noCredit := true }) s)
      else if s.link.dataOut.isSome then none
      else if j.state = .running then sendingRule k j s
      else if j.state = .held ∧ s.jobs.send.frame ≠ [] then some (closeFrame k false s)
      else none
    | .pageSent =>
      let code := if furtherPage s j then BoundaryCode.txMore else .txLast
      if canMeet j code then some (meet k (plainCode code) s) else none
    | .off | .closing => none

/-- R14, R76, R197: a DATA-OUT frame has been sent whole: its lines are consumed, and a PAGE-END ends the page. -/
def frameSent (o : OutFrame) (s : State) : State :=
  match o.job with
  | none => endOp .linkOut .frameSending s
  | some k =>
    let s := consumeLines .link o.lines.length s
    if o.pageEnd then
      let s := leavePage .link s
      setSend (fun x => { x with phase := .pageSent }) (onJob k (fun j => { j with pagesDone := satAdd 65535 j.pagesDone 1 }) s)
    else s

end Sys2Proof.Machine
end

