-- ==== Sys2Proof/Machine/Advance.lean ====
section
/-! DEFINITION. What follows of itself within a step: waiting writers served, stops reached, internal operations ended, the sides of the
jobs moved on, engines granted (R9, R54, R57, R67, R129); and the emergency stop (R135, R136). -/

namespace Sys2Proof.Machine

/-! ## Waiting requests (R9, R67; log 10, log 12) -/

/-- R9: SCAN-IN's waiting record is granted a block and committed. -/
def serveScan (s : State) : Option State :=
  match s.store.scanIn.slot, s.store.scanIn.held with
  | some slot, some h =>
    (allocate slot s).map (fun s =>
      freeTaken (dropScanHeld (commitRecord slot h.conceals (putBytes slot h.rest s).1)))
  | _, _ => none

/-- R9, R37: LINK-IN's waiting record is granted a block and committed. -/
def serveLink (s : State) : Option State :=
  match s.store.linkIn.bind LinkIn.slot, s.store.linkIn.bind LinkIn.held with
  | some slot, some h =>
    (allocate slot s).map (fun s =>
      (dropLinkHeld (commitRecord slot h.conceals (putBytes slot h.rest s).1)).onStore
        (fun st => { st with linkIn := st.linkIn.map (fun c => { c with reception := .receiving }) }))
  | _, _ => none

/-- R67: a page start asked for again. -/
def serveStart (s : State) : Option State :=
  match scanJob s with
  | none => none
  | some (k, j) =>
    if j.state = .running then
      match scanStart s j with
      | .ok r => some (acceptStart k r.1 (dropWaiter .pageStart r.2))
      | .error _ => none
    else none

def serve (s : State) : Waiter → Option State
  | .scanRecord => serveScan s
  | .linkRecord => serveLink s
  | .pageStart => serveStart s

/-- R9: the first request, in the order in which they began to wait, that can be served. -/
def serveRule (s : State) : Option State := s.store.waiters.findSome? (serve s)

/-! ## Stops and internal operations -/

/-- R57: a job that is HOLDING enters its state when its motors rest. -/
def holdingRule (s : State) : Option State :=
  (usedSlots s).findSome? (fun k =>
    match jobIn s k with
    | some j =>
      if j.state = .holding ∧ jobRests s k then some (enterStopped k (j.pendingStop.getD .hold) s) else none
    | none => none)

/-- R61, R129, R141: internal operations that end at the rest of their motor. -/
def internalRule (s : State) : Option State :=
  if opRuns s .scanner .drain && s.mech.scanFeed.rests then some (endOp .scanner .drain s)
  else if opRuns s .printer .drain && s.mech.printFeed.rests then some (endOp .printer .drain s)
  else if opRuns s .printer .advance && s.mech.printFeed.rests then
    some (raiseDone .advance .advanced s.mech.advanced (endOp .printer .advance s))
  else none

/-- The rules, the first that applies first. The lamp goes off before the SCANNER is granted again (R83). -/
def nextRule (s : State) : Option State :=
  lampRule s <|> farRule .print s <|> farRule .link s <|> serveRule s <|> scanRule s <|> docEjectRule s <|> printRule s <|>
    sendRule s <|> holdingRule s <|> internalRule s <|> grantRule s

/-- The rules applied until none applies, at most `fuel` times (log 11). -/
def advanceBy : Nat → State → State
  | 0, s => s
  | fuel + 1, s => match nextRule s with | some s' => advanceBy fuel s' | none => s

/-- More than any step needs: a DATA-OUT frame alone holds at most 1024 records, each read and placed. -/
def advanceFuel : Nat := 10000

/-- What follows of itself within a step. -/
def advance (s : State) : State := advanceBy advanceFuel s

/-- A step of the jobs' machinery: its effect, then what follows of itself. -/
def jobEvent (due : Bool) (effect : State → State) (s : State) : Result := event due (fun s => advance (effect s)) s

/-! ## The emergency stop (R135 to R137) -/

/-- R135: either feed motor is energized or HEADPWR is on. -/
def emergencyDue (s : State) : Bool := s.mech.scanFeed.energized || s.mech.printFeed.energized || s.power.headPower

/-- R135: the flags of EMERGENCY as they stand before the stop. -/
def emergencyDetail (s : State) : EmergencyDetail :=
  { scanState := s.mech.scanFeed.current, printState := s.mech.printFeed.current, scanMoving := s.mech.scanFeed.moving,
    printMoving := s.mech.printFeed.moving, headPower := s.power.headPower, strobeCut := s.energy.firing.isSome,
    cutterRunning := s.mech.cutter.drives }

/-- R135: no further step, the queue emptied, OFF, level 0. -/
def Feed.halted (now : Nat) (f : Feed) : Feed := { f with queue := [], moving := false, level := 0, current := .off, since := now }

/-- R138: the drive is switched off: IDLE if CUTTER-HOME shows HOME and AWAY otherwise (log 47). -/
def driveOff (s : State) : State :=
  if s.mech.cutter.drives then s.onMech (fun x => { x with cutter := ⟨if s.levels.cutterHome then .idle else .away, s.now⟩ }) else s

/-- R86: a LINE entry of the scan queue beyond the last line of the page: bare feed. -/
def Entry.isFeed (s : State) (e : Entry) : Bool := match e.kind with | .scanLine n => !isPageLine s n | _ => false

/-- R136: the scan page loses a capture or a queued line at an emergency stop. -/
def losesLines (s : State) : Bool := s.scan.capture.isSome || s.mech.scanFeed.queue.any (fun e => e.isLine && !e.isFeed s)

/-- R73, R136: the steps of the pick, of the offset, and of the feed and the eject behind the last line that an emergency stop leaves
untaken are to be admitted again (log 61). -/
def Sheet.halted (s : State) (x : Sheet) : Sheet :=
  let left := fun p => ((s.mech.scanFeed.queue.filter p).map Entry.left).sum
  { x with
    pickAdmitted := x.pickAdmitted - left (Entry.isRun .pick)
    offsetDue := x.offsetDue + left (Entry.isRun .offset)
    ejectDue := x.ejectDue + left (fun e => e.isFeed s || e.isRun .eject) }

/-- R135: the scan path's part: the capture is abandoned and the slots of the queued entries freed; a job's sheet keeps its place. -/
def haltScan (s : State) : State :=
  s.onScan (fun x => { x with
    capture := none, slots := x.slots.map (fun v => match v with | .reserved _ => .free | v => v)
    sheet := if (scanJob s).isSome then x.sheet.halted s else x.sheet })

/-- R140: the cut stage an emergency stop leaves; a cycle cut short is begun again when the job moves (log 69). -/
def haltCut (left : Nat) (c : CutStage) : CutStage :=
  match c with
  | .cycle => .resting
  | .resting => if left = 0 then .resting else .offset left
  | c => c

/-- R57: the job's motors rest, as HELD and BOUNDARY have it. -/
def Job.stands (j : Job) : Bool := decide (j.state = .held) || decide (j.state = .boundary)

/-- R136, log 34: the print side's queued lines are not consumed and are read again; a job that is HELD or at BOUNDARY had none. -/
def haltPrint (s : State) : State :=
  let left := queuedSteps s .print .cutOffset
  let stands := match printJob s with | some (_, j) => j.stands | none => false
  let s := setPrint (fun p => { p with cut := haltCut left p.cut }) s
  if stands then s else backToConsumed s

/-- R73, R100: the scan side has a sheet in mid-page, or, at a cover opening, a sheet in its eject (log 62). -/
def midPage (s : State) (cause : Reason) : Bool :=
  match s.scan.phase with
  | .pick => true
  | .lines => !s.scan.sheet.pageEnded || decide (cause = .cover)
  | .eject => decide (cause = .cover)
  | _ => false

/-- R73, R136: the code of an emergency stop for a job. -/
def emergencyCode (s : State) (j : Job) (cause : Reason) : Boundary :=
  if j.kind = .scan ∨ (j.kind = .copy ∧ midPage s cause) then ⟨.scJam, some cause, none⟩
  else ⟨if cause = .cutter then .prCut else .prPaper, some cause, none⟩

/-- R136: what an emergency stop does to a job; `lost`: its scan page lost a capture or a queued line. A job HELD in its own cut cycle
is left HELD (log 69). -/
def emergencyJob (cause : Reason) (lost : Bool) (k : Nat) (s : State) : State :=
  match jobIn s k with
  | none => s
  | some j =>
    match j.state, j.pendingStop with
    | .holding, some (.code b) =>
      enterBoundary k b (if lost && j.kind.scans && decide (b.code ≠ .scJam) then s.onScan (fun x => { x with lost := some cause }) else s)
    | .running, _ | .holding, _ =>
      let b := emergencyCode s j cause
      let s := if b.code = .scJam then s.onScan (fun x => { x with phase := .jammed, eject := none }) else s
      enterBoundary k b s
    | _, _ => s

/-- R136: the internal operations an emergency stop ends. -/
def emergencyOps (o : DoneOutcome) (s : State) : State :=
  let s := if opRuns s .scanner .eject then
      raiseDone .eject o 0 (endOp .scanner .eject (s.onScan (fun x => { x with eject := none, sheet := Sheet.none }))) else s
  let s := if opRuns s .printer .advance then raiseDone .advance o s.mech.advanced (endOp .printer .advance s) else s
  let s := if opRuns s .printer .cut then raiseDone .cut o 0 (endOp .printer .cut s) else s
  endOp .printer .cutCycle s

/-- The slots of the jobs that hold the SCANNER or the PRINTER, each once. -/
def mechanismJobs (s : State) : List Nat :=
  (usedSlots s).filter (fun k => decide (jobHolding s .scanner = some k) || decide (jobHolding s .printer = some k))

/-- R135, R136: the emergency stop. -/
def emergencyStop (cause : Reason) (s : State) : State :=
  let lost := losesLines s
  let jobs := mechanismJobs s
  let s := haltScan (haltPrint s)
  let s := s.onMech (fun x => { x with scanFeed := x.scanFeed.halted s.now, printFeed := x.printFeed.halted s.now })
  let s := headOff (driveOff s)
  let s := emergencyOps (if cause = .cutter then .jam else .cover) s
  let s := jobs.foldl (fun s k => emergencyJob cause lost k s) s
  if s.power.mode = .active then headOn s else s

end Sys2Proof.Machine
end

