-- ==== Sys2Proof/Machine/PowerOps.lean ====
section
/-! DEFINITION. Shared by commands and events: silence expiries, settings taking effect, rings, the EEPROM image, the stores
(R131, R147, R155 to R162, R185 to R189, R209). -/

namespace Sys2Proof.Machine

/-! ## The Silence Supervisor (R160 to R162) -/

/-- A count has reached a limit given in seconds. -/
def reached (since : Option Nat) (limit now : Nat) : Bool :=
  match since with | some t => decide (t + seconds limit ≤ now) | none => false

def silenceExpired (s : State) : Bool := silenceRuns s && reached s.silence.since s.settings.silenceLimit s.now

/-- The RUNNING jobs that hold the SCANNER or the PRINTER (R161). -/
def runningMechanismJobs (s : State) : List Nat :=
  (mechanismJobs s).filter (fun k => decide ((jobIn s k).map Job.state = some .running))

/-- R161: the first expiry. -/
def firstExpiry (s : State) : State :=
  let jobs := runningMechanismJobs s
  let s := jobs.foldl (fun s k => stopJob k .hold s) s
  let s := raise 15 (.silence jobs.length s.settings.silenceLimit s.silence.hostResets) s
  s.onSilence (fun x => { x with firstStage := true, since := some s.now })

/-- R162: the second expiry: every job ends in slot order before any engine is granted (log 84). -/
def secondExpiry (s : State) : State :=
  let s := s.onLink (fun l => { l with hostReset := true })
  let s := s.onSilence (fun x => { x with pulse := some s.now, since := none, firstStage := false })
  let s := (usedSlots s).foldl (fun s k => endJob k .aborted s) s
  s.onSilence (fun x => { x with hostResets := satAdd 255 x.hostResets 1 })

/-- R160: an expiry at once, by the stage. -/
def silenceNow (s : State) : State :=
  if silenceExpired s then (if s.silence.firstStage then secondExpiry s else firstExpiry s) else s

/-! ## Settings taking effect (R131, R147, R185) -/

/-- R131: HOLD-DELAY has passed since the rest; only a motion that begins ends the count. -/
def holdDelayDue (s : State) (m : Motor) : Bool :=
  decide ((feedOf s m).current = .run) && !(feedOf s m).moving && passed (feedOf s m).since (ms s.settings.holdDelay) s.now

def offDelayDue (s : State) (m : Motor) : Bool :=
  decide ((feedOf s m).current = .hold) && decide (s.settings.offDelay ≠ 0) && passed (feedOf s m).since (ms s.settings.offDelay) s.now

def setCurrent (m : Motor) (c : MotorState) (s : State) : State := onFeed m (fun f => { f with current := c, since := s.now }) s

/-- R131: a count that has passed its new limit ends at once. -/
def currentsNow (m : Motor) (s : State) : State :=
  let s := if holdDelayDue s m then setCurrent m .hold s else s
  if offDelayDue s m then setCurrent m .off s else s

def idleExpired (s : State) : Bool := idleRuns s && reached s.power.idleFrom s.settings.idleTimeout s.now

/-- R149: the doze count has reached DOZE-DELAY minutes. -/
def dozeExpired (s : State) : Bool := dozeRuns s && reached s.power.dozeFrom (s.settings.dozeDelay * 60) s.now

/-- R185: what changed working values do at once; LOW-WATER only when it changed. -/
def settingsEffect (lowWater : Nat) (s : State) : State :=
  let s := if s.settings.lowWater = lowWater then s else lowAfterSetting s
  let s := currentsNow .print (currentsNow .scan s)
  let s := if idleExpired s then enterStandby s else s
  advance (silenceNow s)

/-! ## The EEPROM image (R186, R187, R209) -/

def byteSum (bs : List Byte) : Nat := (bs.map BitVec.toNat).sum

/-- Bytes 0 to 509 of the image (R209); a set protect flag is written 0x01 (log 63, DESIGN CHOICE). -/
def imageBody (values : List Nat) (protect : Bool) : List Byte :=
  be2 0x0103 ++ values.flatMap be2 ++ flag1 protect ++ List.replicate 347 0

/-- R209: the image, with its sum check. -/
def imageOf (values : List Nat) (protect : Bool) : List Byte :=
  imageBody values protect ++ be2 (byteSum (imageBody values protect))

/-- R187: a store begins; it writes the image of the values and the flag as they stand. -/
def beginStore (op : StoreOp) (s : State) : State :=
  s.onSettings (fun g => { g with writing := some ⟨op, imageOf g.values g.protect⟩ })

/-- The numbers a list of byte pairs spells. -/
def pairs : List Byte → List Nat
  | a :: b :: rest => num2 a b :: pairs rest
  | _ => []

/-- R168: the image is one this part wrote: its length, its sum check, its version. -/
def imageGood (image : List Byte) : Bool :=
  decide (image.length = Config.imageBytes) &&
    decide (pairs (image.drop 510) = [byteSum (image.take 510) % 65536]) && decide (pairs (image.take 2) = [0x0103])

/-- What a SETTINGS phase loads (R168, R186): values, protect flag, status, clamped count. -/
def loadImage (e : Eeprom) (answers : Bool) : List Nat × Bool × SettingsStatus × Nat :=
  match e with
  | .bytes image =>
    if answers && imageGood image then
      let stored := pairs ((image.drop 2).take 160)
      let taken := clampLoaded stored
      let clamped := ((stored.zip taken).filter (fun p => decide (p.1 ≠ p.2))).length
      (taken, decide (image[162]? ≠ some 0), if clamped = 0 then .loaded else .clamped, clamped)
    else (defaultValues, false, .defaulted, 0)
  | .partlyWritten => (defaultValues, false, .defaulted, 0)

/-! ## The Ring Qualifier (R154 to R157) -/

/-- R156: the ringing stops; in DOZE nothing is raised. -/
def ringStops (why : RingStop) (s : State) : State :=
  let count := s.ring.count
  let s := s.onRing (fun r => { r with state := .idle, count := 0 })
  if count = 0 ∨ s.power.mode = .doze then s else raise 9 (.ring (some why) count 0) s

/-- R155, R157: a valid burst of `length` ms: RING, in DOZE only once the count has reached RING-WAKE-COUNT, which is a wake cause of
DOZE and WAKING (R152). -/
def ringQualifies (length : Nat) (s : State) : State :=
  let s := s.onRing (fun r => { r with state := .gap, count := satAdd 255 r.count 1 })
  if s.settings.ringWakeCount ≤ s.ring.count then
    wakeCause { WakeCauses.none with ring := true } (raise 9 (.ring none s.ring.count length) s)
  else if s.power.mode = .doze then s
  else raise 9 (.ring none s.ring.count length) s

/-- R155: the burst that ends is judged by its length, in microseconds, and reported in whole ms (log 83). -/
def judgeBurst (s : State) : State :=
  let length := (s.ring.latest - s.ring.first) / 1000
  if ms s.settings.burstMin ≤ s.ring.latest - s.ring.first ∧ s.ring.latest - s.ring.first ≤ ms s.settings.burstMax then
    ringQualifies length s
  else ringStops .length s

/-- R154: RING-PERIOD-MAX has passed after the latest pulse. -/
def burstEndDue (s : State) : Bool :=
  decide (s.ring.state = .inBurst) && passed s.ring.latest (ms s.settings.ringPeriodMax) s.now

/-- R154: GAP-MAX has passed after the latest pulse of the last valid burst. -/
def gapDue (s : State) : Bool := decide (s.ring.state = .gap) && passed s.ring.latest (ms s.settings.gapMax) s.now

/-- R154: a timeout that fell before a pulse is taken before it: strictly overdue, it is taken first. -/
def ringOverdue (s : State) : State :=
  let s := if decide (s.ring.state = .inBurst) && decide (s.ring.latest + ms s.settings.ringPeriodMax < s.now) then judgeBurst s else s
  if decide (s.ring.state = .gap) && decide (s.ring.latest + ms s.settings.gapMax < s.now) then ringStops .gap s else s

/-- R154: a pulse. -/
def takePulse (s : State) : State :=
  match s.ring.state with
  | .inBurst =>
    if s.now - s.ring.latest < ms s.settings.ringPeriodMin then ringStops .invalid s
    else s.onRing (fun r => { r with latest := s.now })
  | _ => s.onRing (fun r => { r with state := .inBurst, first := s.now, latest := s.now })

/-! ## Receiving (R191 to R193) -/

/-- R191: the receiver returns to HUNT and the frame's bytes are released. -/
def huntAgain (s : State) : State := s.onLink (fun l => { l with receiver := .hunt })

/-- R192: the partial frame is discarded with a GAP count. -/
def dropGap (s : State) : State := linkFault .gap (huntAgain s)

/-- The receiver runs (R192). -/
def receiverRuns (s : State) : Bool :=
  decide (s.start.phase = .ready) && (decide (s.power.mode = .active) || decide (s.power.mode = .standby))

/-- A frame in reception (R191). -/
def Receiver.inFrame (r : Receiver) : Bool := decide (r.state ≠ .hunt)

/-- The payload length of the frame in reception (R191). -/
def Receiver.length (r : Receiver) : Nat := num2 (r.bytes.getD 2 0) (r.bytes.getD 3 0)

/-- R193: a byte is an overrun: no free byte, or it reaches into the reserve of a frame known not to be a COMMAND. -/
def overruns (b : Byte) (s : State) : Bool :=
  let bs := s.link.receiver.bytes ++ [b]
  decide (freeBytes s = 0) ||
    (decide (freeBytes s ≤ Config.commandReserve) && decide (2 ≤ bs.length) && decide (bs.getD 1 0 ≠ kindCommand))

/-- The receiver's state after `n` bytes of a frame of `length` payload bytes (R191). -/
def rxStateAfter (n length : Nat) : RxState :=
  if n < 4 then .header else if n < 4 + length then .payload else .check

/-- R191, R193: a byte taken into the frame in reception; the length is judged at its second byte,
after the room (log 74). -/
def takeFrameByte (b : Byte) (s : State) : State :=
  if overruns b s then linkFault .overrun (huntAgain s)
  else
    let bs := s.link.receiver.bytes ++ [b]
    let length := num2 (bs.getD 2 0) (bs.getD 3 0)
    if bs.length = 4 ∧ Config.maxPayload < length then linkFault .length (huntAgain s)
    else s.onLink (fun l => { l with receiver := ⟨rxStateAfter bs.length length, bs, s.now⟩ })

/-- R191: a byte taken in HUNT. -/
def huntByte (b : Byte) (s : State) : State :=
  if b = 0xA5 ∧ freeBytes s ≠ 0 then s.onLink (fun l => { l with receiver := ⟨.header, [b], s.now⟩ })
  else if b = 0xA5 then linkFault .overrun s else s

/-- R191: the frame in reception is complete. -/
def frameComplete (s : State) : Bool :=
  decide (s.link.receiver.state = .check) && decide (s.link.receiver.bytes.length = 6 + s.link.receiver.length)

/-- R160, R149: a valid frame restarts the silence count and the doze count. -/
def validFrame (s : State) : State :=
  (s.onSilence (fun x => { x with since := none, firstStage := false })).onPower (fun p => { p with dozeFrom := none })

/-- R191: a complete frame is judged by its check, then its kind. -/
def judgeFrame (s : State) : State :=
  let bs := s.link.receiver.bytes
  let n := s.link.receiver.length
  let checked := (bs.drop 1).take (3 + n)
  let kind := bs.getD 1 0
  let s := huntAgain s
  if field2 (crc checked) ≠ bs.drop (4 + n) then linkFault .check s
  else if kind ≠ kindCommand ∧ kind ≠ kindDataIn then linkFault .kind s
  else validFrame (s.onLink (fun l => { l with
    inbound := l.inbound ++ [⟨decide (kind = kindCommand), (bs.drop 4).take n, bs.length⟩] }))

end Sys2Proof.Machine
end

