-- ==== Sys2Proof/Machine/StoreCommands.lean ====
section
/-! DEFINITION. The store commands (R24 to R30). -/

namespace Sys2Proof.Machine

/-- A document number that names a document (1.11). -/
def docExists (s : State) (n : Nat) : Bool :=
  decide (1 ≤ n) && decide (n ≤ Config.documentSlots) && decide ((docOf s n).state ≠ .empty)

/-- The document has a FILLING page (R26, R29). -/
def hasFilling (s : State) (n : Nat) : Bool := (docOf s n).pages.any (fun p => decide ((pageOf s p).state = .filling))

/-- R24: the lowest EMPTY directory slot, as a document number. -/
def lowestEmptyDocument (s : State) : Option Nat :=
  (s.store.documents.findIdx? (fun d => decide (d.state = .empty))).map (fun i => i + 1)

def newDocument (o : Origin) (r : Resolution) (w : PageWidth) : Document :=
  { Document.blank with state := .opened, origin := o, resolution := r, width := w }

/-- R24; BAD-PARAM before NO-ROOM, as the rule names them (log 92, DEDUCED). -/
def docCreate (origin resolution width : Byte) (s : State) : Verdict :=
  match Origin.ofCode origin.toNat, Resolution.ofCode resolution.toNat, PageWidth.ofCode width.toNat with
  | some o, some r, some w =>
    (match lowestEmptyDocument s with
     | some n => .ok (onDoc n (fun _ => newDocument o r w) s, be1 n)
     | none => .error .noRoom)
  | _, _, _ => .error .badParam

/-- R24. -/
def execDocCreate (origin resolution width : Byte) (s : State) : Result :=
  command (.docCreate origin resolution width) (docCreate origin resolution width) s

/-- R25. -/
def docClose (n : Nat) (s : State) : Verdict :=
  if !docExists s n then .error .noSuch
  else if (docOf s n).state = .opened ∧ (docOf s n).writer.isSome then .error .busy
  else .ok (advance (onDoc n (fun d => { d with state := .closed }) s), [])

/-- R25. -/
def execDocClose (document : Byte) (s : State) : Result :=
  command (.docClose document) (docClose document.toNat) s

/-- R26: every page's blocks freed and record EMPTY, the document EMPTY. -/
def deleteDocument (n : Nat) (s : State) : State :=
  onDoc n (fun _ => .blank) ((docOf s n).pages.foldl (fun s p => erasePage p s) s)

/-- R26. -/
def docDelete (n : Nat) (s : State) : Verdict :=
  if !docExists s n then .error .noSuch
  else if 0 < (docOf s n).users ∨ hasFilling s n then .error .busy
  else .ok (advance (deleteDocument n s), [])

/-- R26. -/
def execDocDelete (document : Byte) (s : State) : Result :=
  command (.docDelete document) (docDelete document.toNat) s

/-- R208: the 14 bytes of DOC-INFO. -/
def docInfoBytes (s : State) (n : Nat) : List Byte :=
  let d := docOf s n
  be1 d.state.code ++ be1 d.origin.code ++ be1 d.pages.length ++ be1 d.resolution.code ++ be1 d.width.code ++
    be1 (d.writer.getD 0) ++ be1 d.users ++ flag1 d.interrupted ++ be2 ((d.pages.map (fun p => (pageOf s p).blockCount)).sum) ++
    be4 ((d.pages.map (fun p => (pageOf s p).committed)).sum)

/-- R27. -/
def execDocInfo (document : Byte) (s : State) : Result :=
  command (.docInfo document) (fun s =>
    if docExists s document.toNat then .ok (s, docInfoBytes s document.toNat) else .error .noSuch) s

/-- R27, R208: an entry of DOC-LIST. -/
def docEntryBytes (s : State) (n : Nat) : List Byte :=
  let d := docOf s n
  be1 n ++ be1 d.state.code ++ be1 d.origin.code ++ be1 d.pages.length ++ flag1 d.interrupted

/-- The documents that are not EMPTY, in ascending number (R27). -/
def documentsHeld (s : State) : List Nat := ((List.range Config.documentSlots).map (fun i => i + 1)).filter (docExists s)

/-- R27. -/
def execDocList (s : State) : Result :=
  command .docList (fun s =>
    .ok (s, be1 (documentsHeld s).length ++ (documentsHeld s).flatMap (docEntryBytes s))) s

/-- R208: the 23 bytes of PAGE-INFO. -/
def pageInfoBytes (s : State) (slot : Nat) : List Byte :=
  let p := pageOf s slot
  be1 slot ++ be1 p.state.code ++ be1 p.resolution.code ++ be1 p.width.code ++ be2 p.committed ++ be2 p.firstBlock ++
    be2 p.lastBlock ++ be2 p.blockCount ++ be2 p.bytesUsed ++ be2 p.concealed ++ be2 p.dropped ++ be2 p.clamped ++
    flag1 p.freeAsRead ++ be1 p.printCount ++ be1 p.readers

/-- The slot a document number and a page index name (1.11). -/
def namedPage (s : State) (n index : Nat) : Option Nat := if docExists s n then pageAt s n index else none

/-- R28. -/
def execPageInfo (document index : Byte) (s : State) : Result :=
  command (.pageInfo document index) (fun s =>
    match namedPage s document.toNat index.toNat with
    | some slot => .ok (s, pageInfoBytes s slot)
    | none => .error .noSuch) s

/-- R29. -/
def pageDrop (n index : Nat) (s : State) : Verdict :=
  match namedPage s n index with
  | none => .error .noSuch
  | some slot =>
    if 0 < (docOf s n).users ∨ hasFilling s n then .error .busy
    else .ok (advance (erasePage slot s), [])

/-- R29. -/
def execPageDrop (document index : Byte) (s : State) : Result :=
  command (.pageDrop document index) (pageDrop document.toNat index.toNat) s

/-- The state of a channel, in the order of R30: IDLE 0, ACTIVE 1, WAITING 2, STARVED 3. What IDLE and ACTIVE are is the model's (log 52):
ACTIVE while the channel is on a page. -/
def writerState (slot : Option Nat) (waits : Bool) : Nat := if waits then 2 else if slot.isSome then 1 else 0

/-- R30: a reader at the committed count, or at the end of an OPEN document: its job is STARVED on a page, or for a page that is not
in the list. A COPY that waits for LEAD-LINES stands at neither (R71, log 52). -/
def outletStarved (s : State) (o : Outlet) : Bool :=
  match (jobHolding s o.engine).bind (jobIn s) with
  | some j => j.starvedRead && ((readerOf s o).slot.isSome || (pageAt s j.document j.currentPage).isNone)
  | none => false

/-- The same for a reader (log 52). -/
def outletState (s : State) (o : Outlet) : Nat :=
  if outletStarved s o then 3 else if (readerOf s o).slot.isSome then 1 else 0

/-- R30, 11.1: the 23 bytes of STORE-STATUS. -/
def storeStatusBytes (s : State) : List Byte :=
  let st := s.store
  be1 st.sizeMb ++ be2 st.blocks.length ++ be2 (countBlocks st .free) ++ be2 (countBlocks st .used) ++
    be2 (countBlocks st .suspect) ++ be2 (countBlocks st .bad) ++
    be2 ((st.pages.filter (fun p => decide (p.state = .empty))).length) ++
    be1 ((st.documents.filter (fun d => decide (d.state = .empty))).length) ++ flag1 st.low ++ be2 s.settings.lowWater ++
    be2 st.recovered ++ be1 (writerState st.scanIn.slot st.scanIn.held.isSome) ++
    be1 (writerState (st.linkIn.bind LinkIn.slot) (st.linkIn.bind LinkIn.held).isSome) ++
    be1 (outletState s .print) ++ be1 (outletState s .link)

/-- R30. -/
def execStoreStatus (s : State) : Result :=
  command .storeStatus (fun s => .ok (s, storeStatusBytes s)) s

end Sys2Proof.Machine
end

