-- ==== Sys2Proof/Machine/JobCommands.lean ====
section
/-! DEFINITION. The job commands (R49, R51, R52, R58, R59, R61, R64, R66, R67, R69, R70, R73 to R79). -/

namespace Sys2Proof.Machine

/-! ## JOB-START (R49, R51, R52) -/

/-- R49: the counter's value, or the first after it that no job holds, wrapping from 255 to 1. -/
def freeId (s : State) : Nat :=
  (((List.range 5).map (fun i => (s.jobs.nextId - 1 + i) % 255 + 1)).find? (fun id => (slotOfId s id).isNone)).getD 1

def lowestFreeSlot (s : State) : Option Nat := s.jobs.slots.findIdx? Option.isNone

/-- The parameters of JOB-START. -/
structure StartParams where
  kind      : Nat
  document  : Nat
  priority  : Nat
  options   : Nat
  scanMode  : Nat
  firstPage : Nat
  lastPage  : Nat
  copies    : Nat
  deriving DecidableEq, Repr

def StartParams.holdsAtBoundary (p : StartParams) : Bool := decide (p.options % 2 = 1)
def StartParams.freesAsRead (p : StartParams) : Bool := decide (p.options / 2 % 2 = 1)

/-- R51: copies where they are examined, above 99 taken as 99; 1 otherwise. -/
def StartParams.copiesTaken (p : StartParams) (kind : JobKind) : Nat := if kind.prints then min 99 p.copies else 1

/-- R51: a first page of 0 is taken as 1. -/
def StartParams.firstTaken (p : StartParams) : Nat := if p.firstPage = 0 then 1 else p.firstPage

/-- R51, checks 1 to 3, and options whose other bits are set (log 32). -/
def StartParams.badParam (p : StartParams) (kind : JobKind) : Bool :=
  decide (3 < p.priority) || (kind.scans && (ScanMode.ofCode p.scanMode).isNone) || (kind.prints && decide (p.copies = 0)) ||
    decide (3 < p.options) || (p.freesAsRead && (decide (kind = .scan) || decide (kind = .receive))) ||
    (p.holdsAtBoundary && decide (kind = .receive)) || (p.freesAsRead && decide (1 < p.copiesTaken kind))

/-- R51, check 8: the page range is invalid. -/
def StartParams.badRange (p : StartParams) (d : Document) : Bool :=
  decide (64 < p.firstTaken) || decide (64 < p.lastPage) || (decide (p.lastPage ≠ 0) && decide (p.lastPage < p.firstTaken)) ||
    (decide (d.state = .closed) && (decide (d.pages.length < p.firstTaken) || decide (d.pages.length < p.lastPage)))

/-- R51, checks 4 to 8 in order; the slot the job takes. -/
def startChecks (p : StartParams) (kind : JobKind) (s : State) : Except Answer Nat :=
  let d := docOf s p.document
  match lowestFreeSlot s with
  | none => .error .noRoom
  | some k =>
    if !docExists s p.document then .error .noSuch
    else if kind.writes ∧ (d.state ≠ .opened ∨ d.writer.isSome ∨ (kind = .copy ∧ d.pages ≠ [])) then .error .busy
    else if kind = .copy ∧ p.freesAsRead ∧ freeBlocks s < 4 then .error .noRoom
    else if (kind = .print ∨ kind = .send) ∧ p.badRange d then .error .badParam
    else .ok k

/-- R48: the record at JOB-START; its start order is the start count before this start raises it (log 67). -/
def newJob (p : StartParams) (kind : JobKind) (s : State) : Job :=
  let ranged := decide (kind = .print) || decide (kind = .send)
  { id := freeId s, kind := kind, document := p.document, priority := p.priority, holdAtBoundary := p.holdsAtBoundary
    freeAsRead := p.freesAsRead, scanMode := if kind.scans then ScanMode.ofCode p.scanMode else none
    firstPage := if ranged then p.firstTaken else 1, lastPage := if ranged then p.lastPage else 0
    copies := p.copiesTaken kind, currentCopy := 1, currentPage := if ranged then p.firstTaken else 1, scanPage := 1
    state := .waiting, starvedWrite := false, starvedRead := false, sheetWait := false, noCredit := false, pendingStop := none
    boundary := none, startOrder := s.jobs.startCount, pagesDone := 0, linesDone := 0, concealed := 0, dropped := 0
    discardedFrames := 0, credit := 0, pageRemoved := false, rangeDone := false, compareDue := false }

/-- R50, R52: the record, the document's changes and the wait lists. -/
def fillSlot (k : Nat) (j : Job) (s : State) : State :=
  let s := s.onJobs (fun w => { w with
    slots := w.slots.set k (some j), nextId := j.id % 255 + 1, startCount := (w.startCount + 1) % 65536 })
  let s := onDoc j.document (fun d => { d with users := d.users + 1, writer := if j.kind.writes then some j.id else d.writer }) s
  joinLists k j.kind false s

/-- R51, R52. -/
def startJob (p : StartParams) (s : State) : Verdict :=
  match JobKind.ofCode p.kind with
  | none => .error .badParam
  | some kind =>
    if p.badParam kind then .error .badParam
    else match startChecks p kind s with
      | .error a => .error a
      | .ok k => .ok (advance (fillSlot k (newJob p kind s) s), be1 (newJob p kind s).id ++ be1 k)

/-- R51. -/
def execJobStart (kind document priority options scanMode firstPage lastPage copies : Byte) (s : State) : Result :=
  command (.jobStart kind document priority options scanMode firstPage lastPage copies)
    (startJob ⟨kind.toNat, document.toNat, priority.toNat, options.toNat, scanMode.toNat, firstPage.toNat, lastPage.toNat,
      copies.toNat⟩) s

/-! ## JOB-ANSWER (R64) -/

/-- The choices of each code (3.8). -/
def BoundaryCode.choices : BoundaryCode → List Choice
  | .scMore | .scLast => [.next, .finish]
  | .scFull => [.wait, .drop, .finish]
  | .scJam => [.retry, .finish]
  | .prMore => [.next, .repeatPage, .finish]
  | .prLast => [.repeatPage, .finish]
  | .prPaper => [.resume, .repeatPage, .next, .finish]
  | .prCut => [.retry, .finish]
  | .rxFull => [.finish, .drop]
  | .txMore => [.next, .repeatPage, .finish]
  | .txLast => [.repeatPage, .finish]
  | .cpDone => [.finish]

/-- R64: the choices refused with BAD-PARAM; REPEAT by the job's option alone, whatever the page's flag (log 65). -/
def badChoice (j : Job) (b : Boundary) (c : Choice) : Bool :=
  !b.code.choices.contains c || (decide (c = .repeatPage) && j.freeAsRead) ||
    (decide (c = .wait) && decide (b.reason = some .docPages))

/-- R73, R100: the scan side of a COPY has a sheet that FINISH ejects: a page is started, or its sheet is in the path. -/
def sheetToEject (s : State) : Bool :=
  match s.scan.phase with | .warming | .pick | .lines | .eject => true | _ => false

/-- R66, R67, R73: FINISH at SC-JAM: an earlier answer is completed with no further eject, whichever code it answered (log 95, DEDUCED);
otherwise a COPY ejects, a SCAN ends. -/
def finishJam (k : Nat) (j : Job) (s : State) : State :=
  match s.scan.after with
  | some a => afterEject k a s
  | none => if j.kind = .copy then beginEject .endScanSide true s else endJob k .completed s

/-- R67: the choices at SC-FULL in mid-page; a page that has lost its place meets SC-JAM instead (R136, log 38). After DROP the print side
of a COPY goes on until the job ends (log 98, DESIGN CHOICE). -/
def carryFullMid (k : Nat) (j : Job) (c : Choice) (s : State) : State :=
  if s.scan.lost.isSome then s
  else match c with
  | .wait =>
    let waits := s.store.scanIn.held.isSome
    (onJob k (fun x => { x with starvedWrite := waits }) s).onScan (fun x => { x with waitAnswered := waits })
  | .drop => beginEject .endDropped false (discardScanPage s)
  | _ => beginEject (if j.kind = .copy then .endScanSide else .endCompleted) false (keepScanPage s)

/-- R67, R73, R100: the choices at SC-FULL at a page start; the eject after a COPY's FINISH counts from its first step (log 56). -/
def carryFullStart (k : Nat) (j : Job) (c : Choice) (s : State) : State :=
  match c with
  | .wait =>
    addWaiter .pageStart (dropWaiter .pageStart
      ((onJob k (fun x => { x with starvedWrite := true }) s).onScan (fun x => { x with waitAnswered := true })))
  | .drop => endJob k .dropped s
  | _ => if j.kind = .copy then beginEject .endScanSide true s else endJob k .completed s

/-- R70: REPEAT: the page again from line 0. -/
def repeatPrint (s : State) : State :=
  if s.store.printOut.slot.isSome then
    setPrint (fun _ => ⟨.printing, none, .start⟩) (toStart .print s)
  else setPrint (fun _ => ⟨.needPage, none, .start⟩) (whitenHistory s)

/-- R70: NEXT: the reader leaves the page without a cut, and the next page begins as at PR-MORE, or the job ends; a job that waits for a
page passes over that one (log 78). -/
def skipPage (k : Nat) (s : State) : State :=
  moveOn k (setPrint (fun _ => ⟨.needPage, none, .start⟩) (leavePage .print (setPrint (fun p => { p with line := none }) s)))

/-- R73: the sheet's eject for FINISH at PR-PAPER or PR-CUT: one under way goes on, and ends the job COMPLETED (log 94, DEDUCED). -/
def ejectToFinish (s : State) : State :=
  if s.scan.phase = .eject then s.onScan (fun x => { x with after := some .endCompleted })
  else beginEject .endCompleted false s

/-- R70, R73, R136: FINISH at PR-PAPER or PR-CUT: a COPY with a sheet to eject keeps its page and ejects first, a sheet whose page has
ended too (log 94, DEDUCED); before a leading edge the eject counts from its first step (log 56). Its print side stands as RESUME would
find it, and its reader leaves the page as the job ends (log 94). A page that has lost its place meets SC-JAM instead of the motion
(log 38). -/
def finishPrint (k : Nat) (j : Job) (s : State) : State :=
  if j.kind = .copy ∧ sheetToEject s then
    if s.scan.lost.isSome then s
    else ejectToFinish (keepScanPage (backToConsumed s))
  else endJob k .completed s

/-- R70. -/
def carryPaper (k : Nat) (j : Job) (c : Choice) (s : State) : State :=
  match c with
  | .resume => backToConsumed s
  | .repeatPage => repeatPrint s
  | .next => skipPage k s
  | _ => finishPrint k j s

/-- R69: RETRY runs the cutter cycle again from where the paper stands. -/
def carryCut (k : Nat) (j : Job) (c : Choice) (s : State) : State :=
  match c with
  | .retry => setPrint (fun p => { p with cut := if p.phase = .cutting then .resting else p.cut }) s
  | _ => finishPrint k j s

/-- The choice carried out, the job RUNNING with no code (R64). -/
def carryChoice (k : Nat) (j : Job) (b : Boundary) (c : Choice) (s : State) : State :=
  match b.code with
  | .scFull => if b.midPage = some true then carryFullMid k j c s else carryFullStart k j c s
  | .scJam => if c = .retry then s.onScan (fun x => { x with phase := .look, after := none, eject := none }) else finishJam k j s
  | .prPaper => carryPaper k j c s
  | .prCut => carryCut k j c s
  | .rxFull => endJob k (if c = .drop then .dropped else .completed) s
  | _ => carryPageEnd k c s

/-- R64, log 23: the job's scan feed has motion: entries queued, a pick to come once the lamp is warm, a line of the page to admit. -/
def scanStirs (s : State) (k : Nat) (j : Job) : Bool :=
  decide (jobHolding s .scanner = some k) &&
    (!s.mech.scanFeed.queue.isEmpty || (decide (j.state = .running) &&
      match s.scan.phase with
      | .warming => !s.levels.docRead
      | .lines => admits s .scan && isPageLine s s.scan.sheet.nextLine && (s.scan.slots.contains .free || s.store.scanIn.held.isNone)
      | _ => false))

/-- R64, log 23: the job's print side has motion: entries queued, a cut cycle begun, a line to offer. -/
def printStirs (s : State) (k : Nat) (j : Job) : Bool :=
  decide (jobHolding s .printer = some k) &&
    (!s.mech.printFeed.queue.isEmpty || s.mech.cutter.drives || (decide (j.state = .running) &&
      lineToOffer s))

/-- R64, log 23: the choice would step a motor: were the cover closed and the choice carried out, the job would have motion. -/
def choiceMoves (s : State) (k : Nat) (j : Job) (b : Boundary) (c : Choice) : Bool :=
  let closed := s.onLevels (fun l => { l with coverOpen := false })
  let t := advance (carryChoice k j b c (onJob k (fun x => { x with state := .running, boundary := none }) closed))
  !(decide (b.code = .scJam) && decide (c = .retry) && !s.levels.docEntry) &&
    (match jobIn t k with | some x => scanStirs t k x || printStirs t k x | none => false)

/-- R64: an accepted answer: back to the boundary under an open cover, a RETRY that finds no sheet, or the choice carried out. -/
def takeAnswer (k : Nat) (j : Job) (b : Boundary) (c : Choice) (s : State) : State :=
  if s.levels.coverOpen && choiceMoves s k j b c then raiseJob k none s
  else if decide (b.code = .scJam) && decide (c = .retry) && !s.levels.docEntry then s
  else advance (carryChoice k j b c (onJob k (fun x => { x with state := .running, boundary := none }) s))

/-- R64, R74; the refusals in the order of the rule's table (log 92, DEDUCED). -/
def answerJob (id choice : Nat) (s : State) : Verdict :=
  match slotOfId s id with
  | none => .error .noSuch
  | some k =>
    match jobIn s k with
    | none => .error .noSuch
    | some j =>
      if j.kind = .receive ∧ Choice.ofCode choice = some .finish then .ok (advance (endJob k .completed s), [])
      else if j.state ≠ .boundary then .error .busy
      else match j.boundary, Choice.ofCode choice with
        | some b, some c => if badChoice j b c then .error .badParam else .ok (takeAnswer k j b c s, [])
        | _, _ => .error .badParam

/-- R64. -/
def execJobAnswer (job choice : Byte) (s : State) : Result :=
  command (.jobAnswer job choice) (answerJob job.toNat choice.toNat) s

/-! ## JOB-HOLD, JOB-RESUME, JOB-ABORT (R58, R59, R61) -/

/-- The job an id names, with its slot. -/
def namedJob (s : State) (id : Nat) : Option (Nat × Job) := (slotOfId s id).bind (fun k => (jobIn s k).map (fun j => (k, j)))

/-- R58. -/
def holdJob (id : Nat) (s : State) : Verdict :=
  match namedJob s id with
  | none => .error .noSuch
  | some (k, j) => if j.state = .running then .ok (advance (stopJob k .hold s), []) else .error .busy

/-- R58. -/
def execJobHold (job : Byte) (s : State) : Result := command (.jobHold job) (holdJob job.toNat) s

/-- R59: the job goes on, after the comparison of R55 where it is due, which a job with no page left does not come to. -/
def resumed (k : Nat) (j : Job) (s : State) : State :=
  let s := onJob k (fun x => { x with state := .running, compareDue := false }) s
  if j.compareDue then compareAtPageEnd k (if j.kind = .scan then s else endIfDone k s) else s

/-- R59. -/
def resumeJob (id : Nat) (s : State) : Verdict :=
  match namedJob s id with
  | none => .error .noSuch
  | some (k, j) => if j.state = .held then .ok (advance (resumed k j s), []) else .error .busy

/-- R59. -/
def execJobResume (job : Byte) (s : State) : Result := command (.jobResume job) (resumeJob job.toNat) s

/-- R61. -/
def abortJob (id : Nat) (s : State) : Verdict :=
  match namedJob s id with
  | none => .error .noSuch
  | some (k, _) => .ok (advance (endJob k .aborted s), [])

/-- R61. -/
def execJobAbort (job : Byte) (s : State) : Result := command (.jobAbort job) (abortJob job.toNat) s

/-! ## JOB-STATUS (R79, R208) -/

/-- R48: a writer's committed count on its FILLING page, a reader's consumed line number. Where the job has neither (a reader that has left
its page, at PR-MORE, PR-LAST, TX-MORE, TX-LAST, in its cut or between two pages; a writer on no FILLING page; a WAITING job), R14 and R48
give no value: it is 0 (log 104, DESIGN CHOICE). -/
def currentLine (s : State) (j : Job) (k : Nat) : Nat :=
  let filling := fun (slot : Option Nat) => match slot with
    | some p => if (pageOf s p).state = .filling then (pageOf s p).committed else 0
    | none => 0
  match j.kind with
  | .scan => if jobHolding s .scanner = some k then filling s.store.scanIn.slot else 0
  | .receive => if jobHolding s .linkIn = some k then filling (s.store.linkIn.bind LinkIn.slot) else 0
  | .send => if jobHolding s .linkOut = some k then s.store.linkOut.consumedLine else 0
  | _ => if jobHolding s .printer = some k then s.store.printOut.consumedLine else 0

/-- R56, R60: the sub-conditions a record shows. -/
def subConditions (s : State) (j : Job) (k : Nat) : List Bool :=
  let prints := decide (jobHolding s .printer = some k)
  [j.starvedWrite || j.starvedRead, j.sheetWait, prints && s.energy.thermalHold, prints && s.energy.supplyHold, j.noCredit]

def stopCode : Option Stop → Nat
  | none => noneCode
  | some .hold => 0xFE
  | some (.code b) => b.code.code

/-- The job's place in a wait list, the head 1, 0 when absent (R79). -/
def placeIn (l : List Nat) (k : Nat) : Nat := if l.contains k then l.findIdx (fun x => x == k) + 1 else 0

/-- R208: the 40 bytes of JOB-STATUS (log 21 for the fields that hold none); its reason byte has the codes of a JOB record's (log 91,
DESIGN CHOICE). -/
def jobStatusBytes (s : State) (j : Job) (k : Nat) : List Byte :=
  let place := (j.boundary.map Boundary.place).getD noneCode
  be1 k ++ be1 j.id ++ be1 j.kind.code ++ be1 j.document ++ be1 j.priority ++ be1 (flagSet [j.holdAtBoundary, j.freeAsRead]) ++
    be1 ((j.scanMode.map ScanMode.code).getD noneCode) ++ be1 j.firstPage ++ be1 j.lastPage ++ be1 j.copies ++ be1 j.currentCopy ++
    be1 j.currentPage ++ be2 (currentLine s j k) ++ be1 (if j.kind = .copy then j.scanPage else noneCode) ++
    be1 j.state.code ++ be1 (flagSet (subConditions s j k)) ++ be1 (stopCode j.pendingStop) ++
    be1 ((j.boundary.map (fun b => b.code.code)).getD noneCode) ++ be1 (Reason.code (j.boundary.bind Boundary.reason)) ++ be1 place ++
    be1 (flagSet ([Engine.scanner, .printer, .linkIn, .linkOut].map (fun e => decide (jobHolding s e = some k)))) ++
    be2 j.startOrder ++ be2 j.pagesDone ++ be2 j.linesDone ++ be2 j.concealed ++ be2 j.dropped ++ be2 j.discardedFrames ++
    be2 j.credit ++ be1 (placeIn s.jobs.waits.scanner k) ++ be1 (placeIn s.jobs.waits.printer k) ++
    be1 (placeIn s.jobs.waits.linkIn k) ++ be1 (placeIn s.jobs.waits.linkOut k)

/-- R79. -/
def execJobStatus (job : Byte) (s : State) : Result :=
  command (.jobStatus job) (fun s =>
    match namedJob s job.toNat with
    | some (k, j) => .ok (s, jobStatusBytes s j k)
    | none => .error .noSuch) s

/-! ## SEND-CREDIT (R78) -/

/-- R78: the credit saturates at 4095, and NO-CREDIT clears if it is above 0. -/
def Job.credited (n : Nat) (j : Job) : Job :=
  { j with credit := satAdd 4095 j.credit n, noCredit := j.noCredit && decide (satAdd 4095 j.credit n = 0) }

/-- R78: the reply is the sum, before the records it lets the job place at once (log 55). -/
def sendCredit (id n : Nat) (s : State) : Verdict :=
  match namedJob s id with
  | none => .error .noSuch
  | some (k, j) =>
    if j.kind ≠ .send then .error .badParam
    else .ok (advance (onJob k (Job.credited n) s), be2 (j.credited n).credit)

/-- R78; the records it lets the job read meet the parity condition of the step (R19). -/
def execSendCredit (job : Byte) (count : CreditGrant) (s : State) : Result :=
  command (.sendCredit job count) (fun s => sendCredit job.toNat count.count.toNat (s.onFaults (fun _ => count.faults))) s

end Sys2Proof.Machine
end

