-- ==== Sys2Proof/Machine/LinkCommands.lean ====
section
/-! DEFINITION. The link and event commands (R195, R201 to R203). -/

namespace Sys2Proof.Machine

/-! ## PING (R203) -/

def pingData (bytes : List Byte) (s : State) : List Byte :=
  bytes ++ be1 s.power.mode.code ++ be1 s.link.rate ++ s.link.totals.list.flatMap be2 ++ be2 (freeBytes s)

/-- R203 (log 19: the free count is the one after the frame's release). -/
def execPing (b0 b1 b2 b3 : Byte) (s : State) : Result :=
  command (.ping b0 b1 b2 b3) (fun s => .ok (s, pingData [b0, b1, b2, b3] s)) s

/-! ## GET-EVENTS (R201) -/

/-- The sources with an eligible record, in source order (R201). -/
def eligible (e : Events) (all : Bool) : List Nat :=
  (List.range 16).filter (fun n => (e.pending.getD n none).isSome && (all || !(e.masked.getD n false)))

/-- A record as GET-EVENTS reports it: 12 bytes (R207). -/
def recordBytes (e : Events) (n : Nat) : List Byte :=
  match e.pending.getD n none with
  | some r => be1 n ++ be1 r.count ++ r.detail.bytes
  | none => []

/-- R201: the reported records are cleared. -/
def Events.clear (ns : List Nat) (e : Events) : Events :=
  { e with pending := e.pending.zipIdx.map (fun p => if ns.contains p.2 then none else p.1) }

def collect (all : Bool) (s : State) : State × List Byte :=
  let ns := eligible s.events all
  let reported := ns.take 8
  (s.onEvents (Events.clear reported),
   be1 reported.length ++ reported.flatMap (recordBytes s.events) ++ be1 (ns.length - reported.length))

/-- R201. -/
def execGetEvents (includeMasked : Byte) (s : State) : Result :=
  command (.getEvents includeMasked) (fun s =>
    if includeMasked = 0 then .ok (collect false s) else if includeMasked = 1 then .ok (collect true s)
    else .error .badParam) s

/-! ## EVENT-MASK (R202) -/

/-- The set of sources with a pending record, source n in bit n. -/
def pendingSet (e : Events) : Nat := flagSet (e.pending.map Option.isSome)

/-- R202. -/
def execEventMask (masks : BitVec 16) (s : State) : Result :=
  command (.eventMask masks) (fun s =>
    let s := s.onEvents (fun e => { e with masked := (List.range 16).map masks.getLsbD })
    .ok (s, be2 masks.toNat ++ be2 (pendingSet s.events))) s

/-! ## A frame that spells no command (R195) -/

/-- R195: an empty payload and a known code with the wrong parameter count give BAD-LENGTH, an unknown code UNKNOWN. -/
def unknownAnswer (payload : List Byte) : Answer :=
  match payload with
  | [] => .badLength
  | c :: _ => if commandCodes.contains c.toNat then .badLength else .unknown

/-- R195: the code of the payload is echoed, 0 for an empty one. -/
def execUnknownCommand (payload : List Byte) (s : State) : Result :=
  event (takes (.unknownCommand payload) s)
    (fun s => placeReply (payload.headD 0) (unknownAnswer payload) [] (releaseCommand s)) s

end Sys2Proof.Machine
end

