-- ==== Sys2Proof/Machine/ResetOps.lean ====
section
/-! DEFINITION. What a reset takes from every block, and the FRESH and REBUILT procedures of the MEMORY phase (R31, R81, R101, R121, R144,
R163, R164 to R174, R204). -/

namespace Sys2Proof.Machine

/-! ## A reset begins (R164) -/

/-- Job slots in use (R176). -/
def slotsInUse (s : State) : Nat := (usedSlots s).length

/-- R164, R165: a store that a reset interrupts leaves its image partly written. -/
def Settings.cutOff (g : Settings) : Settings :=
  if g.writing.isSome then { g with writing := none, eeprom := .partlyWritten } else g

/-- The Start-Up Controller as a reset of a kind begins. -/
def StartUp.begun (kind : ResetKind) (lost : Nat) (t : StartUp) : StartUp :=
  { t with phase := .inReset, kind := kind, jobsLost := lost, homing := none, calOutcome := none, jamAtStart := false }

/-- R164: all work stops, and each block takes the values of its own rule: R31, R81, R101, R121, R144, R163, R204. The retention
domain, the DRAM, the levels and the straps' reading stay; so do the working values, the protect flag and the image state, until the
SETTINGS phase ends (log 97, DESIGN CHOICE). -/
def resetBlocks (kind : ResetKind) (s : State) : State :=
  { s with
    start := s.start.begun kind (if kind = .restart then slotsInUse s else 0)
    store := s.store.afterReset
    jobs := .afterReset
    scan := .afterReset
    energy := .afterReset
    mech := .afterReset s.levels.cutterHome
    power := .afterReset
    ring := .afterReset
    wake := if kind = .restart then s.wake else .stopped
    silence := .afterReset s.silence.hostResets
    settings := s.settings.cutOff
    link := .afterReset s.link.rate (decide (kind ≠ .restart))
    events := .afterReset }

/-! ## The FRESH store (R170, R171) -/

/-- R170: the size in MB by the alias test (log 35). -/
def sizeFound (block0 block512 : TagRead) : Nat :=
  match block0, block512 with
  | .tag0, _ => 4
  | .tag1024, .tag512 => 2
  | _, _ => 1

/-- R171: the records at the end of the memory test. -/
def freshStore (size : Nat) (failing : List Nat) (st : Store) : Store :=
  { st with
    blocks := (List.range (512 * size)).map (fun b => if failing.contains b then ⟨.bad, none, 0⟩ else .blank)
    pages := List.replicate Config.pageSlots .blank
    documents := List.replicate Config.documentSlots .blank
    sizeMb := size }

/-- R170, R171: a FRESH build; the test leaves no byte of the DRAM as it was (log 6), and writes the marker. -/
def buildFresh (size : Nat) (failing : List Nat) (s : State) : State :=
  let s := (s.onStore (freshStore size failing)).onDram (fun _ => [])
  (s.onFaults (fun _ => ⟨[], []⟩)).onStart (fun t => { t with marker := true, counts := .zero })

/-! ## The REBUILT store: states and lists (R172) -/

/-- R172, 1. -/
def Page.settled (p : Page) : Page :=
  { p with state := if p.state = .filling then .truncated else p.state, readers := 0 }

/-- R172, 2. -/
def Document.settled (d : Document) : Document :=
  { d with
    state := if d.state = .opened then .closed else d.state
    interrupted := d.interrupted || decide (d.state = .opened), writer := none, users := 0 }

/-- The first of each repeated entry stays (R172, 3). -/
def keepFirst : List Nat → List Nat → List Nat
  | _, [] => []
  | seen, x :: xs => if seen.contains x then keepFirst seen xs else x :: keepFirst (x :: seen) xs

/-- R172, 3: the entries of document `n`'s list that stay. -/
def checkedList (pages : List Page) (n : Nat) (l : List Nat) : List Nat :=
  keepFirst [] (l.filter (fun slot =>
    decide ((pages.getD slot .blank).state ≠ .empty) && decide ((pages.getD slot .blank).document = n)))

/-- R172, 1 to 3: states, and lists checked entry by entry. -/
def settledStore (st : Store) : Store :=
  let pages := st.pages.map Page.settled
  { st with
    pages := pages
    documents := st.documents.zipIdx.map (fun p => { p.1.settled with pages := checkedList pages (p.2 + 1) p.1.pages }) }

/-- A slot that stands in some page list. -/
def listed (st : Store) (slot : Nat) : Bool := st.documents.any (fun d => d.pages.contains slot)

/-- The slots that steps 3 and 4 of R172 make EMPTY. -/
def droppedSlots (st : Store) : List Nat :=
  (List.range st.pages.length).filter (fun slot =>
    let p := st.pages.getD slot .blank
    decide (p.state ≠ .empty) && (!listed st slot || p.freeAsRead))

/-- Pages made EMPTY and taken out of their lists, their blocks left to the sweep (R172). -/
def emptySlots (slots : List Nat) (st : Store) : Store :=
  { st with
    pages := slots.foldl (fun ps slot => modifyAt slot (fun _ => .blank) ps) st.pages
    documents := st.documents.map (fun d => { d with pages := d.pages.filter (fun x => !slots.contains x) }) }

/-! ## The REBUILT store: the chain walk (R173) -/

/-- The blocks a walk can reach from `b`, each checked as R173 states; `reached` are the blocks of earlier walks. -/
def walkBlocks (s : State) (slot : Nat) : Nat → List Nat → Nat → List Nat
  | 0, _, _ => []
  | fuel + 1, reached, b =>
    if blockGood s slot b && !reached.contains b then
      b :: (match (blockOf s b).next with | some c => walkBlocks s slot fuel (b :: reached) c | none => [])
    else []

/-- The address of byte `p` of a chain. -/
def walkAddress (chain : List Nat) (p : Nat) : Nat :=
  blockAddress (chain.getD (p / Config.blockBytes) 0) (p % Config.blockBytes)

def walkByte (s : State) (chain : List Nat) (p : Nat) : Byte := dramByte s.dram (walkAddress chain p)

/-- `n` bytes of a chain from byte `p`. -/
def walkBytes (s : State) (chain : List Nat) (p n : Nat) : List Byte := (List.range n).map (fun i => walkByte s chain (p + i))

/-- A record delimited by the walk: its length when it is whole, and how many of its bytes were read. -/
structure Walked where
  length : Option Nat
  read   : Nat
  deriving DecidableEq, Repr

/-- R173: a RUNS record at byte `p` of a chain of `total` bytes: the part's own records lie within the first 257 bytes. -/
def walkRuns (s : State) (chain : List Nat) (w : PageWidth) (p total : Nat) : Walked :=
  let judge := fun n => delimitRuns w.dots 0 0 (walkBytes s chain (p + 1) (min n (total - (p + 1))))
  match judge 256 with
  | .whole n => ⟨some (n + 1), n + 1⟩
  | .overshoot n => ⟨none, n + 1⟩
  | .cut =>
    match judge total with
    | .whole n => ⟨some (n + 1), n + 1⟩
    | .overshoot n => ⟨none, n + 1⟩
    | .cut => ⟨none, total - p⟩

/-- R173: the record at byte `p`: its header is read, and a RUNS body; a LITERAL body is passed over. -/
def walkRecord (s : State) (chain : List Nat) (w : PageWidth) (p : Nat) : Walked :=
  let total := chain.length * Config.blockBytes
  if total ≤ p then ⟨none, 0⟩
  else match itemKind (walkByte s chain p) with
    | some .white => ⟨some 1, 1⟩
    | some .repeated => ⟨some 1, 1⟩
    | some .literal => if p + w.literalLength ≤ total then ⟨some w.literalLength, 1⟩ else ⟨none, 1⟩
    | some .runs => walkRuns s chain w p total
    | _ => ⟨none, 1⟩

/-- The positions read that fail twice: an error makes the bytes be read once more (R19, R173). -/
def walkFailing (f : ParityFaults) (chain : List Nat) (p n : Nat) : List Nat :=
  let ps := (List.range n).map (fun i => p + i)
  if ps.any (fun q => f.first.contains (walkAddress chain q)) then ps.filter (fun q => f.reread.contains (walkAddress chain q)) else []

/-- An error that the second read does not show (R19). -/
def walkRecovered (f : ParityFaults) (chain : List Nat) (p n : Nat) : Bool :=
  ((List.range n).any (fun i => f.first.contains (walkAddress chain (p + i)))) && decide (walkFailing f chain p n = [])

/-- How a walk ended: records delimited whole, the byte just past the last of them, and whether it passed. -/
structure WalkEnd where
  lines  : Nat
  past   : Nat
  passed : Bool
  deriving DecidableEq, Repr

/-- The bytes of a record that the walk reads: its header alone where that fails twice. -/
def bytesRead (f : ParityFaults) (chain : List Nat) (p : Nat) (v : Walked) : Nat :=
  if walkFailing f chain p (min 1 v.read) = [] then v.read else 1

/-- R173: `n` records delimited from byte `p` on. -/
def walkLines (chain : List Nat) (w : PageWidth) : Nat → Nat → Nat → State → State × WalkEnd
  | 0, p, done, s => (s, ⟨done, p, true⟩)
  | n + 1, p, done, s =>
    let v := walkRecord s chain w p
    let read := bytesRead s.dramFaults chain p v
    let failing := walkFailing s.dramFaults chain p read
    if failing ≠ [] then
      (suspectBlocks (failing.map (fun q => chain.getD (q / Config.blockBytes) 0)).dedup s, ⟨done, p, false⟩)
    else
      let s := if walkRecovered s.dramFaults chain p read then
        s.onStore (fun st => { st with recovered := satAdd 65535 st.recovered 1 }) else s
      match v.length with
      | some len => walkLines chain w n (p + len) (done + 1) s
      | none => (s, ⟨done, p, false⟩)

/-- The block of a chain in which a walk that ended just past byte `e` has its last byte (R173). -/
def lastPlace (e : Nat) : Nat := if e = 0 then 0 else (e - 1) / Config.blockBytes

/-- R173: the page record the walk's outcome sets. -/
def Page.walked (chain : List Nat) (e : WalkEnd) (p : Page) : Page :=
  { p with
    committed := e.lines
    part := 0
    lastBlock := chain.getD (lastPlace e.past) 0
    blockCount := lastPlace e.past + 1
    bytesUsed := e.past - lastPlace e.past * Config.blockBytes
    state := if e.passed then p.state else .damaged }

/-- What the walks have found: the state, the blocks reached, the pages made DAMAGED and those made EMPTY. -/
structure Walks where
  state   : State
  reached : List Nat
  damaged : Nat
  removed : Nat

/-- R173: the walk of one page; each walk that fails counts a page damaged, one that stood DAMAGED too (log 71). -/
def walkPage (v : Walks) (slot : Nat) : Walks :=
  let s := v.state
  let p := pageOf s slot
  if p.state = .empty then v
  else
    let chain := walkBlocks s slot s.store.blocks.length v.reached p.firstBlock
    if chain = [] then { v with state := s.onStore (emptySlots [slot]), removed := v.removed + 1 }
    else
      let r := walkLines chain p.width p.committed 0 0 s
      let last := chain.getD (lastPlace r.2.past) 0
      let s := onBlock last (fun b => { b with next := none }) (onPage slot (Page.walked chain r.2) r.1)
      { v with
        state := s
        reached := v.reached ++ chain.take (lastPlace r.2.past + 1)
        damaged := v.damaged + (if r.2.passed then 0 else 1) }

/-- R173: the walks of every page, in ascending slot order. -/
def walkAll (s : State) : Walks := (List.range s.store.pages.length).foldl walkPage ⟨s, [], 0, 0⟩

/-! ## The REBUILT store: the orphan sweep and the counts (R174, R178) -/

/-- R174: a block that no walk has reached. -/
def isOrphan (reached : List Nat) (n : Nat) (b : Block) : Bool :=
  (decide (b.state = .used) || decide (b.state = .suspect)) && !reached.contains n

/-- R174: the sweep. -/
def sweep (reached : List Nat) (st : Store) : Store :=
  { st with blocks := st.blocks.zipIdx.map (fun p => if isOrphan reached p.2 p.1 then p.1.freed else p.1) }

def orphans (reached : List Nat) (st : Store) : Nat := (st.blocks.zipIdx.filter (fun p => isOrphan reached p.2 p.1)).length

/-- R172 to R174: the REBUILT procedure, with the counts of the boot report. -/
def buildRebuilt (faults : ParityFaults) (s : State) : State :=
  let s := s.onFaults (fun _ => faults)
  let truncated := (s.store.pages.filter (fun p => decide (p.state = .filling))).length
  let interrupted := (s.store.documents.filter (fun d => decide (d.state = .opened))).length
  let s := s.onStore settledStore
  let dropped := droppedSlots s.store
  let v := walkAll (s.onStore (emptySlots dropped))
  let freed := orphans v.reached v.state.store
  let s := v.state.onStore (sweep v.reached)
  s.onStart (fun t => { t with counts :=
    { rebuilt := true
      docsKept := (s.store.documents.filter (fun d => decide (d.state ≠ .empty))).length
      docsInterrupted := interrupted
      pagesKept := (s.store.pages.filter (fun p => decide (p.state ≠ .empty))).length
      pagesTruncated := truncated
      pagesDamaged := v.damaged
      pagesRemoved := dropped.length + v.removed
      orphansFreed := freed } })

end Sys2Proof.Machine
end

