-- ==== Sys2Proof/Machine/LinkEvents.lean ====
section
/-! DEFINITION. The link's events and the reception of page data (R37 to R43, R75, R191 to R198). -/

namespace Sys2Proof.Machine

/-! ## The receiver (R191 to R193) -/

/-- R191. -/
def execFrameReceived (s : State) : Result := event (receiverRuns s && frameComplete s) judgeFrame s

/-- R192: a frame in reception has waited 20 ms for its next byte. -/
def gapTimeoutDue (s : State) : Bool :=
  receiverRuns s && s.link.receiver.inFrame && !frameComplete s && passed s.link.receiver.lastAt frameGap s.now

/-- R192. -/
def execFrameGapTimeout (s : State) : Result := event (gapTimeoutDue s) dropGap s

/-- R191: a byte with or without its stop bit, by the receiver's state; a framing fault is judged before the room (log 73). -/
def receiveByte (b : Byte) (framingFault : Bool) (s : State) : State :=
  if s.link.receiver.inFrame then (if framingFault then linkFault .framing (huntAgain s) else takeFrameByte b s)
  else if framingFault then s else huntByte b s

/-- Log 31: a complete frame is judged, and a frame more than 20 ms late discarded, before the next byte is taken. -/
def beforeByte (s : State) : State :=
  if frameComplete s then judgeFrame s
  else if s.link.receiver.inFrame && decide (s.link.receiver.lastAt + frameGap < s.now) then dropGap s
  else s

/-- R190 to R193: a byte that arrives while the receiver does not run is discarded with no count. -/
def execLinkByteReceived (b : Byte) (framingFault : Bool) (s : State) : Result :=
  event (receiverRuns s) (fun s => receiveByte b framingFault (beforeByte s)) s

/-! ## Routing of DATA-IN frames (R194) -/

/-- The oldest DATA-IN frame with no COMMAND frame before it. -/
def routable (s : State) : Option InFrame :=
  match s.link.inbound with
  | f :: _ => if f.command then none else some f
  | [] => none

/-- R194: the frame joins the channel queue; a payload of length 0 is released at once. -/
def enqueueFrame (f : InFrame) (s : State) : State :=
  if f.payload = [] then s
  else s.onStore (fun st => { st with linkIn := st.linkIn.map (fun c => { c with queue := c.queue ++ [⟨f.payload, f.size⟩] }) })

/-- R194: the frame judged against the job that holds LINK-IN. -/
def routeFrame (f : InFrame) (s : State) : State :=
  match receiveJob s with
  | none => linkFault .noReceiver s
  | some (k, j) =>
    if j.state = .running then enqueueFrame f s
    else onJob k (fun x => { x with discardedFrames := satAdd 65535 x.discardedFrames 1 }) s

/-- R194. -/
def execDataInRouting (s : State) : Result :=
  event (receiverRuns s && (routable s).isSome)
    (fun s => match routable s with
      | some f => routeFrame f (s.onLink (fun l => { l with inbound := l.inbound.tail }))
      | none => s) s

/-! ## The LINK-IN channel (R37 to R43) -/

/-- The item that begins what is left of the head frame, delimited with the channel's width (R37, R38). -/
def headItem (s : State) : Option Received :=
  match s.store.linkIn with
  | some c => c.queue.head?.bind (fun f => receivedItem c.width f.rest)
  | none => none

/-- R37, R194: the channel takes items while its job is RUNNING and it does not wait. -/
def channelTakes (s : State) : Bool :=
  receiverRuns s &&
    (match receiveJob s with | some (_, j) => decide (j.state = .running) | none => false) &&
    (match s.store.linkIn with | some c => decide (c.reception ≠ .waiting) | none => false)

def onLinkIn (f : LinkIn → LinkIn) (s : State) : State := s.onStore (fun st => { st with linkIn := st.linkIn.map f })

/-- R194: the item is taken; a frame whose last item is taken is released. -/
def LinkIn.took (rest : List Byte) (c : LinkIn) : LinkIn :=
  match c.queue with
  | [] => c
  | f :: fs => { c with queue := if rest = [] then fs else { f with rest := rest } :: fs }

def takeItem (rest : List Byte) (s : State) : State := onLinkIn (LinkIn.took rest) s

/-- The receiving job, its slot and its channel. -/
def reception (s : State) : Option (Nat × Job × LinkIn) :=
  match receiveJob s, s.store.linkIn with
  | some (k, j), some c => some (k, j, c)
  | _, _ => none

/-- R75: the job meets RX-FULL. -/
def meetRxFull (k : Nat) (r : FullReason) (s : State) : State := meet k ⟨.rxFull, some r.reason, none⟩ s

/-- R8, R9, R39: a line stored through the store's writing rules; the channel waits where no block is FREE. -/
def storeReceived (k slot : Nat) (record : List Byte) (conceals : Bool) (s : State) : State :=
  let r := appendRecord slot record s
  if r.2 = [] then commitRecord slot conceals r.1
  else
    let s := onLinkIn (fun c => { c with reception := .waiting, held := some ⟨r.2, conceals⟩ }) r.1
    meetRxFull k .blocks (addWaiter .linkRecord s)

/-- R43, R22: a line discarded in NO-PAGE or DISCARDING. -/
def dropReceived (k : Nat) (c : LinkIn) (s : State) : State :=
  let s := if c.reception = .discarding then (match c.slot with | some slot => dropPageLine slot s | none => s) else s
  dropJobLine k s

/-- R38, R39, R42, R43: a line of the head frame, to be stored as `record`. -/
def takeLine (record : List Byte) (conceals : Bool) (s : State) : State :=
  match reception s with
  | none => s
  | some (k, _, c) =>
    match c.reception, c.slot with
    | .receiving, some slot => if atLineLimit s slot then dropAtLimit slot s else storeReceived k slot record conceals s
    | _, _ => dropReceived k c s

/-- A line record begins the head frame's rest. -/
def Received.isLine : Received → Bool
  | .usable _ _ => true | .unusable _ => true | _ => false
def Received.isBegin : Received → Bool
  | .pageBegin _ _ _ => true | _ => false
def Received.isEnd : Received → Bool
  | .pageEnd _ => true | _ => false
def Received.isLost : Received → Bool
  | .lost _ => true | _ => false

/-- The head item is of a sort, and the channel takes it now. -/
def itemDue (sort : Received → Bool) (s : State) : Bool :=
  channelTakes s && (match headItem s with | some i => sort i | none => false)

/-- R38, R39: a usable record is stored, in place of an unusable one a REPEAT that conceals. -/
def receiveLine (s : State) : State :=
  match headItem s with
  | some (.usable record rest) => takeLine record false (takeItem rest s)
  | some (.unusable rest) => takeLine [headRepeat] true (takeItem rest s)
  | _ => s

/-- R38, R39, R42, R43. -/
def execReceivedLineRecord (s : State) : Result := jobEvent (itemDue Received.isLine s) receiveLine s

/-! ## Markers (R41) -/

/-- As a page ends, the job's page index is the one the next page takes (log 46), past 64 after the 64th (log 80), the same again after
a page removed under its writer (log 93, DESIGN CHOICE); a page ended normally counts in pages done (R74). -/
def Job.receivedPage (normal : Bool) (next : Nat) (j : Job) : Job :=
  { j with pagesDone := satAdd 65535 j.pagesDone normal.toNat, currentPage := next }

/-- R41: what PAGE-END does, and PAGE-BEGIN first: a FILLING page ends normally, a DAMAGED page stays as it is. -/
def endReceived (s : State) : State :=
  match reception s with
  | none => s
  | some (k, j, c) =>
    if c.reception = .noPage then s
    else
      let normal := match c.slot with | some slot => decide ((pageOf s slot).state = .filling) | none => false
      let s := match c.slot with | some slot => endPageNormally slot s | none => s
      onJob k (Job.receivedPage normal (nextIndex s j.document)) (onLinkIn (fun c => { c with reception := .noPage, slot := none, held := none }) s)

/-- R41, R48, R75: the channel asks the store for a page start; the job's index names the page (log 46). -/
def beginReceived (r : Resolution) (w : PageWidth) (s : State) : State :=
  match reception s with
  | none => s
  | some (k, j, _) =>
    match startPage j.document r w false s with
    | .ok p =>
      onJob k (fun x => { x with currentPage := (docOf p.2 j.document).pages.length })
        (onLinkIn (fun c => { c with reception := .receiving, width := w, slot := some p.1 }) p.2)
    | .error reason => meetRxFull k reason s

/-- R41. -/
def receiveBegin (s : State) : State :=
  match headItem s with
  | some (.pageBegin r w rest) => beginReceived r w (endReceived (takeItem rest s))
  | _ => s

/-- R41. -/
def execReceivedPageBegin (s : State) : Result := jobEvent (itemDue Received.isBegin s) receiveBegin s

/-- R41. -/
def receiveEnd (s : State) : State :=
  match headItem s with
  | some (.pageEnd rest) => endReceived (takeItem rest s)
  | _ => s

/-- R41. -/
def execReceivedPageEnd (s : State) : Result := jobEvent (itemDue Received.isEnd s) receiveEnd s

/-- R40: the rest of the payload is discarded and counted; a header that names no kind costs a line, concealed, dropped or discarded. -/
def receiveLost (s : State) : State :=
  match headItem s with
  | some (.lost unknownHeader) =>
    let s := linkFault .badRecord (takeItem [] s)
    if unknownHeader then takeLine [headRepeat] true s else s
  | _ => s

/-- R40. -/
def execUndelimitableItem (s : State) : Result := jobEvent (itemDue Received.isLost s) receiveLost s

/-! ## The transmitter (R197) -/

/-- R197: the REPLY is sent: DOZE is entered (R150), the RESTART reset begins (R164, R180), or the next frame is begun. -/
def replySent (s : State) : State :=
  if s.link.restartAccepted then resetBlocks .restart s
  else
    let s := transmitNext (s.onLink (fun l => { l with reply := none }))
    if s.link.dozeAccepted then enterDoze s else s

/-- R197: the link transmits in ACTIVE and STANDBY, as it receives (R145). -/
def execReplySent (s : State) : Result := event (receiverRuns s && decide (s.link.sending = some .reply)) replySent s

/-- R197: the DATA-OUT frame is sent: its lines are consumed (R14), and the SEND job goes on. -/
def dataOutSent (faults : ParityFaults) (s : State) : State :=
  match s.link.dataOut with
  | none => s
  | some o => frameSent o (transmitNext ((s.onFaults (fun _ => faults)).onLink (fun l => { l with dataOut := none })))

/-- R197. -/
def execDataOutSent (faults : ParityFaults) (s : State) : Result :=
  jobEvent (receiverRuns s && decide (s.link.sending = some .dataOut)) (dataOutSent faults) s

end Sys2Proof.Machine
end

