-- ==== Sys2Proof/Machine/MechanismCommands.lean ====
section
/-! DEFINITION. The mechanism commands (R96, R99, R141 to R143). -/

namespace Sys2Proof.Machine

/-- R96: the calibration begins with the SCANNER held as an internal operation, the part in ACTIVE. -/
def startCalibration (s : State) : State :=
  beginCalibration false (enterActive (takeEngine .scanner (.internal [.calibrate]) s))

/-- R96. -/
def scanCalibrate (s : State) : Verdict :=
  if holderOf s .scanner ≠ .free ∨ s.levels.docRead then .error .busy else .ok (startCalibration s, [])

/-- R96. -/
def execScanCalibrate (s : State) : Result := command .scanCalibrate scanCalibrate s

/-- R99: the eject begins, its long-sheet count with its first step. -/
def startEject (s : State) : State :=
  let s := enterActive (takeEngine .scanner (.internal [.eject]) s)
  s.onScan (fun x => { x with eject := some ⟨false, false⟩, sheet := Sheet.none })

/-- R99. -/
def docEject (s : State) : Verdict :=
  if holderOf s .scanner ≠ .free ∨ s.levels.coverOpen then .error .busy else .ok (advance (startEject s), [])

/-- R99. -/
def execDocEject (s : State) : Result := command .docEject docEject s

/-- R141: one RUN entry of the count with purpose ADVANCE. -/
def startAdvance (n : Nat) (s : State) : State :=
  let s := enterActive (takeEngine .printer (.internal [.advance]) s)
  enqueue .print (runEntry .advance n) (s.onMech (fun x => { x with advanced := 0 }))

/-- R141: 0 is refused, first (log 92, DEDUCED), a count above 15400 is taken as 15400. -/
def paperAdvance (n : Nat) (s : State) : Verdict :=
  if n = 0 then .error .badParam
  else if holderOf s .printer ≠ .free ∨ s.levels.coverOpen then .error .busy
  else .ok (startAdvance (min 15400 n) s, be2 (min 15400 n))

/-- R141. -/
def execPaperAdvance (steps : BitVec 16) (s : State) : Result :=
  command (.paperAdvance steps) (paperAdvance steps.toNat) s

/-- R142: a cut cycle begins from the blade's state, with no feed. -/
def startCut (s : State) : State := beginCycle (enterActive (takeEngine .printer (.internal [.cut]) s))

/-- R142. -/
def cutPaper (s : State) : Verdict :=
  if holderOf s .printer ≠ .free ∨ s.levels.coverOpen then .error .busy else .ok (startCut s, [])

/-- R142. -/
def execCut (s : State) : Result := command .cut cutPaper s

/-- R208: a feed's 9 bytes of SENSOR-READ; a motor with an entry queued whose motion has not begun shows as at rest (log 90,
DEDUCED). -/
def feedBytes (s : State) (m : Motor) : List Byte :=
  let f := feedOf s m
  be1 f.current.code ++ flag1 f.moving ++ be1 f.level ++ be1 f.queue.length ++ be1 (flagSet (stopCauses s m).list) ++ be4 f.stepCount

/-- The six levels as SENSOR-READ gives them (R208). -/
def levelSet (l : Levels) : Nat := flagSet [l.docEntry, l.docRead, l.paper, l.coverOpen, l.cutterHome, l.wakeKey]

/-- R208: the 27 bytes of SENSOR-READ. -/
def sensorBytes (s : State) : List Byte :=
  be1 (levelSet s.levels) ++ be1 s.energy.thermistor ++ be1 s.energy.supply ++ flag1 s.energy.thermalHold ++
    flag1 s.energy.supplyHold ++ flag1 s.power.headPower ++ flag1 s.energy.ready ++ feedBytes s .scan ++ feedBytes s .print ++
    be1 s.mech.cutter.state.code ++ be1 (flagSet [s.scan.lamp.since.isSome, s.scan.lamp.warm])

/-- R143. -/
def execSensorRead (s : State) : Result := command .sensorRead (fun s => .ok (s, sensorBytes s)) s

end Sys2Proof.Machine
end

