-- ==== Sys2Proof/Machine/ScanEvents.lean ====
section
/-! DEFINITION. The events of the scan path: lines admitted, captured, coded and taken, the lamp, calibration (R83, R88 to R97). -/

namespace Sys2Proof.Machine

/-! ## The scan line buffer (R92) -/

/-- The first slot that holds what `p` says becomes `v`. -/
def replaceFirst (p : LineSlot → Bool) (v : LineSlot) : List LineSlot → List LineSlot
  | [] => []
  | x :: xs => if p x then v :: xs else x :: replaceFirst p v xs

def LineSlot.isFree (v : LineSlot) : Bool := decide (v = .free)
def LineSlot.isReserved (n : Nat) (v : LineSlot) : Bool := decide (v = .reserved n)

/-- The CODED record SCAN-IN has not taken (R93). -/
def LineSlot.untaken : LineSlot → Option (Nat × List Byte)
  | .coded n record false => some (n, record)
  | _ => none

/-- The image in the slot of CAPTURED line `n`. -/
def LineSlot.capturedLine (n : Nat) : LineSlot → Option Line
  | .captured m image => if m = n then some image else none
  | _ => none

def onSlots (f : List LineSlot → List LineSlot) (s : State) : State := s.onScan (fun x => { x with slots := f x.slots })

/-- R92: the conditions on the LINE entry of the next line. -/
def lineEntryDue (s : State) : Bool :=
  (scanJob s).isSome && decide (s.scan.phase = .lines) && decide (s.scan.sheet.offsetDue = 0) &&
    s.scan.slots.any LineSlot.isFree && admits s .scan && s.scan.lamp.warm && isPageLine s s.scan.sheet.nextLine

/-- R88, R123: the LINE entry of a stored line. -/
def scanEntry (s : State) (n : Nat) : Entry :=
  let p := scanPageOf s
  let ireq := scanIreq p.width p.resolution.steps
  ⟨.scanLine n, p.resolution.steps, p.resolution.steps, ireq, targetLevel s.settings .scan ireq, true⟩

/-- R92: the entry is admitted and its slot RESERVED. -/
def admitScanLine (s : State) : State :=
  let n := s.scan.sheet.nextLine
  let s := enqueue .scan (scanEntry s n) s
  (onSlots (replaceFirst LineSlot.isFree (.reserved n)) s).onScan (fun x => { x with sheet := { x.sheet with nextLine := n + 1 } })

/-- R92. -/
def execScanLineEntryAdmit (s : State) : Result := jobEvent (lineEntryDue s) admitScanLine s

/-! ## Capture, coding, storing (R88 to R93) -/

/-- The capture in progress has lasted T_scan (R88). -/
def captureDue (s : State) : Bool :=
  match s.scan.capture with
  | some c => passed c.since (scanTime (scanPageOf s).width) s.now
  | none => false

/-- R90, R91: the binarized line and the background value it leaves. -/
def binarize (s : State) (n : Nat) (raw : List Byte) : Line × Option Nat :=
  let values := correctLine s.scan raw
  let w := (scanPageOf s).width
  match (scanJob s).bind (fun p => p.2.scanMode) with
  | some .photo => (padLine w (binarizePhoto n values), s.scan.background)
  | _ =>
    let bg := nextBackground (s.scan.background.getD 255) values
    (padLine w (binarizeText s.settings.threshold bg values), some bg)

/-- R93: the slot is CAPTURED and holds the binarized line. -/
def endCapture (raw : List Byte) (s : State) : State :=
  match s.scan.capture with
  | none => s
  | some c =>
    let r := binarize s c.line raw
    (onSlots (replaceFirst (LineSlot.isReserved c.line) (.captured c.line r.1)) s).onScan
      (fun x => { x with capture := none, background := r.2 })

/-- R88, R93. -/
def execScanLineCaptured (raw : List Byte) (s : State) : Result := event (captureDue s) (endCapture raw) s

/-- R93: the line the coder takes next: captured, the record before it taken by SCAN-IN. -/
def codable (s : State) : Option (Coder × Line) :=
  match s.scan.coder with
  | none => none
  | some c =>
    if s.scan.slots.any (fun v => v.untaken.isSome) then none
    else (s.scan.slots.findSome? (LineSlot.capturedLine c.line)).map (fun image => (c, image))

/-- R35, R36: the line is coded. -/
def codeCaptured (s : State) : State :=
  match codable s with
  | none => s
  | some (c, image) =>
    let record := codeLine (scanPageOf s).width c.previous image
    (onSlots (replaceFirst (fun v => (v.capturedLine c.line).isSome) (.coded c.line record false)) s).onScan
      (fun x => { x with coder := some ⟨image, c.line + 1⟩ })

/-- R35, R36, R93. -/
def execSpanCodeLine (s : State) : Result := event (codable s).isSome codeCaptured s

/-- R93: the CODED record SCAN-IN takes, when it is ready for a line. -/
def takeable (s : State) : Option (Nat × List Byte) :=
  if s.store.scanIn.held.isSome then none else s.scan.slots.findSome? LineSlot.untaken

/-- The slot of the untaken record becomes `v`. -/
def onUntaken (v : LineSlot) (s : State) : State := onSlots (replaceFirst (fun x => x.untaken.isSome) v) s

/-- R8, R9: the record appended to the scan page; SCAN-IN waits with the rest where no block is FREE. -/
def storeScanned (slot n : Nat) (record : List Byte) (s : State) : State :=
  let r := appendRecord slot record s
  if r.2 = [] then onUntaken .free (commitRecord slot false r.1)
  else
    addWaiter .scanRecord (onUntaken (.coded n record true)
      (r.1.onStore (fun st => { st with scanIn := { st.scanIn with held := some ⟨r.2, false⟩ } })))

/-- R22, R42, R93: the line is stored, or discarded at the page line limit or on a DAMAGED page (log 22). -/
def takeScanned (s : State) : State :=
  match takeable s, s.store.scanIn.slot with
  | some (n, record), some slot =>
    if atLineLimit s slot then onUntaken .free (dropAtLimit slot s)
    else if (pageOf s slot).state ≠ .filling then onUntaken .free (dropPageLine slot s)
    else storeScanned slot n record s
  | some _, none => onUntaken .free s
  | none, _ => s

/-- R93. -/
def execScanInTakeRecord (s : State) : Result := jobEvent (takeable s).isSome takeScanned s

/-! ## The lamp and calibration (R83, R97) -/

/-- R83: the lamp has been on for 100 ms. -/
def lampWarmDue (s : State) : Bool :=
  !s.scan.lamp.warm && (match s.scan.lamp.since with | some t => passed t lampTime s.now | none => false)

/-- R83, R97: the lamp is warm; a calibration begins its white lines. -/
def lampWarmed (s : State) : State :=
  s.onScan (fun x => { x with
    lamp := { x.lamp with warm := true }
    calibration := x.calibration.map (fun c => if c.stage = .warming then { c with stage := .white, since := s.now } else c) })

/-- R83. -/
def execLampWarm (s : State) : Result := jobEvent (lampWarmDue s) lampWarmed s

/-- R97: a calibration line has been captured in 1808 microseconds. -/
def calibrationDue (s : State) : Bool :=
  match s.scan.calibration with
  | some c => decide (c.stage ≠ .warming) && passed c.since (scanTime .w1728) s.now
  | none => false

/-- One more line of the stage (R97). -/
def Calibration.withLine (raw : List Byte) (now : Nat) (c : Calibration) : Calibration :=
  { c with lines := c.lines + 1, sums := (c.sums.zip raw).map (fun p => p.1 + p.2.toNat), since := now }

/-- R97: after 8 dark lines the lamp is switched on and warms; after 8 white lines the tables are installed. -/
def endCalibrationLine (raw : List Byte) (s : State) : State :=
  match s.scan.calibration with
  | none => s
  | some c =>
    let c := c.withLine raw s.now
    if c.lines < 8 then s.onScan (fun x => { x with calibration := some c })
    else if c.stage = .dark then
      lampOn (s.onScan (fun x => { x with calibration := some { c with
        stage := .warming, lines := 0, darkSums := c.sums, sums := List.replicate Config.headDots 0 } }))
    else installCalibration (averages c.darkSums) (averages c.sums) s

/-- R97. -/
def execCalibrationCaptureEnd (raw : List Byte) (s : State) : Result := jobEvent (calibrationDue s) (endCalibrationLine raw) s

end Sys2Proof.Machine
end

