-- ==== Sys2Proof/Machine/MotionEvents.lean ====
section
/-! DEFINITION. The events of the two feed motors: a motion begun, steps, the rest, current states, PWM periods (R114, R116, R123 to R133). -/

namespace Sys2Proof.Machine

/-! ## What a step tells its clients (R127) -/

/-- R82, R87: the scan path's counts rise with a step, and the edges that wait are placed at it. The first step of an eject that is
counted anew counts 1 (log 57). -/
def scanCounts (s : State) : State :=
  placeEdge (s.onScan (fun x => { x with sheet := { x.sheet with
    sinceEdge := x.sheet.sinceEdge.map (fun n => n + 1)
    longCount := (match x.sheet.longCount with
      | some n => some (n + 1)
      | none => if x.eject.isSome then some 1 else none) } }))

/-- R88, R86: the first step of a stored line's entry: its capture begins, or it passes as feed and its slot is freed. -/
def lineStep (n : Nat) (due : Bool) (s : State) : State :=
  if due && isPageLine s n then s.onScan (fun x => { x with capture := some ⟨n, s.now⟩ })
  else onSlots (replaceFirst (LineSlot.isReserved n) .free) s

/-- R14, R46, R116: a physical line has been strobed; the last of its stored line consumes it. -/
def lineStrobed (tag : LineTag) (s : State) : State :=
  if tag.last ∧ (s.store.printOut.inFlight.head?.map ReadLine.line) = some tag.line then consumeLine .print s else s

/-- R114: the head latches the line and its new dots and the phases begin to be fired; a white line fires nothing (log 29). -/
def fireLine (tag : LineTag) (image fresh : Line) (plan : List Phase) (s : State) : State :=
  if plan = [] then lineStrobed tag s else s.onEnergy (fun e => { e with firing := some ⟨tag, image, fresh, plan, .s1, s.now⟩ })

/-- R70, R116, R130: paper is out at a line's first step. -/
def paperOut (s : State) : State :=
  let s := backToConsumed (whitenHistory (feedOnlyQueue .print s))
  match printJob s with
  | some (k, j) => if canMeet j .prPaper then meet k ⟨.prPaper, some .paper, none⟩ s else s
  | none => s

/-- R114, R116, R130: the first step of a physical line's entry. -/
def printStep (tag : LineTag) (image fresh : Line) (plan : List Phase) (due : Bool) (s : State) : State :=
  if !due then whitenHistory s
  else if s.levels.paper then fireLine tag image fresh plan s else paperOut s

/-- R127: the first step of an entry. -/
def firstStep (e : Entry) (s : State) : State :=
  match e.kind with
  | .scanLine n => lineStep n e.due s
  | .printLine tag image fresh plan => printStep tag image fresh plan e.due s
  | .run _ => s

/-- R117: the head begins to rest at the last step of a LINE entry with no further LINE entry queued. -/
def headRests (e : Entry) (s : State) : State :=
  if e.isLine && decide (e.left ≤ 1) && !s.mech.printFeed.queue.any Entry.isLine then
    s.onEnergy (fun x => { x with rest := .since s.now })
  else s

/-- R141: the steps of a PAPER-ADVANCE are counted. -/
def advanceStep (e : Entry) (s : State) : State :=
  if e.isRun .advance then s.onMech (fun x => { x with advanced := x.advanced + 1 }) else s

/-- R124, R126, R127: a step at a level, with what it tells the motor's clients. -/
def takeStep (m : Motor) (level : Nat) (s : State) : State :=
  match (feedOf s m).queue with
  | [] => s
  | e :: _ =>
    let s := onFeed m (Feed.stepped level s.now) s
    let s := match m with | .scan => scanCounts s | .print => headRests e (advanceStep e s)
    if e.left = e.steps then firstStep e s else s

/-! ## Motions (R124, R131) -/

/-- R88, R114 (log 30): a line under the read line, or on the head, holds back the next entry's first step and the rest. -/
def lineUnderWay (s : State) (m : Motor) : Bool :=
  match m with | .scan => s.scan.capture.isSome | .print => s.energy.firing.isSome

/-- R124, R132, R138: a motion may begin. -/
def motionBeginDue (s : State) (m : Motor) : Bool := motionDue s m && !lineUnderWay s m

/-- R124, R131: a motion begins with 10 ms of ENERGIZING from OFF, and with its first step from RUN or HOLD. -/
def beginMotion (m : Motor) (s : State) : State :=
  let c := (feedOf s m).current
  if c = .run ∨ c = .hold then
    takeStep m 0 (onFeed m (fun f => { f with moving := true, current := .run, since := s.now }) s)
  else onFeed m (fun f => { f with moving := true, current := .energizing, since := s.now }) s

/-- R124. -/
def execMotionBegin (m : Motor) (s : State) : Result := jobEvent (motionBeginDue s m) (beginMotion m) s

/-- R131: 10 ms of ENERGIZING have passed. -/
def energizingDue (s : State) (m : Motor) : Bool :=
  decide ((feedOf s m).current = .energizing) && passed (feedOf s m).since energizingTime s.now

/-- R124, R131: the motor is in RUN, and the motion's first step is taken at level 0. -/
def endEnergizing (m : Motor) (s : State) : State := takeStep m 0 (setCurrent m .run s)

/-- R131. -/
def execEnergizingEnd (m : Motor) (s : State) : Result := jobEvent (energizingDue s m) (endEnergizing m) s

/-- R124: the next step's interval has passed. -/
def stepDue (s : State) (m : Motor) : Bool :=
  let f := feedOf s m
  f.moving && decide (f.current = .run) && !f.queue.isEmpty && passed f.lastAt (nextInterval s m) s.now &&
    !(f.atFirstStep && lineUnderWay s m)

/-- R124, R126. -/
def execFeedStep (m : Motor) (s : State) : Result :=
  jobEvent (stepDue s m) (fun s => takeStep m (feedOf s m).nextLevel s) s

/-- R124: the rest interval after the last queued step has passed. -/
def restDue (s : State) (m : Motor) : Bool :=
  let f := feedOf s m
  f.moving && decide (f.current = .run) && f.queue.isEmpty && passed f.lastAt (restInterval s m) s.now && !lineUnderWay s m

/-- R124, R131: the motor is at rest, its level 0, its HOLD-DELAY counted from now. -/
def comeToRest (m : Motor) (s : State) : State :=
  onFeed m (fun f => { f with moving := false, level := 0, since := s.now }) s

/-- R124. -/
def execMotorRest (m : Motor) (s : State) : Result := jobEvent (restDue s m) (comeToRest m) s

/-! ## Current states and generators (R131, R133) -/

/-- R131. -/
def execHoldDelayExpiry (m : Motor) (s : State) : Result := event (holdDelayDue s m) (setCurrent m .hold) s

/-- R131. -/
def execOffDelayExpiry (m : Motor) (s : State) : Result := event (offDelayDue s m) (setCurrent m .off) s

def generatorOf (s : State) (g : Pwm) : Generator :=
  match g with | .scanMotor => s.mech.scanPwm | .printMotor => s.mech.printPwm | .lamp => s.mech.lampPwm

def onGenerator (g : Pwm) (f : Generator → Generator) (s : State) : State :=
  s.onMech (fun x => match g with
    | .scanMotor => { x with scanPwm := f x.scanPwm }
    | .printMotor => { x with printPwm := f x.printPwm }
    | .lamp => { x with lampPwm := f x.lampPwm })

/-- The generators run on the main oscillator, out of reset (R133, R145). -/
def generatorsRun (s : State) : Bool :=
  decide (s.start.phase ≠ .inReset) && decide (s.power.mode ≠ .doze) && decide (s.power.mode ≠ .waking)

/-- R133: a period ends: k advances, and the value given is taken. -/
def endPeriod (g : Pwm) (s : State) : State :=
  onGenerator g (fun x => ⟨givenValue s g, (x.cycle + 1) % 4⟩) s

/-- R133. -/
def execPwmPeriodEnd (g : Pwm) (s : State) : Result := event (generatorsRun s) (endPeriod g) s

end Sys2Proof.Machine
end

