-- ==== Sys2Proof/Machine/PowerCommands.lean ====
section
/-! DEFINITION. The power commands (R153, R159). -/

namespace Sys2Proof.Machine

/-- Whole seconds left of a count that began at `since` (R147, R149); 0xFFFF when none runs (11.1). -/
def secondsLeft (runs : Bool) (since : Option Nat) (limit now : Nat) : Nat :=
  if runs then limit - (now - since.getD now) / 1000000 else 0xFFFF

/-- R153: the seconds that remain in the mode in force; the doze count does not run while this reply is unsent (log 20). -/
def modeSeconds (s : State) : Nat :=
  match s.power.mode with
  | .active => secondsLeft (idleRuns s) s.power.idleFrom s.settings.idleTimeout s.now
  | _ => 0xFFFF

/-- The result data of MODE-SET (11.1). -/
def modeData (s : State) : List Byte := be1 s.power.mode.code ++ be2 (modeSeconds s)

/-- R153: MODE-SET ACTIVE. -/
def modeActive (s : State) : Verdict :=
  let s := enterActive (s.onPower (fun p => { p with idleFrom := none }))
  .ok (s, modeData s)

/-- R153: MODE-SET STANDBY. -/
def modeStandby (s : State) : Verdict :=
  if s.power.mode ≠ .active then .ok (s, modeData s)
  else if holderOf s .scanner ≠ .free ∨ holderOf s .printer ≠ .free then .error .busy
  else .ok (enterStandby s, modeData (enterStandby s))

/-- R153: MODE-SET DOZE. -/
def modeDoze (s : State) : Verdict :=
  if s.power.mode = .active ∨ usedSlots s ≠ [] ∨ s.settings.writing.isSome then .error .busy
  else .ok (s.onLink (fun l => { l with dozeAccepted := true }), be1 Mode.doze.code ++ be2 0xFFFF)

/-- R153, 11.1: ACTIVE 0, STANDBY 1, DOZE 3, KEEP 4. -/
def modeSet (mode : Nat) (s : State) : Verdict :=
  match mode with
  | 0 => modeActive s
  | 1 => modeStandby s
  | 3 => modeDoze s
  | 4 => .ok (s, modeData s)
  | _ => .error .badParam

/-- R153. -/
def execModeSet (mode : Byte) (s : State) : Result := command (.modeSet mode) (modeSet mode.toNat) s

/-- R158: the seconds remaining of the Wake Timer. -/
def alarmLeft (s : State) : Nat := if s.wake.running then s.wake.given - (s.now - s.wake.since) / 1000000 else 0

/-- R159. -/
def alarmSet (n : Nat) (s : State) : Verdict :=
  if 262143 < n then .error .badParam
  else if n = 0 then .ok (s.onWake (fun w => { w with running := false }), be3 0)
  else .ok (s.onWake (fun w => { w with running := true, given := n, since := s.now }), be3 n)

/-- R159. -/
def execAlarmSet (seconds : BitVec 24) (s : State) : Result := command (.alarmSet seconds) (alarmSet seconds.toNat) s

/-- R159: RUNNING 0, STOPPED 1, as R158 lists them. -/
def execAlarmRead (s : State) : Result :=
  command .alarmRead (fun s => .ok (s, be3 (alarmLeft s) ++ be1 (if s.wake.running then 0 else 1))) s

end Sys2Proof.Machine
end

