-- ==== Sys2Proof/Machine/PowerEvents.lean ====
section
/-! DEFINITION. The events of the power modes, the ringing, the Wake Timer, the Silence Supervisor and the battery (R147 to R162, R165). -/

namespace Sys2Proof.Machine

/-! ## Modes (R147 to R152) -/

/-- R147, R148. -/
def execIdleCountExpiry (s : State) : Result := event (idleExpired s) enterStandby s

/-- R149, R150. -/
def execDozeCountExpiry (s : State) : Result := event (dozeExpired s) enterDoze s

/-- R151, R152: a falling edge on the receive line in DOZE, or gathered in WAKING. -/
def execLinkReceiveEdge (s : State) : Result :=
  event (decide (s.power.mode = .doze) || decide (s.power.mode = .waking)) (wakeCause { WakeCauses.none with link := true }) s

/-- R151, R152: STANDBY is reached: WAKE is raised with the gathered set, the receiver begins in HUNT, and the
DRAM has left self-refresh. -/
def reachStandby (s : State) : State :=
  let s := raise 11 (.wake s.power.causes 1) s
  let s := (s.onPower (fun p => { p with mode := .standby, dozeFrom := none, causes := .none })).onLink
    (fun l => { l with receiver := .hunt })
  s.onStart (fun t => { t with selfRefresh := false })

/-- R151. -/
def execWakingEnd (s : State) : Result :=
  event (decide (s.power.mode = .waking) && passed s.power.wakingAt wakingTime s.now) reachStandby s

/-! ## The Ring Qualifier and the Wake Timer (R154 to R158) -/

/-- The blocks of the slow clock run out of reset (R163). -/
def slowBlocksRun (s : State) : Bool := decide (s.start.phase ≠ .inReset)

/-- R154. -/
def execRingPulse (s : State) : Result := event (slowBlocksRun s) (fun s => takePulse (ringOverdue s)) s

/-- R154, R155. -/
def execRingBurstEnd (s : State) : Result := event (slowBlocksRun s && burstEndDue s) judgeBurst s

/-- R154, R156. -/
def execRingGapExpiry (s : State) : Result := event (slowBlocksRun s && gapDue s) (ringStops .gap) s

/-- R158: the seconds given have passed. -/
def alarmDue (s : State) : Bool := s.wake.running && passed s.wake.since (seconds s.wake.given) s.now

/-- R158: ALARM and a wake cause, or held until RELEASE. -/
def alarmExpires (s : State) : State :=
  let s := s.onWake (fun w => { w with running := false, held := decide (s.start.phase ≠ .ready) })
  if s.start.phase = .ready then wakeCause { WakeCauses.none with alarm := true } (raise 10 (.alarm s.wake.given) s) else s

/-- R158. -/
def execAlarmExpiry (s : State) : Result := event (alarmDue s) alarmExpires s

/-! ## The Silence Supervisor (R160 to R162) -/

/-- R161. -/
def execSilenceFirstExpiry (s : State) : Result := jobEvent (silenceExpired s && !s.silence.firstStage) firstExpiry s

/-- R162. -/
def execSilenceSecondExpiry (s : State) : Result := jobEvent (silenceExpired s && s.silence.firstStage) secondExpiry s

/-- R162: HOSTRST has been driven for 100 ms. -/
def pulseDue (s : State) : Bool :=
  match s.silence.pulse with | some t => passed t hostResetTime s.now | none => false

/-- R162. -/
def execHostrstPulseEnd (s : State) : Result :=
  event (pulseDue s)
    (fun s => (s.onSilence (fun x => { x with pulse := none })).onLink (fun l => { l with hostReset := false })) s

/-! ## The battery (R165) -/

/-- R165: 60 s since the last reading, in ACTIVE or STANDBY; the time runs on through DOZE and WAKING (log 70), and
during start-up nothing falls due (log 85). -/
def batteryDue (s : State) : Bool :=
  decide (s.start.phase = .ready) && (decide (s.power.mode = .active) || decide (s.power.mode = .standby)) &&
    passed s.start.lastBattery batteryPeriod s.now

/-- R165: LOW after GOOD raises SUPPLY. -/
def readBattery (low : Bool) (s : State) : State :=
  let raised := low && !s.start.batteryLow
  let s := s.onStart (fun t => { t with batteryLow := low, lastBattery := s.now })
  if raised then raise 3 (.supply false true none) s else s

/-- R165. -/
def execBatteryCheck (low : Bool) (s : State) : Result := event (batteryDue s) (readBattery low) s

end Sys2Proof.Machine
end

