-- ==== Sys2Proof/Machine/PrintEvents.lean ====
section
/-! DEFINITION. The events of the print energy unit: offers, subpulses, the head timer, settling, timed samples (R103 to R105, R114 to R116). -/

namespace Sys2Proof.Machine

/-- R105. -/
def execPrintLineOffer (thermistor supply : Byte) (faults : ParityFaults) (s : State) : Result :=
  jobEvent (offerDue s) (fun s => offerLine thermistor supply (s.onFaults (fun _ => faults))) s

/-! ## Firing (R114 to R116) -/

/-- How long the subpulse or gap in progress lasts by the plan (R114). -/
def Firing.lasts (f : Firing) : Nat :=
  match f.phases, f.stage with
  | p :: _, .s1 => p.s1
  | p :: _, .s2 => p.s2
  | _, _ => phaseGap

/-- The dots the head energizes now (R114): in S1 the black dots of the phase's head blocks, in S2 their new dots, in a gap none. -/
def Firing.energized (f : Firing) : Line :=
  let of := fun (l : Line) (p : Phase) => l.zipIdx.map (fun d => d.1 && p.blocks.contains (d.2 / 216))
  match f.phases, f.stage with
  | p :: _, .s1 => of f.image p
  | p :: _, .s2 => of f.fresh p
  | _, _ => List.replicate Config.headDots false

/-- What follows the subpulse or gap in progress; none when the line's last gap has ended (R114). -/
def Firing.after (now : Nat) (f : Firing) : Option Firing :=
  match f.phases, f.stage with
  | [], _ => none
  | p :: _, .s1 => some { f with stage := if p.fireS2 then .s2 else .gap, since := now }
  | _ :: _, .s2 => some { f with stage := .gap, since := now }
  | _ :: rest, .gap => if rest = [] then none else some { f with phases := rest, stage := .s1, since := now }

/-- The firing goes on, or the line is strobed (R114, R116). -/
def endSubpulse (s : State) : State :=
  match s.energy.firing with
  | none => s
  | some f =>
    match f.after s.now with
    | some f' => s.onEnergy (fun e => { e with firing := some f' })
    | none => lineStrobed f.tag (s.onEnergy (fun e => { e with firing := none }))

def subpulseDue (s : State) : Bool :=
  match s.energy.firing with | some f => passed f.since f.lasts s.now | none => false

/-- R114. -/
def execStrobeSubpulseEnd (s : State) : Result := jobEvent (subpulseDue s) endSubpulse s

/-- R115: a subpulse has lasted 4000 microseconds. -/
def headTimerDue (s : State) : Bool :=
  match s.energy.firing with
  | some f => decide (f.stage ≠ .gap) && passed f.since headTimer s.now
  | none => false

/-- R115: the subpulse is ended, and the firing goes on as though it had ended normally. -/
def execHeadTimerLimit (s : State) : Result := jobEvent (headTimerDue s) endSubpulse s

/-! ## The head supply and the Converter (R103, R104) -/

/-- R104: 50 ms of settling have passed. -/
def headReadyDue (s : State) : Bool :=
  !s.energy.ready && (match s.power.headSince with | some t => passed t headSettling s.now | none => false)

/-- R104. -/
def execHeadReady (s : State) : Result := event (headReadyDue s) (fun s => s.onEnergy (fun e => { e with ready := true })) s

/-- R103: 10 ms since the last timed pair, in ACTIVE. -/
def timedSampleDue (s : State) : Bool :=
  decide (s.power.mode = .active) && (match s.energy.lastTimed with | some t => passed t samplePeriod s.now | none => false)

/-- R103. -/
def execConverterTimedSample (thermistor supply : Byte) (s : State) : Result :=
  jobEvent (timedSampleDue s)
    (fun s => (takeSamples thermistor supply s).onEnergy (fun e => { e with lastTimed := some s.now })) s

end Sys2Proof.Machine
end

