-- ==== Sys2Proof/Machine/ResetEvents.lean ====
section
/-! DEFINITION. The resets and the phases of the start-up sequence (R164 to R177), and the end of a settings store (R187 to R189). -/

namespace Sys2Proof.Machine

/-! ## The resets (R164; log 25) -/

/-- R164: the main supply rises from below the power-off level. -/
def execPowerOnReset (s : State) : Result :=
  event true (fun s => (resetBlocks .powerOn s).onStart (fun t => { t with batteryOnly := false })) s

/-- R164, R165: the main supply falls below the brown-out threshold: a SUPPLY-DROP, but for a POWER-ON reset that has not ended. -/
def execSupplyDropReset (s : State) : Result :=
  event (!s.start.batteryOnly)
    (fun s =>
      let kind := if s.start.phase = .inReset ∧ s.start.kind = .powerOn then ResetKind.powerOn else .supplyDrop
      (resetBlocks kind s).onStart (fun t => { t with batteryOnly := true, selfRefresh := true })) s

/-- R164: below the power-off level during a SUPPLY-DROP: the reset is a POWER-ON. -/
def execSupplyBelowPowerOff (s : State) : Result :=
  event s.start.batteryOnly (fun s => resetBlocks .powerOn s) s

/-- A POWER-ON or SUPPLY-DROP reset is in force: the RESET input changes nothing (log 25). -/
def supplyResetHolds (s : State) : Bool :=
  decide (s.start.phase = .inReset) && (decide (s.start.kind = .powerOn) || decide (s.start.kind = .supplyDrop))

/-- R164: the RESET input is asserted. -/
def execPinReset (s : State) : Result := event (!supplyResetHolds s) (resetBlocks .pin) s

/-! ## JUDGE (R166, R167, R190) -/

/-- The flag of a reset kind set (R166). -/
def CauseFlags.with (c : CauseFlags) (k : ResetKind) : CauseFlags :=
  match k with
  | .powerOn => { c with powerOn := true }
  | .supplyDrop => { c with supplyDrop := true }
  | .pin => { c with pin := true }
  | .restart => { c with restart := true }

/-- R166, log 26: the marker pattern is valid: it was, and the SRAM held through a battery-only period. -/
def markerValid (t : StartUp) (sramHeld : Bool) : Bool :=
  t.marker && (sramHeld || (decide (t.kind ≠ .powerOn) && decide (t.kind ≠ .supplyDrop)))

/-- R166: the domain is lost. -/
def domainLost (t : StartUp) (batteryLow sramHeld : Bool) : Bool :=
  !markerValid t sramHeld || (decide (t.kind = .powerOn) && batteryLow)

/-- R166, R167: the retention domain judged, the cause flags set, the battery read, the DRAM taken out of self-refresh. -/
def judge (batteryLow sramHeld : Bool) (s : State) : State :=
  let lost := domainLost s.start batteryLow sramHeld
  let kept := if lost then ⟨false, false, false, false⟩ else s.start.causes
  let s := s.onSilence (fun x => { x with hostResets := if lost then 0 else x.hostResets })
  s.onStart (fun t => { t with
    phase := .settings, batteryOnly := false, selfRefresh := false, marker := !lost, domainLost := lost, causes := kept.with t.kind
    batteryLow := batteryLow, lastBattery := s.now })

/-- R164, R190: the reset ends: the straps are read and the sequence begins at JUDGE. -/
def execResetEnd (batteryLow sramHeld firstStrap secondStrap : Bool) (s : State) : Result :=
  event (decide (s.start.phase = .inReset))
    (fun s => judge batteryLow sramHeld (s.onLink (fun l => { l with rate := rateCode firstStrap secondStrap }))) s

/-! ## SETTINGS and MEMORY (R168, R169) -/

/-- R168, R186: the working settings loaded. -/
def loadSettings (answers : Bool) (s : State) : State :=
  let r := loadImage s.settings.eeprom answers
  let s := s.onSettings (fun g => { g with
    values := r.1, protect := r.2.1, same := decide (r.2.2.1 = .loaded), writing := none })
  s.onStart (fun t => { t with phase := .memory, status := r.2.2.1, clamped := r.2.2.2 })

/-- R168. -/
def execSettingsPhaseEnd (answers : Bool) (s : State) : Result :=
  event (decide (s.start.phase = .settings)) (loadSettings answers) s

/-- R169: FRESH where the domain is lost, REBUILT where it is intact, done whole at the phase's end (log 86). -/
def execMemoryPhaseEnd (block0 block512 : TagRead) (failing : List Nat) (faults : ParityFaults) (s : State) : Result :=
  event (decide (s.start.phase = .memory))
    (fun s =>
      (if s.start.domainLost then buildFresh (sizeFound block0 block512) failing s else buildRebuilt faults s).onStart
        (fun t => { t with phase := .levels })) s

/-! ## MECHANISM (R175) -/

/-- R175: the cutter homing by the levels taken. -/
def beginHoming (l : Levels) (s : State) : State :=
  let s := s.onMech (fun x => { x with cutter := .off l.cutterHome })
  if l.coverOpen then s.onStart (fun t => { t with homing := some .notTried })
  else if l.cutterHome then s.onStart (fun t => { t with homing := some .home })
  else beginCycle (s.onStart (fun t => { t with homing := none }))

/-- R175: the start-up calibration, or JAM-AT-START. -/
def beginStartCalibration (l : Levels) (s : State) : State :=
  if l.docRead then s.onStart (fun t => { t with jamAtStart := true, calOutcome := some .uncalibrated })
  else beginCalibration true (s.onStart (fun t => { t with jamAtStart := false, calOutcome := none }))

/-- R82, R134, R175: the six levels are taken, and the homing and the calibration begin. -/
def execMechanismLevelsTaken (levels : Levels) (s : State) : Result :=
  event (decide (s.start.phase = .levels))
    (fun s =>
      let s := (s.onLevels (fun _ => levels)).onStart (fun t => { t with phase := .mechanism, levels := levels })
      beginStartCalibration levels (beginHoming levels s)) s

/-! ## RELEASE (R177, R178) -/

/-- R178: the report made at RELEASE. -/
def bootReportOf (s : State) : BootReport :=
  let t := s.start
  { kind := t.kind, jobsLost := t.jobsLost, status := t.status, clamped := t.clamped, sizeMb := s.store.sizeMb
    blocks := s.store.blocks.length, free := countBlocks s.store .free, used := countBlocks s.store .used
    suspect := countBlocks s.store .suspect, bad := countBlocks s.store .bad, counts := t.counts, levels := t.levels
    jamAtStart := t.jamAtStart, cutter := t.homing.getD .notTried, calibration := t.calOutcome.getD .uncalibrated
    batteryLow := t.batteryLow, rate := s.link.rate }

/-- R177, R207: the BOOT detail. -/
def bootDetail (s : State) : List Byte :=
  let r := s.start.report
  be1 s.start.causes.code ++ be1 (if r.counts.rebuilt then 1 else 0) ++ be1 r.status.code ++ flag1 r.jamAtStart ++
    be1 r.cutter.code ++ be1 r.calibration.code ++ flag1 r.batteryLow

/-- R158: an expiry held from the sequence is raised. -/
def raiseHeldAlarm (s : State) : State :=
  if s.wake.held then raise 10 (.alarm s.wake.given) (s.onWake (fun w => { w with held := false })) else s

/-- R177: RELEASE. ATN, HOLD and the doze count follow from READY (`settle`). -/
def release (s : State) : State :=
  let s := s.onStart (fun t => { t with phase := .ready, report := bootReportOf s })
  let s := s.onLink (fun l => { l with hostReset := false, receiver := .hunt })
  let s := s.onStore (fun st => { st with low := decide (freeBlocks s < s.settings.lowWater) })
  let s := raise 0 (.boot (bootDetail s)) s
  let s := if s.start.batteryLow then raise 3 (.supply false true none) s else s
  raiseHeldAlarm s

/-- R175, R177: the phase ends when the homing and the calibration have both ended. -/
def execMechanismPhaseEnd (s : State) : Result :=
  event (decide (s.start.phase = .mechanism) && s.start.homing.isSome && s.start.calOutcome.isSome) release s

/-! ## The end of a settings store (R187 to R189) -/

/-- The operation DONE names (R187 to R189). -/
def StoreOp.done : StoreOp → DoneOp
  | .store => .store | .protect => .protect | .default => .default

/-- R187: the store operation is IDLE again, the image SAME or CHANGED, DONE raised (log 27 for a failed write). -/
def endStore (result : StoreResult) (w : Writing) (s : State) : State :=
  match result with
  | .verified =>
    raiseDone w.operation.done .stored 0 (s.onSettings (fun g => { g with writing := none, same := true, eeprom := .bytes w.image }))
  | .failed left =>
    raiseDone w.operation.done .failed 0 (s.onSettings (fun g => { g with writing := none, same := false, eeprom := .bytes left }))

/-- R187 to R189. -/
def execSettingsStoreEnd (result : StoreResult) (s : State) : Result :=
  event s.settings.writing.isSome
    (fun s => match s.settings.writing with | some w => endStore result w s | none => s) s

end Sys2Proof.Machine
end

