-- ==== Sys2Proof/Machine/SensorEvents.lean ====
section
/-! DEFINITION. The changes of the six debounced levels, and the cutter's timeout (R82, R97, R134 to R140, R151). -/

namespace Sys2Proof.Machine

/-- The levels are those taken in the MECHANISM phase, or later (R82, R134). -/
def levelsLive (s : State) : Bool := decide (s.start.phase = .mechanism) || decide (s.start.phase = .ready)

/-- R82, R134, R151: DOC-ENTRY, PAPER: SENSOR and a wake cause. -/
def sensed (c : WakeCauses) (s : State) : State := wakeCause c (raiseSensor s)

/-! ## The document sensors (R82) -/

/-- R82, R134. -/
def execDocEntryChange (sheet : Bool) (s : State) : Result :=
  jobEvent (levelsLive s && decide (s.levels.docEntry ≠ sheet))
    (fun s => sensed { WakeCauses.none with docEntry := true } (s.onLevels (fun l => { l with docEntry := sheet }))) s

/-- R97: a sheet at DOC-READ abandons the calibration. -/
def abandonCalibration (s : State) : State := if s.scan.calibration.isSome then endCalibration .sheet .sheet s else s

/-- R82, R85: the leading edge of a pick, at the step just taken or at the next one; none once the pick has failed (log 103, DESIGN
CHOICE). -/
def sheetArrives (s : State) : State :=
  if s.scan.phase = .pick ∧ !pickTaken s then
    (if s.mech.scanFeed.moving && decide (s.mech.scanFeed.current = .run) then leadingEdge s
     else s.onScan (fun x => { x with sheet := { x.sheet with edgePending := true } }))
  else s

/-- R82, R86: the trailing edge, at the step just taken or at the next one. -/
def sheetLeaves (s : State) : State :=
  if s.scan.phase = .lines ∧ s.scan.sheet.trailing = none ∧ s.mech.scanFeed.moving ∧ s.mech.scanFeed.current = .run then
    trailingEdge s
  else if (s.scan.phase = .lines ∧ s.scan.sheet.trailing = none) ∨ s.scan.sheet.edgePending then
    s.onScan (fun x => { x with sheet := { x.sheet with trailingPending := true } })
  else s

/-- R82. -/
def execDocReadChange (sheet : Bool) (s : State) : Result :=
  jobEvent (levelsLive s && decide (s.levels.docRead ≠ sheet))
    (fun s =>
      let s := s.onLevels (fun l => { l with docRead := sheet })
      if sheet then sheetArrives (abandonCalibration s) else sheetLeaves s) s

/-! ## PAPER, COVER, WAKE-KEY (R134, R135, R137) -/

/-- R134. -/
def execPaperChange (present : Bool) (s : State) : Result :=
  jobEvent (levelsLive s && decide (s.levels.paper ≠ present))
    (fun s => sensed { WakeCauses.none with paper := true } (s.onLevels (fun l => { l with paper := present }))) s

/-- R134, R135: the cover opens: an emergency stop with EMERGENCY, or SENSOR. -/
def coverOpens (s : State) : State :=
  if emergencyDue s then emergencyStop .cover (raise 1 (.emergency (emergencyDetail s)) s) else raiseSensor s

/-- R134, R137: the cover closes: SENSOR, and HEADPWR in ACTIVE. -/
def coverCloses (s : State) : State := raiseSensor (if s.power.mode = .active then headOn s else s)

/-- R134, R151. -/
def execCoverChange (opened : Bool) (s : State) : Result :=
  jobEvent (levelsLive s && decide (s.levels.coverOpen ≠ opened))
    (fun s =>
      let s := s.onLevels (fun l => { l with coverOpen := opened })
      wakeCause { WakeCauses.none with cover := true } (if opened then coverOpens s else coverCloses s)) s

/-- R134, R151: only the change to PRESSED is a wake cause. -/
def execWakeKeyChange (pressed : Bool) (s : State) : Result :=
  event (levelsLive s && decide (s.levels.wakeKey ≠ pressed))
    (fun s =>
      let s := s.onLevels (fun l => { l with wakeKey := pressed })
      if pressed then wakeCause { WakeCauses.none with wakeKey := true } s else s) s

/-! ## The cutter (R138 to R140, R142, R175) -/

/-- The job whose page is in its cut cycle (R140). -/
def cuttingJob (s : State) : Option (Nat × Job) :=
  if s.jobs.print.phase = .cutting ∧ s.jobs.print.cut = .cycle then printJob s else none

/-- R138: what waits for the cycle is told of its success. -/
def cycleSucceeds (s : State) : State :=
  if s.start.phase = .mechanism then s.onStart (fun t => { t with homing := some .homed })
  else
    let s := if opRuns s .printer .cut then raiseDone .cut .cut 0 (endOp .printer .cut s) else s
    let s := endOp .printer .cutCycle s
    match cuttingJob s with | some (k, _) => cutSucceeded k s | none => s

/-- R138, log 48: the cutter's state after a change of CUTTER-HOME. -/
def Cutter.homed (home : Bool) (c : Cutter) : Cutter :=
  match c.state with
  | .leaving => if home then c else { c with state := .returning }
  | .returning => if home then { c with state := .idle } else c
  | .idle | .away => { c with state := if home then .idle else .away }

/-- R138. -/
def homeChanged (home : Bool) (s : State) : State :=
  let done := decide (s.mech.cutter.state = .returning) && home
  let s := (s.onLevels (fun l => { l with cutterHome := home })).onMech (fun x => { x with cutter := x.cutter.homed home })
  if done then cycleSucceeds s else s

/-- R134, R138. -/
def execCutterHomeChange (home : Bool) (s : State) : Result :=
  jobEvent (levelsLive s && decide (s.levels.cutterHome ≠ home)) (homeChanged home) s

/-- R138: the cycle has not succeeded within 1000 ms. -/
def timeoutDue (s : State) : Bool :=
  levelsLive s && s.mech.cutter.drives && passed s.mech.cutter.since cutterTime s.now

/-- R139, R140: a jam that makes no emergency stop; a job HELD in its own cut cycle meets no code (log 69). -/
def quietJam (s : State) : State :=
  let s := driveOff s
  let s := if opRuns s .printer .cut then raiseDone .cut .jam 0 (endOp .printer .cut s) else s
  let s := endOp .printer .cutCycle s
  match cuttingJob s with
  | some (k, j) =>
    let s := setPrint (fun p => { p with cut := .resting }) s
    if canMeet j .prCut then meet k ⟨.prCut, some .cutter, none⟩ s else s
  | none => s

/-- R138, R139: the cycle times out. -/
def cycleTimesOut (s : State) : State :=
  if s.start.phase = .mechanism then driveOff (s.onStart (fun t => { t with homing := some .fault }))
  else
    let s := raise 2 (.jam false true false false 0 1) s
    if emergencyDue s then emergencyStop .cutter s else quietJam s

/-- R138, R139. -/
def execCutterTimeout (s : State) : Result := jobEvent (timeoutDue s) cycleTimesOut s

end Sys2Proof.Machine
end

