-- ==== Sys2Proof/Machine/SettingsCommands.lean ====
section
/-! DEFINITION. The settings commands (R182 to R185, R187 to R189). -/

namespace Sys2Proof.Machine

/-- R182, 11.1: the 11 bytes of SETTING-GET; SAME is 0 and CHANGED 1. -/
def settingBytes (g : Settings) (place : Nat) : List Byte :=
  let it := itemAt place
  be1 it.id ++ be2 (g.at place) ++ be2 it.lo ++ be2 it.hi ++ be2 it.dflt ++ flag1 g.protect ++ flag1 (!g.same)

/-- R182. -/
def execSettingGet (id : Byte) (s : State) : Result :=
  command (.settingGet id) (fun s =>
    match itemPlace id.toNat with
    | some place => .ok (s, settingBytes s.settings place)
    | none => .error .badParam) s

/-- R184: a speed table entry may not change: its motor is not OFF or its queue holds an entry. -/
def rampBusy (s : State) (place : Nat) : Bool :=
  match rampMotor place with
  | some m => (feedOf s m).energized || !(feedOf s m).queue.isEmpty
  | none => false

/-- R183: the value taken becomes the working value; the image state CHANGED if it differs. -/
def Settings.put (place v : Nat) (g : Settings) : Settings :=
  { g with values := g.values.set place v, same := g.same && decide (g.at place = v) }

/-- R183: the checks in order, the clamped value, its effect (R185). -/
def settingSet (id v : Nat) (s : State) : Verdict :=
  match itemPlace id with
  | none => .error .badParam
  | some place =>
    if s.settings.writing.isSome then .error .busy
    else if s.settings.protect then .error .locked
    else if rampBusy s place then .error .busy
    else .ok (settingsEffect s.settings.lowWater (s.onSettings (Settings.put place (clampSet s.settings place v))),
      be2 (clampSet s.settings place v))

/-- R183. -/
def execSettingSet (id : Byte) (value : BitVec 16) (s : State) : Result :=
  command (.settingSet id value) (settingSet id.toNat value.toNat) s

/-- R187. -/
def settingsStore (s : State) : Verdict :=
  if s.settings.writing.isSome then .error .busy
  else if s.settings.protect then .error .locked
  else .ok (beginStore .store s, [])

/-- R187. -/
def execSettingsStore (s : State) : Result := command .settingsStore settingsStore s

/-- R188. -/
def settingsProtect (s : State) : Verdict :=
  if s.settings.writing.isSome then .error .busy
  else .ok (beginStore .protect (s.onSettings (fun g => { g with protect := true })), [])

/-- R188. -/
def execSettingsProtect (s : State) : Result := command .settingsProtect settingsProtect s

/-- R189: both motors OFF and both queues empty. -/
def motorsIdle (s : State) : Bool :=
  !s.mech.scanFeed.energized && !s.mech.printFeed.energized && s.mech.scanFeed.queue.isEmpty && s.mech.printFeed.queue.isEmpty

/-- R189: every item at its default. -/
def Settings.restored (g : Settings) : Settings :=
  { g with values := defaultValues, same := g.same && decide (g.values = defaultValues) }

/-- R189: KEEP 0, ERASE 1. -/
def settingsDefault (option : Nat) (s : State) : Verdict :=
  if 1 < option then .error .badParam
  else if s.settings.writing.isSome then .error .busy
  else if !motorsIdle s then .error .busy
  else if option = 0 ∧ s.settings.protect then .error .locked
  else
    let low := s.settings.lowWater
    let s := s.onSettings Settings.restored
    if option = 0 then .ok (settingsEffect low s, [])
    else .ok (settingsEffect low (beginStore .default (s.onSettings (fun g => { g with protect := false }))), [])

/-- R189. -/
def execSettingsDefault (option : Byte) (s : State) : Result :=
  command (.settingsDefault option) (settingsDefault option.toNat) s

end Sys2Proof.Machine
end

