-- ==== Sys2Proof/Machine/StartUpCommands.lean ====
section
/-! DEFINITION. The start-up commands (R178 to R180). -/

namespace Sys2Proof.Machine

/-- R208: the store group of the boot report. -/
def countBytes (c : RebuildCounts) : List Byte :=
  be1 (if c.rebuilt then 1 else 0) ++ be1 c.docsKept ++ be1 c.docsInterrupted ++ be2 c.pagesKept ++ be2 c.pagesTruncated ++
    be2 c.pagesDamaged ++ be2 c.pagesRemoved ++ be2 c.orphansFreed

/-- R178, R208: the 36 bytes of BOOT-REPORT; the cause flags and the host reset count as they stand. -/
def bootReportBytes (s : State) : List Byte :=
  let r := s.start.report
  be1 s.start.causes.code ++ be1 s.silence.hostResets ++ be1 r.kind.code ++ be1 r.jobsLost ++ be1 r.status.code ++ be1 r.clamped ++
    be1 r.sizeMb ++ be2 r.blocks ++ be2 r.free ++ be2 r.used ++ be2 r.suspect ++ be2 r.bad ++ countBytes r.counts ++
    be1 (flagSet [r.levels.docEntry, r.levels.docRead, r.levels.paper, r.levels.coverOpen]) ++ flag1 r.jamAtStart ++
    be1 r.cutter.code ++ be1 r.calibration.code ++ flag1 r.batteryLow ++ be1 r.rate

/-- R178. -/
def execBootReport (s : State) : Result := command .bootReport (fun s => .ok (s, bootReportBytes s)) s

/-- R179. -/
def clearCauses (s : State) : State :=
  (s.onStart (fun t => { t with causes := ⟨false, false, false, false⟩ })).onSilence (fun x => { x with hostResets := 0 })

/-- R179. -/
def execClearCauses (s : State) : Result := command .clearCauses (fun s => .ok (clearCauses s, [])) s

/-- R180: refused while a store writes the image; the reset begins when the reply has been sent. -/
def restart (s : State) : Verdict :=
  if s.settings.writing.isSome then .error .busy
  else .ok (s.onLink (fun l => { l with restartAccepted := true }), [])

/-- R180. -/
def execRestart (s : State) : Result := command .restart restart s

end Sys2Proof.Machine
end

