-- ==== Sys2Proof/Machine/Dispatch.lean ====
section
/-! DEFINITION. What each step does to everything but the queue: one arm per constructor. -/

namespace Sys2Proof.Machine

/-- R1 to R209: the meaning of each step. -/
def exec (i : Instr) (s : State) : Host.Outcome State Fault Refusal :=
  match i with
  | .ping b0 b1 b2 b3 => Sys2Proof.Machine.execPing b0 b1 b2 b3 s
  | .getEvents includeMasked => Sys2Proof.Machine.execGetEvents includeMasked s
  | .eventMask masks => Sys2Proof.Machine.execEventMask masks s
  | .docCreate origin resolution width => Sys2Proof.Machine.execDocCreate origin resolution width s
  | .docClose document => Sys2Proof.Machine.execDocClose document s
  | .docDelete document => Sys2Proof.Machine.execDocDelete document s
  | .docInfo document => Sys2Proof.Machine.execDocInfo document s
  | .docList => Sys2Proof.Machine.execDocList s
  | .pageInfo document index => Sys2Proof.Machine.execPageInfo document index s
  | .pageDrop document index => Sys2Proof.Machine.execPageDrop document index s
  | .storeStatus => Sys2Proof.Machine.execStoreStatus s
  | .jobStart kind document priority options scanMode firstPage lastPage copies => Sys2Proof.Machine.execJobStart kind document priority options scanMode firstPage lastPage copies s
  | .jobAnswer job choice => Sys2Proof.Machine.execJobAnswer job choice s
  | .jobHold job => Sys2Proof.Machine.execJobHold job s
  | .jobResume job => Sys2Proof.Machine.execJobResume job s
  | .jobAbort job => Sys2Proof.Machine.execJobAbort job s
  | .jobStatus job => Sys2Proof.Machine.execJobStatus job s
  | .sendCredit job count => Sys2Proof.Machine.execSendCredit job count s
  | .scanCalibrate => Sys2Proof.Machine.execScanCalibrate s
  | .docEject => Sys2Proof.Machine.execDocEject s
  | .paperAdvance steps => Sys2Proof.Machine.execPaperAdvance steps s
  | .cut => Sys2Proof.Machine.execCut s
  | .sensorRead => Sys2Proof.Machine.execSensorRead s
  | .modeSet mode => Sys2Proof.Machine.execModeSet mode s
  | .alarmSet seconds => Sys2Proof.Machine.execAlarmSet seconds s
  | .alarmRead => Sys2Proof.Machine.execAlarmRead s
  | .settingGet id => Sys2Proof.Machine.execSettingGet id s
  | .settingSet id value => Sys2Proof.Machine.execSettingSet id value s
  | .settingsStore => Sys2Proof.Machine.execSettingsStore s
  | .settingsDefault option => Sys2Proof.Machine.execSettingsDefault option s
  | .settingsProtect => Sys2Proof.Machine.execSettingsProtect s
  | .bootReport => Sys2Proof.Machine.execBootReport s
  | .clearCauses => Sys2Proof.Machine.execClearCauses s
  | .restart => Sys2Proof.Machine.execRestart s
  | .unknownCommand payload => Sys2Proof.Machine.execUnknownCommand payload s
  | .frameReceived => Sys2Proof.Machine.execFrameReceived s
  | .frameGapTimeout => Sys2Proof.Machine.execFrameGapTimeout s
  | .dataInRouting => Sys2Proof.Machine.execDataInRouting s
  | .receivedLineRecord => Sys2Proof.Machine.execReceivedLineRecord s
  | .receivedPageBegin => Sys2Proof.Machine.execReceivedPageBegin s
  | .receivedPageEnd => Sys2Proof.Machine.execReceivedPageEnd s
  | .undelimitableItem => Sys2Proof.Machine.execUndelimitableItem s
  | .replySent => Sys2Proof.Machine.execReplySent s
  | .dataOutSent faults => Sys2Proof.Machine.execDataOutSent faults s
  | .scanLineEntryAdmit => Sys2Proof.Machine.execScanLineEntryAdmit s
  | .scanLineCaptured raw => Sys2Proof.Machine.execScanLineCaptured raw s
  | .spanCodeLine => Sys2Proof.Machine.execSpanCodeLine s
  | .scanInTakeRecord => Sys2Proof.Machine.execScanInTakeRecord s
  | .lampWarm => Sys2Proof.Machine.execLampWarm s
  | .calibrationCaptureEnd raw => Sys2Proof.Machine.execCalibrationCaptureEnd raw s
  | .motionBegin motor => Sys2Proof.Machine.execMotionBegin motor s
  | .feedStep motor => Sys2Proof.Machine.execFeedStep motor s
  | .motorRest motor => Sys2Proof.Machine.execMotorRest motor s
  | .energizingEnd motor => Sys2Proof.Machine.execEnergizingEnd motor s
  | .holdDelayExpiry motor => Sys2Proof.Machine.execHoldDelayExpiry motor s
  | .offDelayExpiry motor => Sys2Proof.Machine.execOffDelayExpiry motor s
  | .pwmPeriodEnd generator => Sys2Proof.Machine.execPwmPeriodEnd generator s
  | .docEntryChange sheet => Sys2Proof.Machine.execDocEntryChange sheet s
  | .docReadChange sheet => Sys2Proof.Machine.execDocReadChange sheet s
  | .paperChange present => Sys2Proof.Machine.execPaperChange present s
  | .coverChange opened => Sys2Proof.Machine.execCoverChange opened s
  | .cutterHomeChange home => Sys2Proof.Machine.execCutterHomeChange home s
  | .wakeKeyChange pressed => Sys2Proof.Machine.execWakeKeyChange pressed s
  | .cutterTimeout => Sys2Proof.Machine.execCutterTimeout s
  | .printLineOffer thermistor supply faults => Sys2Proof.Machine.execPrintLineOffer thermistor supply faults s
  | .strobeSubpulseEnd => Sys2Proof.Machine.execStrobeSubpulseEnd s
  | .headTimerLimit => Sys2Proof.Machine.execHeadTimerLimit s
  | .headReady => Sys2Proof.Machine.execHeadReady s
  | .converterTimedSample thermistor supply => Sys2Proof.Machine.execConverterTimedSample thermistor supply s
  | .idleCountExpiry => Sys2Proof.Machine.execIdleCountExpiry s
  | .dozeCountExpiry => Sys2Proof.Machine.execDozeCountExpiry s
  | .linkReceiveEdge => Sys2Proof.Machine.execLinkReceiveEdge s
  | .wakingEnd => Sys2Proof.Machine.execWakingEnd s
  | .ringPulse => Sys2Proof.Machine.execRingPulse s
  | .ringBurstEnd => Sys2Proof.Machine.execRingBurstEnd s
  | .ringGapExpiry => Sys2Proof.Machine.execRingGapExpiry s
  | .alarmExpiry => Sys2Proof.Machine.execAlarmExpiry s
  | .silenceFirstExpiry => Sys2Proof.Machine.execSilenceFirstExpiry s
  | .silenceSecondExpiry => Sys2Proof.Machine.execSilenceSecondExpiry s
  | .hostrstPulseEnd => Sys2Proof.Machine.execHostrstPulseEnd s
  | .batteryCheck low => Sys2Proof.Machine.execBatteryCheck low s
  | .powerOnReset => Sys2Proof.Machine.execPowerOnReset s
  | .supplyDropReset => Sys2Proof.Machine.execSupplyDropReset s
  | .supplyBelowPowerOff => Sys2Proof.Machine.execSupplyBelowPowerOff s
  | .pinReset => Sys2Proof.Machine.execPinReset s
  | .resetEnd batteryLow sramHeld firstStrap secondStrap => Sys2Proof.Machine.execResetEnd batteryLow sramHeld firstStrap secondStrap s
  | .settingsPhaseEnd answers => Sys2Proof.Machine.execSettingsPhaseEnd answers s
  | .memoryPhaseEnd block0 block512 failing faults => Sys2Proof.Machine.execMemoryPhaseEnd block0 block512 failing faults s
  | .mechanismPhaseEnd => Sys2Proof.Machine.execMechanismPhaseEnd s
  | .settingsStoreEnd result => Sys2Proof.Machine.execSettingsStoreEnd result s
  | .linkByteReceived byte framingFault => Sys2Proof.Machine.execLinkByteReceived byte framingFault s
  | .mechanismLevelsTaken levels => Sys2Proof.Machine.execMechanismLevelsTaken levels s

end Sys2Proof.Machine
end

