-- ==== Sys2Proof/Machine/Step.lean ====
section
/-! DEFINITION. One step: the step at the front of the queue, or a microsecond of the clock (log 1); and the host's way to put a step in
front. -/

namespace Sys2Proof.Machine

/-- The next step of the queue, with the queue's rest; an empty queue lets a microsecond pass. -/
def step (s : State) : Host.Outcome State Fault Refusal :=
  match s.pending with
  | i :: rest => exec i { s with pending := rest }
  | [] => .next { s with now := s.now + 1 }

/-- The state with the step a word spells in front of its queue; no word spells one (log 33). -/
def State.withFetchWord (s : State) (nbits w : Nat) : State :=
  match decodeTableWord nbits w with
  | some i => { s with pending := i :: s.pending }
  | none => s

end Sys2Proof.Machine
end

