-- ==== Sys2Proof/Safety.lean ====
section
/-! DEFINITION. What a state keeps through every step, and the terms the claims are stated in. -/

namespace Sys2Proof.Machine

/-- The part stands at RELEASE or later (R177). -/
def State.isReady (s : State) : Bool := decide (s.start.phase = .ready)

/-- R193, R200: HOLD and ATN as they must stand between two steps. -/
def State.linesAgree (s : State) : Prop := s.events.atn = atnDue s ∧ s.link.hold = holdDue s

/-- R1: the page DRAM in its canonical form. -/
def State.dramWf (s : State) : Prop := Memory.wf s.dram = true

/-- R181, R183, R186: 80 working values, each in its range, every dependency met. -/
def State.settingsLegal (s : State) : Prop := s.settings.inRange = true ∧ s.settings.dependencies = true

/-- R104, R116, R132, R146 to R150: HEADPWR is on in ACTIVE alone; READY, an energized motor and a strobe need it; no job exists in
DOZE, in WAKING, or once a MODE-SET DOZE has been accepted in STANDBY. -/
structure State.powerSafe (s : State) : Prop where
  headInActive     : s.power.headPower = true → s.power.mode = .active
  readyNeedsHead   : s.energy.ready = true → s.power.headPower = true
  scanNeedsReady   : s.mech.scanFeed.energized = true → s.energy.ready = true
  printNeedsReady  : s.mech.printFeed.energized = true → s.energy.ready = true
  strobeNeedsReady : s.energy.firing.isSome = true → s.energy.ready = true
  dozeHasNoJob     : s.power.mode = .doze ∨ s.power.mode = .waking → s.jobs.slots.all Option.isNone = true
  dozeFromStandby  : s.link.dozeAccepted = true → s.power.mode = .standby ∧ s.jobs.slots.all Option.isNone = true
  fourSlots        : s.jobs.slots.length = 4

/-- R5: the page holds every line committed to it: its blocks have not been freed, and no read has cut it. -/
def Page.holdsWhole (p : Page) : Prop :=
  (p.state = .filling ∨ p.state = .complete ∨ p.state = .truncated) ∧ p.frontFreed = false

/-- The bytes of a page's chain up to the end of its committed extent (R4, R8). -/
def Page.committedBytes (p : Page) : Nat := (p.blockCount - 1) * Config.blockBytes + p.extent

/-- R1, R5, R6, R8, R13: the store's records agree among themselves and with its writers. -/
structure State.storeSound (s : State) : Prop where
  /-- R1, R3: a block in use is owned by a page that is not EMPTY. -/
  owned    : ∀ b ∈ s.store.blocks, b.state = .used ∨ b.state = .suspect → (pageOf s b.owner).state ≠ .empty
  /-- R6: a page in a document's list is not EMPTY and names the document. -/
  listed   : ∀ n, ∀ p ∈ (docOf s n).pages, (pageOf s p).state ≠ .empty ∧ (pageOf s p).document = n
  /-- R8, R13: a page has a block, and holds a byte or more for each committed line. -/
  lines    : ∀ p ∈ s.store.pages, p.holdsWhole →
    1 ≤ p.blockCount ∧ p.bytesUsed ≤ Config.blockBytes ∧ p.part ≤ p.bytesUsed ∧ p.committed ≤ p.committedBytes
  /-- R7: the page a writer stands on is not EMPTY. -/
  scanPage : ∀ p, s.store.scanIn.slot = some p → (pageOf s p).state ≠ .empty
  linkPage : ∀ p, s.store.linkIn.bind LinkIn.slot = some p → (pageOf s p).state ≠ .empty
  /-- R9, R32: no record is empty, and what waits of one is not. -/
  records  : ∀ n r t, LineSlot.coded n r t ∈ s.scan.slots → r ≠ []
  scanHeld : ∀ h, s.store.scanIn.held = some h → h.rest ≠ []
  linkHeld : ∀ h, s.store.linkIn.bind LinkIn.held = some h → h.rest ≠ []

/-- Section 1.2, R6, R48, R50: the page lists, the directory and the jobs that use it agree. -/
structure State.listsSound (s : State) : Prop where
  /-- Section 1.2: a page that is not EMPTY stands in the list of the document it names. -/
  inList   : ∀ p, (pageOf s p).state ≠ .empty → p ∈ (docOf s (pageOf s p).document).pages
  /-- Section 1.2: no page stands twice in a list. -/
  once     : ∀ n, (docOf s n).pages.Nodup
  /-- R6: an EMPTY document has no page. -/
  emptyDoc : ∀ n, (docOf s n).state = .empty → (docOf s n).pages = []
  /-- R48, R51: the document of a job is not EMPTY. -/
  jobDoc   : ∀ k j, jobIn s k = some j → (docOf s j.document).state ≠ .empty
  /-- R6, R50: a document's users count covers every job that works on it. -/
  users    : ∀ n, (s.jobs.slots.filter (fun j => decide (j.map Job.document = some n))).length ≤ (docOf s n).users
  /-- R14: the page a reader stands on is not EMPTY. -/
  printPage : ∀ p, s.store.printOut.slot = some p → (pageOf s p).state ≠ .empty
  sendPage  : ∀ p, s.store.linkOut.slot = some p → (pageOf s p).state ≠ .empty

/-- R50, R53, R54, R57: the engines, the wait lists, the jobs and their motors agree. -/
structure State.jobsSound (s : State) : Prop where
  /-- R53, R54: a job holds all the engines its kind claims, or, WAITING, none. -/
  holds : ∀ k j, jobIn s k = some j → ∀ e, holderOf s e = .job k ↔ j.state ≠ .waiting ∧ e ∈ j.kind.engines
  /-- R53: a job that holds an engine exists. -/
  held  : ∀ e k, holderOf s e = .job k → (jobIn s k).isSome = true
  /-- R53: only WAITING jobs stand in the wait lists of engines they claim. -/
  waits : ∀ e, ∀ k ∈ s.jobs.waits.at e, ∃ j, jobIn s k = some j ∧ j.state = .waiting ∧ e ∈ j.kind.engines
  /-- R57: the motors of a HELD or BOUNDARY job rest. -/
  rests : ∀ k j, jobIn s k = some j → j.state = .held ∨ j.state = .boundary → jobRests s k = true
  /-- R131: a motor that is ENERGIZING has a motion to begin. -/
  driven : ∀ m, (feedOf s m).current = .energizing → (feedOf s m).moving = true

/-- R126: the level is at most the next allowance plus 1, and 0 at rest and when no step is queued. -/
structure Feed.levelSound (f : Feed) : Prop where
  atRest   : f.moving = false → f.level = 0
  drained  : f.queue = [] → f.level = 0
  allowed  : f.level ≤ f.allowances.headD 0 + 1

/-- R126 on both motors. -/
def State.levelsSound (s : State) : Prop := s.mech.scanFeed.levelSound ∧ s.mech.printFeed.levelSound

/-- The bytes of a list received one after another with their stop bits (R190, R191). -/
def receiveAll : List Byte → State → Result
  | [], s => .next s
  | b :: bs, s =>
    match exec (.linkByteReceived b false) s with
    | .next t => receiveAll bs t
    | r => r

/-- A clean end of a command: the frame released, the effect, the REPLY with DONE and its data, and the end of the step
(R193, R195, R197). -/
def replied (code : Byte) (data : List Byte) (t : State) : Result := .next (settle (placeReply code .done data t))

/-- A command refused: the frame released, the REPLY with the result and no data, and nothing else changed (R195, R196). -/
def refused (code : Byte) (a : Answer) (s : State) : Result := .next (settle (placeReply code a [] (releaseCommand s)))

end Sys2Proof.Machine
end

