-- ==== Sys2Proof/WellFormed.lean ====
section
/-! DEFINITION. The steps the outside world can give: the sizes of what they carry. -/

namespace Sys2Proof

/-- A raw line has the sensor's 1728 samples (R88, R97). -/
def rawWf (raw : List Byte) : Bool := decide (raw.length = Config.headDots)

/-- Parity faults lie in at most 4 MB of page DRAM (R1, R19). -/
def ParityFaults.wf (f : ParityFaults) : Bool := (f.first ++ f.reread).all (fun a => decide (a < 2048 * Config.blockBytes))

/-- A failed write leaves an image of 512 bytes (R186, R187). -/
def StoreResult.wf : StoreResult → Bool
  | .verified => true
  | .failed left => decide (left.length = Config.imageBytes)

/-- A payload that spells no command, within a frame's length (R191, R195). -/
def unknownWf (payload : List Byte) : Bool :=
  decide (payload.length ≤ Config.maxPayload) && decide (decodeCommand payload = .unknownCommand payload)

/-- The failing blocks of a memory test lie in the largest memory (R170, R171). -/
def failingWf (failing : List Nat) : Bool := failing.all (fun b => decide (b < 2048))

/-- The steps that carry no more than their constructor says are always well formed. -/
def Instr.wf : Instr → Bool
  | .unknownCommand payload => unknownWf payload
  | .dataOutSent faults => faults.wf
  | .scanLineCaptured raw => rawWf raw
  | .calibrationCaptureEnd raw => rawWf raw
  | .printLineOffer _ _ faults => faults.wf
  | .memoryPhaseEnd _ _ failing faults => failingWf failing && faults.wf
  | .settingsStoreEnd result => result.wf
  | .ping _ _ _ _ => true
  | .getEvents _ => true
  | .eventMask _ => true
  | .docCreate _ _ _ => true
  | .docClose _ => true
  | .docDelete _ => true
  | .docInfo _ => true
  | .docList => true
  | .pageInfo _ _ => true
  | .pageDrop _ _ => true
  | .storeStatus => true
  | .jobStart _ _ _ _ _ _ _ _ => true
  | .jobAnswer _ _ => true
  | .jobHold _ => true
  | .jobResume _ => true
  | .jobAbort _ => true
  | .jobStatus _ => true
  | .sendCredit _ count => count.faults.wf
  | .scanCalibrate => true
  | .docEject => true
  | .paperAdvance _ => true
  | .cut => true
  | .sensorRead => true
  | .modeSet _ => true
  | .alarmSet _ => true
  | .alarmRead => true
  | .settingGet _ => true
  | .settingSet _ _ => true
  | .settingsStore => true
  | .settingsDefault _ => true
  | .settingsProtect => true
  | .bootReport => true
  | .clearCauses => true
  | .restart => true
  | .frameReceived => true
  | .frameGapTimeout => true
  | .dataInRouting => true
  | .receivedLineRecord => true
  | .receivedPageBegin => true
  | .receivedPageEnd => true
  | .undelimitableItem => true
  | .replySent => true
  | .scanLineEntryAdmit => true
  | .spanCodeLine => true
  | .scanInTakeRecord => true
  | .lampWarm => true
  | .motionBegin _ => true
  | .feedStep _ => true
  | .motorRest _ => true
  | .energizingEnd _ => true
  | .holdDelayExpiry _ => true
  | .offDelayExpiry _ => true
  | .pwmPeriodEnd _ => true
  | .docEntryChange _ => true
  | .docReadChange _ => true
  | .paperChange _ => true
  | .coverChange _ => true
  | .cutterHomeChange _ => true
  | .wakeKeyChange _ => true
  | .cutterTimeout => true
  | .strobeSubpulseEnd => true
  | .headTimerLimit => true
  | .headReady => true
  | .converterTimedSample _ _ => true
  | .idleCountExpiry => true
  | .dozeCountExpiry => true
  | .linkReceiveEdge => true
  | .wakingEnd => true
  | .ringPulse => true
  | .ringBurstEnd => true
  | .ringGapExpiry => true
  | .alarmExpiry => true
  | .silenceFirstExpiry => true
  | .silenceSecondExpiry => true
  | .hostrstPulseEnd => true
  | .batteryCheck _ => true
  | .powerOnReset => true
  | .supplyDropReset => true
  | .supplyBelowPowerOff => true
  | .pinReset => true
  | .resetEnd _ _ _ _ => true
  | .settingsPhaseEnd _ => true
  | .mechanismPhaseEnd => true
  | .linkByteReceived _ _ => true
  | .mechanismLevelsTaken _ => true

end Sys2Proof
end

