-- ==== Sys2Proof/Certificates/Slice0/Obligations.lean ====
section
/-! DEFINITION. What is claimed of the model. Each claim says in its docstring the rules of spec/ it follows; a claim that rests on a
choice of the model names the log entry. -/

open Sys2Proof Sys2Proof.Machine

/-! ## The queue of steps -/

/-- A step takes the front of the queue and runs it with the queue's rest. Log 1 (DESIGN CHOICE): a step on an empty queue lets
a microsecond pass and changes nothing else. Log 3 (DESIGN CHOICE), R195: while intake is closed a step that is a command does
nothing, whichever command it is. -/
def Obligations.StepRunsFrontOrTicks : Prop :=
  (∀ (c : Instr) (rest : List Instr) (s : State), s.pending = c :: rest → step s = exec c { s with pending := rest }) ∧
  (∀ s : State, s.pending = [] → step s = .next { s with now := s.now + 1 }) ∧
  (∀ (i : Instr) (s : State), (commandCode i).isSome = true → intakeOpen s = false → exec i s = .next s)

/-- R126: at rest, and when no step is queued, a motor's level is 0; otherwise it is at most the next allowance of R125 plus 1,
so that a motion can always be brought to rest. Every step keeps this for both motors. -/
def Obligations.MotionLevelsKept : Prop :=
  ∀ s t : State, s.levelsSound → step s = .next t → t.levelsSound

/-- R104, R146, R163, R193, R200, R204 (log 5 for the store of a new part, log 6 and log 8 for the memory and the settings): every invariant stated here holds right
after reset. -/
def Obligations.InvariantsAtReset : Prop :=
  State.reset.linesAgree ∧ State.reset.settingsLegal ∧ State.reset.powerSafe ∧ State.reset.dramWf ∧ State.reset.storeSound ∧
  State.reset.listsSound ∧ State.reset.jobsSound ∧ State.reset.levelsSound

/-! ## The command link and the Event Unit (10_the_command_link.md) -/

/-- R205, 10.11: a command's payload, as the host spells it, decodes to that command, but for the parity condition of SEND-CREDIT's
reads, which is the DRAM's and not the host's (log 9); so does a payload that spells none. R195,
R205: no byte of a COMMAND payload is dropped: what it decodes to spells the same payload. -/
def Obligations.CommandsDecodeAndEncode : Prop :=
  (∀ i : Instr, (commandCode i).isSome = true ∨ (∃ p, i = .unknownCommand p ∧ i.wf = true) → decodeCommand (encodeCommand i) = i.asSent) ∧
  (∀ payload : List Byte, encodeCommand (decodeCommand payload) = payload)

/-- R191, R193: the bytes of a whole frame with a good check and a kind of the host's, received one by one into a buffer with
room, put the frame at the end of the inbound buffer; no fault is counted. -/
def Obligations.FrameReceivedByteByByte : Prop :=
  ∀ (kind : Byte) (payload : List Byte) (s : State),
    kind = kindCommand ∨ kind = kindDataIn → payload.length ≤ 1024 → receiverRuns s = true → s.link.receiver = .hunt →
    payload.length + 6 + (if kind = kindCommand then 0 else 64) ≤ freeBytes s →
    ∃ t u, receiveAll (frame kind payload) s = .next t ∧ exec .frameReceived t = .next u ∧
      u.link.inbound = s.link.inbound ++ [⟨decide (kind = kindCommand), payload, payload.length + 6⟩] ∧
      u.link.receiver = .hunt ∧ u.link.totals = s.link.totals ∧ u.store = s.store ∧ u.jobs = s.jobs ∧ u.dram = s.dram ∧
      u.events.pending = s.events.pending

/-- R191: what a byte does in HUNT and inside a frame that is neither complete nor late, by the table of the rule. R193: a byte
that finds no free byte, or the second or a later byte of a frame whose kind is not COMMAND that finds 64 free bytes or fewer, is an
OVERRUN. R191: the length is judged at its second byte. A byte with a framing fault counts FRAMING whether or not it finds room
(log 73), and a second length byte above 1024 that finds no room counts OVERRUN (log 74): R191 and R193 leave both open. -/
def Obligations.ByteTakenByReceiverState : Prop :=
  ∀ (b : Byte) (s : State), receiverRuns s = true →
    let bs := s.link.receiver.bytes ++ [b]
    let hunting := { s with link := { s.link with receiver := ⟨.hunt, [], 0⟩ } }
    let inTime := s.link.receiver.state ≠ .hunt ∧ frameComplete s = false ∧ s.now ≤ s.link.receiver.lastAt + 20000
    let overrun := freeBytes s = 0 ∨ (freeBytes s ≤ 64 ∧ 2 ≤ bs.length ∧ bs.getD 1 0 ≠ 0x10)
    (s.link.receiver.state = .hunt → b = 0xA5 → freeBytes s ≠ 0 →
      exec (.linkByteReceived b false) s =
        .next (settle { s with link := { s.link with receiver := ⟨.header, [b], s.now⟩ } })) ∧
    (s.link.receiver.state = .hunt → b = 0xA5 → freeBytes s = 0 →
      exec (.linkByteReceived b false) s = .next (settle (linkFault .overrun s))) ∧
    (s.link.receiver.state = .hunt → b ≠ 0xA5 → exec (.linkByteReceived b false) s = .next (settle s)) ∧
    (s.link.receiver.state = .hunt → exec (.linkByteReceived b true) s = .next (settle s)) ∧
    (inTime → exec (.linkByteReceived b true) s = .next (settle (linkFault .framing hunting))) ∧
    (inTime → overrun → exec (.linkByteReceived b false) s = .next (settle (linkFault .overrun hunting))) ∧
    (inTime → ¬overrun → bs.length = 4 ∧ 1024 < num2 (bs.getD 2 0) (bs.getD 3 0) →
      exec (.linkByteReceived b false) s = .next (settle (linkFault .length hunting))) ∧
    (inTime → ¬overrun → ¬(bs.length = 4 ∧ 1024 < num2 (bs.getD 2 0) (bs.getD 3 0)) →
      exec (.linkByteReceived b false) s =
        .next (settle { s with link := { s.link with
          receiver := ⟨rxStateAfter bs.length (num2 (bs.getD 2 0) (bs.getD 3 0)), bs, s.now⟩ } }))

/-- R191, R198: a complete frame is judged by its check and then its kind, and its bytes leave the receiver. R192: a frame in
reception that has waited more than 20 ms for its next byte is discarded with a GAP count. -/
def Obligations.FrameIsJudgedOrLate : Prop :=
  (∀ (kind : Byte) (payload check : List Byte) (at' : Nat) (s : State),
     receiverRuns s = true → payload.length ≤ 1024 → check.length = 2 →
     s.link.receiver = ⟨.check, 0xA5 :: kind :: be2 payload.length ++ payload ++ check, at'⟩ →
     (check ≠ field2 (crc (kind :: be2 payload.length ++ payload)) →
       exec .frameReceived s =
         .next (settle (linkFault .check { s with link := { s.link with receiver := ⟨.hunt, [], 0⟩ } }))) ∧
     (check = field2 (crc (kind :: be2 payload.length ++ payload)) → kind ≠ 0x10 → kind ≠ 0x11 →
       exec .frameReceived s =
         .next (settle (linkFault .kind { s with link := { s.link with receiver := ⟨.hunt, [], 0⟩ } }))) ∧
     (check = field2 (crc (kind :: be2 payload.length ++ payload)) → kind = 0x10 ∨ kind = 0x11 →
       exec .frameReceived s =
         .next (settle { s with
           link := { s.link with receiver := ⟨.hunt, [], 0⟩,
                                 inbound := s.link.inbound ++ [⟨decide (kind = 0x10), payload, payload.length + 6⟩] }
           silence := { s.silence with since := none, firstStage := false }
           power := { s.power with dozeFrom := none } }))) ∧
  (∀ s : State, receiverRuns s = true → s.link.receiver.state ≠ .hunt → frameComplete s = false →
     s.link.receiver.lastAt + 20000 < s.now →
     exec .frameGapTimeout s =
       .next (settle (linkFault .gap { s with link := { s.link with receiver := ⟨.hunt, [], 0⟩ } })))

/-- R194: a DATA-IN frame at the front of the buffer is judged against the job that holds LINK-IN; behind a COMMAND frame it
waits. -/
def Obligations.DataInIsRouted : Prop :=
  ∀ (f : InFrame) (rest : List InFrame) (s : State), receiverRuns s = true → s.link.inbound = f :: rest →
    (f.command = true → exec .dataInRouting s = .next s) ∧
    (f.command = false → receiveJob s = none →
      exec .dataInRouting s = .next (settle (linkFault .noReceiver { s with link := { s.link with inbound := rest } }))) ∧
    (∀ k j, f.command = false → receiveJob s = some (k, j) → j.state ≠ .running →
      exec .dataInRouting s =
        .next (settle (onJob k (fun x => { x with discardedFrames := min 65535 (x.discardedFrames + 1) })
          { s with link := { s.link with inbound := rest } }))) ∧
    (∀ k j, f.command = false → receiveJob s = some (k, j) → j.state = .running → f.payload = [] →
      exec .dataInRouting s = .next (settle { s with link := { s.link with inbound := rest } })) ∧
    (∀ k j c, f.command = false → receiveJob s = some (k, j) → j.state = .running → f.payload ≠ [] →
      s.store.linkIn = some c →
      exec .dataInRouting s =
        .next (settle { s with
          link := { s.link with inbound := rest }
          store := { s.store with linkIn := some { c with queue := c.queue ++ [⟨f.payload, f.size⟩] } } }))

/-- R195, R196: every command taken is answered by exactly one REPLY with its code; a result other than DONE has changed nothing
but the link, from which the frame is released. R195: a payload that spells no command is answered with its code echoed, 0 for
an empty one, and BAD-LENGTH or UNKNOWN. -/
def Obligations.EveryCommandIsAnswered : Prop :=
  (∀ (i : Instr) (c : Nat) (s : State), commandCode i = some c → takes i s = true →
     ∃ t, exec i s = .next t ∧
       ((∃ data, t.link.reply = some (BitVec.ofNat 8 c :: 0 :: data)) ∨
        (∃ a : Answer, a ≠ .done ∧ t = settle (placeReply (BitVec.ofNat 8 c) a [] (releaseCommand s))))) ∧
  (∀ (payload : List Byte) (s : State), takes (.unknownCommand payload) s = true →
     (payload = [] →
       exec (.unknownCommand payload) s = .next (settle (placeReply 0 .badLength [] (releaseCommand s)))) ∧
     (∀ c rest, payload = c :: rest → c.toNat ∈ commandCodes →
       exec (.unknownCommand payload) s = .next (settle (placeReply c .badLength [] (releaseCommand s)))) ∧
     (∀ c rest, payload = c :: rest → c.toNat ∉ commandCodes →
       exec (.unknownCommand payload) s = .next (settle (placeReply c .unknown [] (releaseCommand s)))))

/-- R27, R28, R30, R79, R143, R159, R178, R182, R203: a command that reports changes nothing but the link, and its reply gives
what the rule lists. The model's choices: the free bytes of PING are those after its own frame is released (log 19), a field that
holds none gives 0xFF or 0xFFFF where no table gives another code (log 21), the states of the channels (log 52), a motor shown at rest
until its motion has begun (log 90), and the codes of JOB-STATUS's reason (log 91). -/
def Obligations.ReportsChangeNothing : Prop :=
  ∀ s : State,
    (∀ b0 b1 b2 b3, takes (.ping b0 b1 b2 b3) s = true →
      exec (.ping b0 b1 b2 b3) s =
        replied 0x01 ([b0, b1, b2, b3] ++ be1 s.power.mode.code ++ be1 s.link.rate ++ s.link.totals.list.flatMap be2 ++
          be2 (freeBytes (releaseCommand s))) (releaseCommand s)) ∧
    (∀ d, takes (.docInfo d) s = true → docExists s d.toNat = true →
      exec (.docInfo d) s = replied 0x13 (docInfoBytes s d.toNat) (releaseCommand s)) ∧
    (takes .docList s = true →
      exec .docList s = replied 0x14
        (be1 (documentsHeld s).length ++ (documentsHeld s).flatMap (docEntryBytes s)) (releaseCommand s)) ∧
    (∀ d p slot, takes (.pageInfo d p) s = true → namedPage s d.toNat p.toNat = some slot →
      exec (.pageInfo d p) s = replied 0x15 (pageInfoBytes s slot) (releaseCommand s)) ∧
    (takes .storeStatus s = true → exec .storeStatus s = replied 0x17 (storeStatusBytes s) (releaseCommand s)) ∧
    (∀ b k j, takes (.jobStatus b) s = true → namedJob s b.toNat = some (k, j) →
      exec (.jobStatus b) s = replied 0x25 (jobStatusBytes s j k) (releaseCommand s)) ∧
    (takes .sensorRead s = true → exec .sensorRead s = replied 0x34 (sensorBytes s) (releaseCommand s)) ∧
    (takes .alarmRead s = true →
      exec .alarmRead s = replied 0x42 (be3 (alarmLeft s) ++ be1 (if s.wake.running then 0 else 1)) (releaseCommand s)) ∧
    (∀ b place, takes (.settingGet b) s = true → itemPlace b.toNat = some place →
      exec (.settingGet b) s = replied 0x50 (settingBytes s.settings place) (releaseCommand s)) ∧
    (takes .bootReport s = true → exec .bootReport s = replied 0x60 (bootReportBytes s) (releaseCommand s))

/-- R208: the lengths of the fixed reports, whatever the state. -/
def Obligations.ReportLengths : Prop :=
  ∀ (s : State) (n place k : Nat) (j : Job) (m : Motor) (d : Detail) (b0 b1 b2 b3 : Byte),
    (pingData [b0, b1, b2, b3] s).length = 24 ∧ (docInfoBytes s n).length = 14 ∧ (docEntryBytes s n).length = 5 ∧
    (pageInfoBytes s n).length = 23 ∧ (storeStatusBytes s).length = 23 ∧ (jobStatusBytes s j k).length = 40 ∧
    (feedBytes s m).length = 9 ∧ (sensorBytes s).length = 27 ∧ (settingBytes s.settings place).length = 11 ∧
    (bootReportBytes s).length = 36 ∧ d.bytes.length = 10 ∧ (modeData s).length = 3

/-- R199: a raise makes a record with occurrence count 1, or coalesces into the one pending, its count rising to at most 255; no
other record and no mask changes, and from a reset until RELEASE nothing is recorded. R198, R199: how two details of one source
merge: a LINK detail adds its counts saturating at 255, JAM and SUPPLY OR their flags, WAKE ORs its causes, JOB, RING, ALARM,
SENSOR, DONE and SILENCE are replaced. R119: a SUPPLY detail keeps its latest sample (log 60 for the VNOM with it),
and one of BATTERY-LOW alone leaves it (log 75). R135: EMERGENCY
ORs its flags and takes the newest current states. R17, R18: STORE ORs its flags, adds its counts and takes the latest values it
is given (log 44 for the JAM, WAKE and STORE counts). R198: a link fault adds one to the matching total,
saturating at 65535, raises LINK with a count of one of its kind, and changes nothing else. -/
def Obligations.EventRecordsAndFaultCounts : Prop :=
  (∀ (n : Nat) (d : Detail) (s : State), n < s.events.pending.length →
     (s.start.phase ≠ .ready → raise n d s = s) ∧
     (s.start.phase = .ready → s.events.pending[n]? = some none →
       raise n d s = { s with events := { s.events with pending := s.events.pending.set n (some ⟨1, d⟩) } }) ∧
     (∀ r, s.start.phase = .ready → s.events.pending[n]? = some (some r) →
       raise n d s = { s with events := { s.events with
         pending := s.events.pending.set n (some ⟨min 255 (r.count + 1), r.detail.merge d⟩) } })) ∧
  ((∀ a b : LinkTotals, Detail.merge (.link a) (.link b) = .link
     ⟨min 255 (a.check + b.check), min 255 (a.length + b.length), min 255 (a.kind + b.kind), min 255 (a.gap + b.gap),
      min 255 (a.framing + b.framing), min 255 (a.overrun + b.overrun), min 255 (a.noReceiver + b.noReceiver),
      min 255 (a.badRecord + b.badRecord)⟩) ∧
   (∀ d c p l n m d' c' p' l' n' m', Detail.merge (.jam d c p l n m) (.jam d' c' p' l' n' m') =
     .jam (d || d') (c || c') (p || p') (l || l') (min 255 (n + n')) (min 255 (m + m'))) ∧
   (∀ h b v h' b' x, Detail.merge (.supply h b v) (.supply h' b' (some x)) = .supply (h || h') (b || b') (some x)) ∧
   (∀ h b v h' b', Detail.merge (.supply h b v) (.supply h' b' none) = .supply (h || h') (b || b') v) ∧
   (∀ a b : EmergencyDetail, Detail.merge (.emergency a) (.emergency b) = .emergency
     ⟨b.scanState, b.printState, a.scanMoving || b.scanMoving, a.printMoving || b.printMoving, a.headPower || b.headPower,
      a.strobeCut || b.strobeCut, a.cutterRunning || b.cutterRunning⟩) ∧
   (∀ a b : StoreDetail, Detail.merge (.store a) (.store b) = .store
     ⟨a.low || b.low, a.full || b.full, a.parity || b.parity, a.chain || b.chain, b.free,
      if b.reason.isSome then b.reason else a.reason, min 255 (a.parityReads + b.parityReads),
      min 255 (a.chainFaults + b.chainFaults), if b.suspect.isSome then b.suspect else a.suspect,
      if b.damaged.isSome then b.damaged else a.damaged⟩) ∧
   (∀ a n b m, Detail.merge (.wake a n) (.wake b m) = .wake (a.union b) (min 255 (n + m))) ∧
   (∀ a b : JobDetail, Detail.merge (.job a) (.job b) = .job b) ∧
   (∀ a b c a' b' c', Detail.merge (.ring a b c) (.ring a' b' c') = .ring a' b' c') ∧
   (∀ a b, Detail.merge (.alarm a) (.alarm b) = .alarm b) ∧
   (∀ a b c a' b' c', Detail.merge (.sensor a b c) (.sensor a' b' c') = .sensor a' b' c') ∧
   (∀ a b c a' b' c', Detail.merge (.done a b c) (.done a' b' c') = .done a' b' c') ∧
   (∀ a b c a' b' c', Detail.merge (.silence a b c) (.silence a' b' c') = .silence a' b' c')) ∧
  (∀ s : State,
     linkFault .check s = raise 14 (.link ⟨1, 0, 0, 0, 0, 0, 0, 0⟩)
       { s with link := { s.link with totals := { s.link.totals with check := min 65535 (s.link.totals.check + 1) } } } ∧
     linkFault .length s = raise 14 (.link ⟨0, 1, 0, 0, 0, 0, 0, 0⟩)
       { s with link := { s.link with totals := { s.link.totals with length := min 65535 (s.link.totals.length + 1) } } } ∧
     linkFault .kind s = raise 14 (.link ⟨0, 0, 1, 0, 0, 0, 0, 0⟩)
       { s with link := { s.link with totals := { s.link.totals with kind := min 65535 (s.link.totals.kind + 1) } } } ∧
     linkFault .gap s = raise 14 (.link ⟨0, 0, 0, 1, 0, 0, 0, 0⟩)
       { s with link := { s.link with totals := { s.link.totals with gap := min 65535 (s.link.totals.gap + 1) } } } ∧
     linkFault .framing s = raise 14 (.link ⟨0, 0, 0, 0, 1, 0, 0, 0⟩)
       { s with link := { s.link with totals := { s.link.totals with framing := min 65535 (s.link.totals.framing + 1) } } } ∧
     linkFault .overrun s = raise 14 (.link ⟨0, 0, 0, 0, 0, 1, 0, 0⟩)
       { s with link := { s.link with totals := { s.link.totals with overrun := min 65535 (s.link.totals.overrun + 1) } } } ∧
     linkFault .noReceiver s = raise 14 (.link ⟨0, 0, 0, 0, 0, 0, 1, 0⟩)
       { s with link := { s.link with totals := { s.link.totals with noReceiver := min 65535 (s.link.totals.noReceiver + 1) } } } ∧
     linkFault .badRecord s = raise 14 (.link ⟨0, 0, 0, 0, 0, 0, 0, 1⟩)
       { s with link := { s.link with totals := { s.link.totals with badRecord := min 65535 (s.link.totals.badRecord + 1) } } })

/-- R193, R200: every step leaves ATN and HOLD as their rules have them. R200: ATN is due exactly when the part is READY and
some unmasked record is pending. R193: HOLD is due exactly when the part is not READY, when it is in DOZE or WAKING, and when fewer
than 1094 of the 4096 bytes of the inbound buffer are free: those not taken by the frame in reception, by the frames received and by
the DATA-IN payloads that the LINK-IN channel has not emptied. -/
def Obligations.SideLinesKept : Prop :=
  (∀ s t : State, s.linesAgree → step s = .next t → t.linesAgree) ∧
  (∀ s : State, atnDue s = true ↔ s.start.phase = .ready ∧
     ∃ (n : Nat) (r : Record), s.events.pending[n]? = some (some r) ∧ s.events.masked[n]? = some false) ∧
  (∀ s : State,
    let channel := match s.store.linkIn with | some c => (c.queue.map ChannelFrame.size).sum | none => 0
    holdDue s = true ↔ s.start.phase ≠ .ready ∨ s.power.mode = .doze ∨ s.power.mode = .waking ∨
      4096 < s.link.receiver.bytes.length + (s.link.inbound.map InFrame.size).sum + channel + 1094)

/-- R201: GET-EVENTS reports and clears the first eight eligible records in source order, and leaves every other record as it
was. R201: a GET-EVENTS whose flag is neither 0 nor 1 is refused. R202: EVENT-MASK replaces all 16 masks and reports the masks
and the sources that have a record. -/
def Obligations.EventsCollectedAndMasked : Prop :=
  (∀ (flag : Byte) (s : State), takes (.getEvents flag) s = true → flag = 0 ∨ flag = 1 →
     ∃ t, exec (.getEvents flag) s = .next t ∧
       t.link.reply = some (0x02 :: 0 :: (be1 (min 8 (eligible s.events (flag == 1)).length) ++
         ((eligible s.events (flag == 1)).take 8).flatMap (recordBytes s.events) ++
         be1 ((eligible s.events (flag == 1)).length - 8))) ∧
       t.events.masked = s.events.masked ∧ t.events.pending.length = s.events.pending.length ∧
       (∀ n, n < s.events.pending.length →
         t.events.pending[n]? =
           if n ∈ (eligible s.events (flag == 1)).take 8 then some none else s.events.pending[n]?) ∧
       t.store = s.store ∧ t.jobs = s.jobs ∧ t.scan = s.scan ∧ t.energy = s.energy ∧ t.mech = s.mech ∧ t.dram = s.dram ∧
       t.settings = s.settings ∧ t.start = s.start ∧ t.levels = s.levels ∧ t.ring = s.ring ∧ t.wake = s.wake) ∧
  (∀ (flag : Byte) (s : State), takes (.getEvents flag) s = true → flag ≠ 0 → flag ≠ 1 →
     exec (.getEvents flag) s = .next (settle (placeReply 0x02 .badParam [] (releaseCommand s)))) ∧
  (∀ (masks : BitVec 16) (s : State), takes (.eventMask masks) s = true →
     exec (.eventMask masks) s =
       replied 0x03 (be2 masks.toNat ++ be2 (pendingSet s.events))
         { releaseCommand s with events := { s.events with masked := (List.range 16).map masks.getLsbD } })

/-- R150, R180, R197: when a REPLY has been sent whole the next frame of the queue begins, an accepted DOZE is entered, and an
accepted RESTART begins its reset. DOZE leaves the receiver in HUNT with nothing counted, a complete frame not yet judged discarded
with a partial one (log 72). -/
def Obligations.ReplySentWhole : Prop :=
  ∀ s : State, receiverRuns s = true → s.link.sending = some .reply →
    (s.link.restartAccepted = false → s.link.dozeAccepted = false →
      exec .replySent s = .next (settle { s with link := { s.link with
        reply := none, sending := if s.link.dataOut.isSome then some .dataOut else none } })) ∧
    (s.link.restartAccepted = false → s.link.dozeAccepted = true →
      exec .replySent s = .next (settle { s with
        link := { s.link with reply := none, sending := if s.link.dataOut.isSome then some .dataOut else none
                              receiver := ⟨.hunt, [], 0⟩, dozeAccepted := false }
        power := { s.power with mode := .doze, dozeFrom := none, causes := .none }
        start := { s.start with selfRefresh := true } })) ∧
    (s.link.restartAccepted = true → exec .replySent s = .next (settle (resetBlocks .restart s)))

/-! ## The page store (01_the_page_store.md) -/

/-- R2, R3, R17: a block allocated is the lowest FREE one, becomes USED for the page and its last block, and the low condition
follows the new count; a block freed is FREE or BAD by its state; no other block, page or document changes. -/
def Obligations.BlocksTakenAndFreed : Prop :=
  (∀ (slot : Nat) (s : State), (∀ b ∈ s.store.blocks, b.state ≠ .free) → allocate slot s = none) ∧
  (∀ (slot b : Nat) (s : State), slot < s.store.pages.length → (blockOf s b).state = .free → b < s.store.blocks.length →
    (∀ c, c < b → (blockOf s c).state ≠ .free) → ((pageOf s slot).blockCount = 0 ∨ (pageOf s slot).lastBlock ≠ b) →
    ∃ t, allocate slot s = some t ∧ blockOf t b = ⟨.used, none, slot⟩ ∧
      pageOf t slot = { pageOf s slot with
        firstBlock := if (pageOf s slot).blockCount = 0 then b else (pageOf s slot).firstBlock
        lastBlock := b, blockCount := (pageOf s slot).blockCount + 1, bytesUsed := 0 } ∧
      ((pageOf s slot).blockCount ≠ 0 → (pageOf s slot).lastBlock < s.store.blocks.length →
        blockOf t (pageOf s slot).lastBlock = { blockOf s (pageOf s slot).lastBlock with next := some b }) ∧
      (∀ c, c ≠ b → (pageOf s slot).blockCount = 0 ∨ c ≠ (pageOf s slot).lastBlock → blockOf t c = blockOf s c) ∧
      (∀ p, p ≠ slot → pageOf t p = pageOf s p) ∧ freeBlocks t + 1 = freeBlocks s ∧
      t.store.low = (s.store.low || decide (freeBlocks t < s.settings.lowWater)) ∧
      t.store.documents = s.store.documents ∧ t.dram = s.dram ∧ t.jobs = s.jobs ∧ t.settings = s.settings) ∧
  (∀ (b : Nat) (s : State), b < s.store.blocks.length →
    blockOf (freeBlock b s) b =
      ⟨if (blockOf s b).state = .used then .free else if (blockOf s b).state = .suspect then .bad else (blockOf s b).state,
       none, (blockOf s b).owner⟩ ∧
    (∀ c, c ≠ b → blockOf (freeBlock b s) c = blockOf s c) ∧
    (freeBlock b s).store.low = (s.store.low && !decide (s.settings.lowWater + 8 < freeBlocks (freeBlock b s))) ∧
    (freeBlock b s).store.pages = s.store.pages ∧ (freeBlock b s).store.documents = s.store.documents ∧
    (freeBlock b s).events = s.events ∧ (freeBlock b s).dram = s.dram)

/-- R7: a page start is refused for DOC-PAGES, PAGES and BLOCKS in that order, and otherwise takes the lowest EMPTY page slot,
FILLING, and its first block, at the end of the document's list. -/
def Obligations.PageStartChecks : Prop :=
  ∀ (n : Nat) (r : Resolution) (w : PageWidth) (far : Bool) (s : State),
    (64 ≤ (docOf s n).pages.length → startPage n r w far s = .error .docPages) ∧
    ((docOf s n).pages.length < 64 → (∀ p ∈ s.store.pages, p.state ≠ .empty) → startPage n r w far s = .error .pages) ∧
    (∀ slot, (docOf s n).pages.length < 64 → lowestEmptyPage s = some slot → lowestFree s = none →
      startPage n r w far s = .error .blocks) ∧
    (∀ slot b, (docOf s n).pages.length < 64 → lowestEmptyPage s = some slot → lowestFree s = some b →
      1 ≤ n → n ≤ s.store.documents.length →
      ∃ t, startPage n r w far s = .ok (slot, t) ∧
        pageOf t slot = ⟨.filling, n, b, b, 1, 0, 0, 0, r, w, 0, 0, 0, far, 0, 0, false, false⟩ ∧
        (docOf t n).pages = (docOf s n).pages ++ [slot] ∧ blockOf t b = ⟨.used, none, slot⟩)

/-- R1, R8: bytes written to the page DRAM read back, every other byte reads as before, and the DRAM keeps its canonical form. -/
def Obligations.DramReadsBack : Prop :=
  ∀ (a : Nat) (bs : List Byte) (s : State), s.dramWf →
    (storeBytes a bs s).dramWf ∧
    ∀ x, dramByte (storeBytes a bs s).dram x =
      if a ≤ x ∧ x < a + bs.length then bs.getD (x - a) 0 else dramByte s.dram x

/-- R1, R8, R171: every step keeps the page DRAM in its canonical form. -/
def Obligations.DramWfKept : Prop :=
  ∀ s t : State, s.dramWf → step s = .next t → t.dramWf

/-- R24, R25, R26, R29: the commands on documents, when their checks pass: the document created, closed, deleted with its pages,
one page dropped; no USED or SUSPECT block of a removed page remains. When a check fails, the refusal: BAD-PARAM before NO-ROOM for
DOC-CREATE (log 92, DEDUCED), NO-SUCH for what names no document or page (section 1.11), BUSY for an OPEN document with a writer, and
for one with users or a FILLING page. -/
def Obligations.DocumentCommandsAct : Prop :=
  ∀ s : State,
    (∀ (o r w : Byte) (o' : Origin) (r' : Resolution) (w' : PageWidth) (n : Nat), takes (.docCreate o r w) s = true →
      Origin.ofCode o.toNat = some o' → Resolution.ofCode r.toNat = some r' → PageWidth.ofCode w.toNat = some w' →
      lowestEmptyDocument s = some n →
      exec (.docCreate o r w) s =
        replied 0x10 (be1 n) (onDoc n (fun _ => ⟨.opened, o', [], r', w', none, 0, false⟩) (releaseCommand s))) ∧
    (∀ d : Byte, takes (.docClose d) s = true → docExists s d.toNat = true →
      (docOf s d.toNat).state = .closed ∨ (docOf s d.toNat).writer = none →
      exec (.docClose d) s =
        replied 0x11 [] (advance (onDoc d.toNat (fun x => { x with state := .closed }) (releaseCommand s)))) ∧
    (∀ d : Byte, takes (.docDelete d) s = true → docExists s d.toNat = true → (docOf s d.toNat).users = 0 →
      (∀ p ∈ (docOf s d.toNat).pages, (pageOf s p).state ≠ .filling) →
      exec (.docDelete d) s = replied 0x12 [] (advance (deleteDocument d.toNat (releaseCommand s))) ∧
      docOf (deleteDocument d.toNat s) d.toNat = .blank ∧
      ∀ p ∈ (docOf s d.toNat).pages, pageOf (deleteDocument d.toNat s) p = .blank ∧
        ownedBlocks (deleteDocument d.toNat s) p = []) ∧
    (∀ (d i : Byte) (slot : Nat), takes (.pageDrop d i) s = true → namedPage s d.toNat i.toNat = some slot →
      (docOf s d.toNat).users = 0 → (∀ p ∈ (docOf s d.toNat).pages, (pageOf s p).state ≠ .filling) →
      exec (.pageDrop d i) s = replied 0x16 [] (advance (erasePage slot (releaseCommand s))) ∧
      pageOf (erasePage slot s) slot = .blank ∧ ownedBlocks (erasePage slot s) slot = []) ∧
    (∀ o r w : Byte, takes (.docCreate o r w) s = true →
      (2 < o.toNat ∨ 2 < r.toNat ∨ 1 < w.toNat → exec (.docCreate o r w) s = refused 0x10 .badParam s) ∧
      (o.toNat ≤ 2 → r.toNat ≤ 2 → w.toNat ≤ 1 → (∀ d ∈ s.store.documents, d.state ≠ .empty) →
        exec (.docCreate o r w) s = refused 0x10 .noRoom s)) ∧
    (∀ d i : Byte,
      let absent := d.toNat = 0 ∨ 32 < d.toNat ∨ (docOf s d.toNat).state = .empty
      let pages := (docOf s d.toNat).pages
      let used := 0 < (docOf s d.toNat).users ∨ ∃ p ∈ pages, (pageOf s p).state = .filling
      (docExists s d.toNat = true ↔ ¬absent) ∧
      (∀ slot, namedPage s d.toNat i.toNat = some slot ↔ ¬absent ∧ i.toNat ≠ 0 ∧ pages[i.toNat - 1]? = some slot) ∧
      (takes (.docClose d) s = true →
        (absent → exec (.docClose d) s = refused 0x11 .noSuch s) ∧
        (¬absent → (docOf s d.toNat).state = .opened → (docOf s d.toNat).writer.isSome = true →
          exec (.docClose d) s = refused 0x11 .busy s)) ∧
      (takes (.docDelete d) s = true →
        (absent → exec (.docDelete d) s = refused 0x12 .noSuch s) ∧
        (¬absent → used → exec (.docDelete d) s = refused 0x12 .busy s)) ∧
      (takes (.docInfo d) s = true → absent → exec (.docInfo d) s = refused 0x13 .noSuch s) ∧
      (takes (.pageInfo d i) s = true → absent ∨ i.toNat = 0 ∨ pages.length < i.toNat →
        exec (.pageInfo d i) s = refused 0x15 .noSuch s) ∧
      (takes (.pageDrop d i) s = true →
        (absent ∨ i.toNat = 0 ∨ pages.length < i.toNat → exec (.pageDrop d i) s = refused 0x16 .noSuch s) ∧
        (¬absent → i.toNat ≠ 0 → i.toNat ≤ pages.length → used → exec (.pageDrop d i) s = refused 0x16 .busy s)))

/-! ## Records and reception (02_line_records_and_span_coding.md) -/

/-- R36, R44, R38: the record the span coder makes of a line expands to that line, is no longer than the LITERAL, and is
delimited by the receiver at its own last byte, whatever follows it. -/
def Obligations.CodedLineExpands : Prop :=
  ∀ (w : PageWidth) (previous l : Line) (rest : List Byte), l.length = w.dots →
    expandRecord w previous (codeLine w previous l) = l ∧ (codeLine w previous l).length ≤ w.literalLength ∧
    receivedItem w (codeLine w previous l ++ rest) = some (.usable (codeLine w previous l) rest)

/-- R45: a 1728-dot line goes to the head unchanged; head dot j of a 2048-dot line is black exactly if a source dot from floor(j
× 2048 / 1728) to floor(((j + 1) × 2048 − 1) / 1728) is black. -/
def Obligations.HeadLineByRule : Prop :=
  (∀ l : Line, headLine .w1728 l = l) ∧
  (∀ l : Line, (headLine .w2048 l).length = 1728 ∧
    ∀ j, j < 1728 → ((headLine .w2048 l)[j]? = some true ↔
      ∃ i, j * 2048 / 1728 ≤ i ∧ i ≤ ((j + 1) * 2048 - 1) / 1728 ∧ l[i]? = some true))

/-- R37 to R43: what the LINK-IN channel does with the item at the front of its queue. A line is a usable record, a REPEAT that
conceals in place of an unusable one, or, its header naming no kind, the same after a BAD-RECORD count with the rest of the payload
discarded (R40). R8, R9, R39, R75: below the page's limit it is stored and committed, over two blocks where it does not fit in one,
and waits with RX-FULL where no block is FREE. R42: at the limit it is dropped. R43: in NO-PAGE it is dropped for the job, in
DISCARDING for page and job (log 45 for a page gone from under the channel). R41: a PAGE-END ends the page begun, if any; a PAGE-BEGIN does so first and asks for a page start,
and a refusal meets RX-FULL. What cannot be delimited costs the rest of the payload and a count. At a page start the job's current
page is the index of that page, and as a page ends the index that the next page takes (log 46, DEDUCED; log 93, DESIGN CHOICE, for a
page removed under its writer), and a page ended normally counts in pages done (R74). -/
def Obligations.ReceivedItemsTaken : Prop :=
  ∀ (k : Nat) (j : Job) (c : LinkIn) (s : State), channelTakes s = true → reception s = some (k, j, c) →
    let line := fun (i : Instr) (record : List Byte) (conceals : Bool) (u : State) =>
      (∃ rest, i = .receivedLineRecord ∧ headItem s = some (.usable record rest) ∧ conceals = false ∧ u = takeItem rest s) ∨
      (∃ rest, i = .receivedLineRecord ∧ headItem s = some (.unusable rest) ∧ record = [0x01] ∧ conceals = true ∧
        u = takeItem rest s) ∨
      (i = .undelimitableItem ∧ headItem s = some (.lost true) ∧ record = [0x01] ∧ conceals = true ∧
        u = linkFault .badRecord (takeItem [] s))
    let ended := fun (u v : State) =>
      (c.reception = .noPage ∧ v = u) ∨
      (c.reception ≠ .noPage ∧ c.slot = none ∧ v = onJob k (Job.receivedPage false ((docOf s j.document).pages.length + 1))
        (onLinkIn (fun x => { x with reception := .noPage, slot := none, held := none }) u)) ∨
      (∃ slot, c.reception ≠ .noPage ∧ c.slot = some slot ∧
        v = onJob k (Job.receivedPage (decide ((pageOf s slot).state = .filling)) ((docOf s j.document).pages.length + 1))
          (onLinkIn (fun x => { x with reception := .noPage, slot := none, held := none }) (endPageNormally slot u)))
    (∀ i record conceals u slot, line i record conceals u → c.reception = .receiving → c.slot = some slot →
      (pageOf s slot).committed < s.settings.pageLineLimit →
      let first := putBytes slot record u
      let left := record.drop (2048 - (pageOf s slot).bytesUsed)
      (left = [] → exec i s = .next (settle (advance (commitRecord slot conceals first.1)))) ∧
      (∀ v, left ≠ [] → record.length ≤ 2048 → allocate slot first.1 = some v →
        exec i s = .next (settle (advance (commitRecord slot conceals (putBytes slot left v).1)))) ∧
      (left ≠ [] → allocate slot first.1 = none →
        exec i s = .next (settle (advance (meetRxFull k .blocks (addWaiter .linkRecord
          (onLinkIn (fun x => { x with reception := .waiting, held := some ⟨left, conceals⟩ })
            (onPage slot (fun p => { p with part := record.length - left.length }) first.1)))))))) ∧
    (∀ i record conceals u slot, line i record conceals u → c.reception = .receiving → c.slot = some slot →
      s.settings.pageLineLimit ≤ (pageOf s slot).committed →
      exec i s = .next (settle (advance (dropAtLimit slot u)))) ∧
    (∀ i record conceals u, line i record conceals u → c.reception = .noPage ∨ c.slot = none →
      exec i s = .next (settle (advance (dropJobLine k u)))) ∧
    (∀ i record conceals u slot, line i record conceals u → c.reception = .discarding → c.slot = some slot →
      exec i s = .next (settle (advance (dropJobLine k (dropPageLine slot u))))) ∧
    (∀ rest v, headItem s = some (.pageEnd rest) → ended (takeItem rest s) v →
      exec .receivedPageEnd s = .next (settle (advance v))) ∧
    (∀ r w rest v slot t, headItem s = some (.pageBegin r w rest) → ended (takeItem rest s) v →
      startPage j.document r w false v = .ok (slot, t) →
      exec .receivedPageBegin s = .next (settle (advance
        (onJob k (fun x => { x with currentPage := (docOf t j.document).pages.length })
          (onLinkIn (fun x => { x with reception := .receiving, width := w, slot := some slot }) t))))) ∧
    (∀ r w rest v reason, headItem s = some (.pageBegin r w rest) → ended (takeItem rest s) v →
      startPage j.document r w false v = .error reason →
      exec .receivedPageBegin s = .next (settle (advance (meetRxFull k reason v)))) ∧
    (headItem s = some (.lost false) →
      exec .undelimitableItem s = .next (settle (advance (linkFault .badRecord (takeItem [] s)))))

/-! ## Jobs (03_work_orders.md) -/

/-- R48, R49, R51, R52: JOB-START, its checks passed: the job takes the lowest free slot and an id that no job holds, joins the
wait lists of its engines, and the grant rule is applied. R51: its checks are made in order, and the first that fails gives the
reply; where none fails the start is taken. Log 32 (DEDUCED): an option byte above 3 is refused with the parameters. -/
def Obligations.JobStartTakesSlot : Prop :=
  ∀ (a b c d e f g h : Byte) (s : State), takes (.jobStart a b c d e f g h) s = true →
    let i : Instr := .jobStart a b c d e f g h
    let p : StartParams := ⟨a.toNat, b.toNat, c.toNat, d.toNat, e.toNat, f.toNat, g.toNat, h.toNat⟩
    (∀ (kind : JobKind) (k : Nat), JobKind.ofCode p.kind = some kind → p.badParam kind = false → startChecks p kind s = .ok k →
      s.jobs.slots.length = 4 →
      exec i s = replied 0x20 (be1 (freeId s) ++ be1 k) (advance (fillSlot k (newJob p kind s) (releaseCommand s))) ∧
      jobIn s k = none ∧ (∀ i, i < k → (jobIn s i).isSome = true) ∧
      1 ≤ freeId s ∧ freeId s ≤ 255 ∧ slotOfId s (freeId s) = none ∧
      jobIn (fillSlot k (newJob p kind s) s) k = some (newJob p kind s) ∧ (newJob p kind s).state = .waiting ∧
      (newJob p kind s).id = freeId s) ∧
    (4 < a.toNat → exec i s = refused 0x20 .badParam s) ∧
    (∀ kind : JobKind, JobKind.ofCode a.toNat = some kind →
      let scans := kind = .scan ∨ kind = .copy
      let prints := kind = .print ∨ kind = .copy
      let ranged := kind = .print ∨ kind = .send
      let hold := d.toNat % 2 = 1
      let freeAsRead := d.toNat / 2 % 2 = 1
      let doc := docOf s b.toNat
      let first := if f.toNat = 0 then 1 else f.toNat
      let bad := 3 < c.toNat ∨ (scans ∧ 1 < e.toNat) ∨ (prints ∧ h.toNat = 0) ∨ 3 < d.toNat ∨
        (freeAsRead ∧ (kind = .scan ∨ kind = .receive)) ∨ (hold ∧ kind = .receive) ∨ (freeAsRead ∧ prints ∧ 1 < h.toNat)
      let full := ∀ x ∈ s.jobs.slots, x.isSome = true
      let absent := b.toNat = 0 ∨ 32 < b.toNat ∨ doc.state = .empty
      let writing := (scans ∨ kind = .receive) ∧ (doc.state ≠ .opened ∨ doc.writer.isSome = true ∨ (kind = .copy ∧ doc.pages ≠ []))
      let tight := kind = .copy ∧ freeAsRead ∧ freeBlocks s < 4
      let badRange := ranged ∧ (64 < first ∨ 64 < g.toNat ∨ (g.toNat ≠ 0 ∧ g.toNat < first) ∨
        (doc.state = .closed ∧ (doc.pages.length < first ∨ doc.pages.length < g.toNat)))
      (bad → exec i s = refused 0x20 .badParam s) ∧
      (¬bad → full → exec i s = refused 0x20 .noRoom s) ∧
      (¬bad → ¬full → absent → exec i s = refused 0x20 .noSuch s) ∧
      (¬bad → ¬full → ¬absent → writing → exec i s = refused 0x20 .busy s) ∧
      (¬bad → ¬full → ¬absent → ¬writing → tight → exec i s = refused 0x20 .noRoom s) ∧
      (¬bad → ¬full → ¬absent → ¬writing → ¬tight → badRange → exec i s = refused 0x20 .badParam s) ∧
      (¬bad → ¬full → ¬absent → ¬writing → ¬tight → ¬badRange →
        p.badParam kind = false ∧ ∃ k, startChecks p kind s = .ok k))

/-- R57, R58, R59, R61, R64, R74, R78: the commands on a job, when their checks pass. R55, R59: a JOB-RESUME with the comparison
due makes it, a reading job with no page left ending instead. SEND-CREDIT's reply is the sum before the records it lets the job
place (log 55). R64: an accepted choice is carried out with the job RUNNING; one that would step a motor under an open cover sends the
job back to its boundary (log 23 for which choices would), and a RETRY that finds no sheet leaves it there. When a check fails, the
refusal: NO-SUCH for an id that no slot holds, BUSY for a job in another state than the command asks for, BAD-PARAM for a SEND-CREDIT
to another kind, and for a choice that the code does not list, REPEAT of a free-as-read job, or WAIT at SC-FULL for DOC-PAGES (log 92, DEDUCED: the
refusal that a rule names first is the one given). -/
def Obligations.JobCommandsAct : Prop :=
  (∀ (id : Byte) (k : Nat) (j : Job) (s : State), namedJob s id.toNat = some (k, j) →
    (takes (.jobHold id) s = true → j.state = .running →
      exec (.jobHold id) s = replied 0x22 [] (advance (onJob k (fun x => if jobRests s k = true
        then { x with state := .held, pendingStop := none }
        else { x with state := .holding, pendingStop := some .hold }) (releaseCommand s)))) ∧
    (takes (.jobResume id) s = true → j.state = .held →
      let u := onJob k (fun x => { x with state := .running, compareDue := false }) (releaseCommand s)
      (j.compareDue = false → exec (.jobResume id) s = replied 0x23 [] (advance u)) ∧
      (j.compareDue = true → j.kind = .scan → exec (.jobResume id) s = replied 0x23 [] (advance (compareAtPageEnd k u))) ∧
      (j.compareDue = true → j.kind ≠ .scan →
        exec (.jobResume id) s = replied 0x23 [] (advance (compareAtPageEnd k (endIfDone k u))))) ∧
    (takes (.jobAbort id) s = true →
      exec (.jobAbort id) s = replied 0x24 [] (advance (endJob k .aborted (releaseCommand s))) ∧
      jobIn (endJob k .aborted s) k = none) ∧
    (∀ (n : BitVec 16) (faults : ParityFaults), takes (.sendCredit id ⟨n, faults⟩) s = true → j.kind = .send →
      exec (.sendCredit id ⟨n, faults⟩) s = replied 0x26 (be2 (min 4095 (j.credit + n.toNat))) (advance
        (onJob k (fun x => { x with credit := min 4095 (x.credit + n.toNat)
                                    noCredit := x.noCredit && decide (min 4095 (x.credit + n.toNat) = 0) })
          { releaseCommand s with dramFaults := faults }))) ∧
    (∀ h : Byte, takes (.jobAnswer id h) s = true → Choice.ofCode h.toNat = some .finish → j.kind = .receive →
      exec (.jobAnswer id h) s = replied 0x21 [] (advance (endJob k .completed (releaseCommand s)))) ∧
    (∀ (h : Byte) (c : Choice) (b : Boundary), takes (.jobAnswer id h) s = true → Choice.ofCode h.toNat = some c →
      (j.kind ≠ .receive ∨ c ≠ .finish) → j.state = .boundary → j.boundary = some b → badChoice j b c = false →
      exec (.jobAnswer id h) s = replied 0x21 [] (takeAnswer k j b c (releaseCommand s)) ∧
      (s.levels.coverOpen = true → choiceMoves s k j b c = true → takeAnswer k j b c s = raiseJob k none s) ∧
      (b.code = .scJam → c = .retry → s.levels.docEntry = false → takeAnswer k j b c s = s) ∧
      (s.levels.coverOpen = false ∨ choiceMoves s k j b c = false → ¬(b.code = .scJam ∧ c = .retry ∧ s.levels.docEntry = false) →
        takeAnswer k j b c s = advance (carryChoice k j b c (onJob k (fun x => { x with state := .running, boundary := none }) s))))) ∧
  (∀ (id h : Byte) (credit : CreditGrant) (s : State), namedJob s id.toNat = none →
    (takes (.jobHold id) s = true → exec (.jobHold id) s = refused 0x22 .noSuch s) ∧
    (takes (.jobResume id) s = true → exec (.jobResume id) s = refused 0x23 .noSuch s) ∧
    (takes (.jobAbort id) s = true → exec (.jobAbort id) s = refused 0x24 .noSuch s) ∧
    (takes (.jobAnswer id h) s = true → exec (.jobAnswer id h) s = refused 0x21 .noSuch s) ∧
    (takes (.jobStatus id) s = true → exec (.jobStatus id) s = refused 0x25 .noSuch s) ∧
    (takes (.sendCredit id credit) s = true → exec (.sendCredit id credit) s = refused 0x26 .noSuch s)) ∧
  (∀ (id h : Byte) (credit : CreditGrant) (k : Nat) (j : Job) (s : State), namedJob s id.toNat = some (k, j) →
    let choice := Choice.ofCode h.toNat
    (takes (.jobHold id) s = true → j.state ≠ .running → exec (.jobHold id) s = refused 0x22 .busy s) ∧
    (takes (.jobResume id) s = true → j.state ≠ .held → exec (.jobResume id) s = refused 0x23 .busy s) ∧
    (takes (.sendCredit id credit) s = true → j.kind ≠ .send → exec (.sendCredit id credit) s = refused 0x26 .badParam s) ∧
    (takes (.jobAnswer id h) s = true → j.kind ≠ .receive ∨ choice ≠ some .finish →
      (j.state ≠ .boundary → exec (.jobAnswer id h) s = refused 0x21 .busy s) ∧
      (∀ b, j.state = .boundary → j.boundary = some b →
        6 < h.toNat ∨ (∃ c, choice = some c ∧ (c ∉ b.code.choices ∨ (c = .repeatPage ∧ j.freeAsRead = true) ∨
          (c = .wait ∧ b.reason = some .docPages))) →
        exec (.jobAnswer id h) s = refused 0x21 .badParam s)))

/-- R14, R76, R197: a DATA-OUT frame has been sent whole: the next frame begins, and its lines are consumed for the job that
handed it, with its PAGE-END the page, which the reader then leaves (log 13); where the job has ended, LINK-OUT falls free. -/
def Obligations.DataOutFrameSent : Prop :=
  ∀ (faults : ParityFaults) (o : OutFrame) (s : State), receiverRuns s = true → s.link.sending = some .dataOut →
    s.link.dataOut = some o →
    (let u : State := { s with
       dramFaults := faults
       link := { s.link with dataOut := none, sending := if s.link.reply.isSome then some .reply else none } }
     (o.job = none → exec (.dataOutSent faults) s = .next (settle (advance (endOp .linkOut .frameSending u)))) ∧
     (∀ k, o.job = some k → o.pageEnd = false →
       exec (.dataOutSent faults) s = .next (settle (advance (consumeLines .link o.lines.length u)))) ∧
     (∀ k, o.job = some k → o.pageEnd = true →
       exec (.dataOutSent faults) s = .next (settle (advance (setSend (fun x => { x with phase := .pageSent })
         (onJob k (fun j => { j with pagesDone := min 65535 (j.pagesDone + 1) })
           (leavePage .link (consumeLines .link o.lines.length u))))))))

/-! ## The scanning path (04_the_scanning_path.md) -/

/-- R88, R90, R92, R93: a scan line: its entry admitted with its slot RESERVED, the line captured and binarized, coded, and
taken by SCAN-IN. R8, R9: the record is stored in the page's last block, or over two blocks where it does not fit; where no block is
FREE, SCAN-IN waits with the rest, and a SCAN meets SC-FULL in mid-page with reason BLOCKS (R65, R67). R42, R22: a line is
dropped at the page's limit for page and job, and on a DAMAGED page for the page (log 22). -/
def Obligations.ScanLineGoesThrough : Prop :=
  ∀ s : State,
    (lineEntryDue s = true →
      exec .scanLineEntryAdmit s = .next (settle (advance (admitScanLine s))) ∧
      (admitScanLine s).mech.scanFeed.queue = s.mech.scanFeed.queue ++ [scanEntry s s.scan.sheet.nextLine] ∧
      (admitScanLine s).scan.sheet.nextLine = s.scan.sheet.nextLine + 1 ∧
      ∃ i : Nat, s.scan.slots[i]? = some .free ∧ (∀ j, j < i → s.scan.slots[j]? ≠ some .free) ∧
        (admitScanLine s).scan.slots = s.scan.slots.set i (.reserved s.scan.sheet.nextLine)) ∧
    (∀ (raw : List Byte) (c : Capture), s.scan.capture = some c → c.since + scanTime (scanPageOf s).width ≤ s.now →
      exec (.scanLineCaptured raw) s = .next (settle { s with scan := { s.scan with
        capture := none, background := (binarize s c.line raw).2
        slots := replaceFirst (LineSlot.isReserved c.line) (.captured c.line (binarize s c.line raw).1) s.scan.slots } })) ∧
    (∀ (c : Coder) (image : Line), codable s = some (c, image) →
      exec .spanCodeLine s = .next (settle { s with scan := { s.scan with
        coder := some ⟨image, c.line + 1⟩
        slots := replaceFirst (fun v => (v.capturedLine c.line).isSome)
          (.coded c.line (codeLine (scanPageOf s).width c.previous image) false) s.scan.slots } })) ∧
    (∀ (n slot : Nat) (record : List Byte), takeable s = some (n, record) → s.store.scanIn.slot = some slot →
      (pageOf s slot).state = .filling → (pageOf s slot).committed < s.settings.pageLineLimit →
      (pageOf s slot).bytesUsed + record.length ≤ 2048 →
      exec .scanInTakeRecord s =
        .next (settle (advance (onUntaken .free (commitRecord slot false (putBytes slot record s).1))))) ∧
    (∀ (n slot : Nat) (record : List Byte), takeable s = some (n, record) → s.store.scanIn.slot = some slot →
      (pageOf s slot).state = .filling → (pageOf s slot).committed < s.settings.pageLineLimit →
      let first := putBytes slot record s
      let left := record.drop (2048 - (pageOf s slot).bytesUsed)
      (∀ v, left ≠ [] → record.length ≤ 2048 → allocate slot first.1 = some v →
        exec .scanInTakeRecord s =
          .next (settle (advance (onUntaken .free (commitRecord slot false (putBytes slot left v).1))))) ∧
      (left ≠ [] → allocate slot first.1 = none →
        ∃ u, exec .scanInTakeRecord s = .next (settle (advance u)) ∧ u.store.scanIn = ⟨some slot, some ⟨left, false⟩⟩ ∧
          u.store.waiters = s.store.waiters ++ [.scanRecord] ∧ u.dram = first.1.dram ∧
          u.scan.slots = replaceFirst (fun x => x.untaken.isSome) (.coded n record true) s.scan.slots ∧
          u.store.pages = modifyAt slot (fun p => { p with part := record.length - left.length }) first.1.store.pages)) ∧
    (∀ (k : Nat) (j : Job), scanJob s = some (k, j) → j.kind = .scan → j.state = .running →
      s.store.scanIn.held.isSome = true → s.scan.waitAnswered = false →
      let b : Boundary := ⟨.scFull, some FullReason.blocks.reason, some true⟩
      ∃ t, midPageRule k j s = some t ∧ (jobIn t k).map Job.state = some (if jobRests s k then .boundary else .holding) ∧
        (jobRests s k = true → (jobIn t k).bind Job.boundary = some b) ∧
        (jobRests s k = false → (jobIn t k).bind Job.pendingStop = some (.code b))) ∧
    (∀ (n slot : Nat) (record : List Byte), takeable s = some (n, record) → s.store.scanIn.slot = some slot →
      (s.settings.pageLineLimit ≤ (pageOf s slot).committed →
        exec .scanInTakeRecord s = .next (settle (advance (onUntaken .free (dropAtLimit slot s))))) ∧
      ((pageOf s slot).committed < s.settings.pageLineLimit → (pageOf s slot).state ≠ .filling →
        exec .scanInTakeRecord s = .next (settle (advance (onUntaken .free (dropPageLine slot s))))))

/-- R83, R96, R97: the lamp is warm after 100 ms, and a calibration that waits for it begins its white lines; SCAN-CALIBRATE begins
with the dark lines, and from STANDBY brings ACTIVE (R146), the first timed samples due 10 ms later (log 88, DESIGN CHOICE); in ACTIVE it sets the idle count to 0 (R147); after 8 lines of each stage the lamp is switched on, or the tables are
installed. R96: while the SCANNER is held, or DOC-READ shows a sheet, SCAN-CALIBRATE is BUSY. -/
def Obligations.LampAndCalibration : Prop :=
  ∀ s : State,
    (∀ t0, s.scan.lamp = ⟨some t0, false⟩ → t0 + 100000 ≤ s.now →
      ((∀ c, s.scan.calibration = some c → c.stage ≠ .warming) →
        exec .lampWarm s = .next (settle (advance { s with scan := { s.scan with lamp := ⟨some t0, true⟩ } }))) ∧
      (∀ c, s.scan.calibration = some c → c.stage = .warming →
        exec .lampWarm s = .next (settle (advance { s with scan := { s.scan with
          lamp := ⟨some t0, true⟩, calibration := some { c with stage := .white, since := s.now } } })))) ∧
    (takes .scanCalibrate s = true → s.jobs.holders.scanner = .free → s.levels.docRead = false →
      (let u : State := { releaseCommand s with
         jobs := { s.jobs with holders := { s.jobs.holders with scanner := .internal [.calibrate] } }
         scan := { s.scan with
           calibration := some ⟨.dark, 0, List.replicate 1728 0, List.replicate 1728 0, s.now, false⟩ } }
       (s.power.mode = .active →
         exec .scanCalibrate s = replied 0x30 [] { u with power := { s.power with idleFrom := none } }) ∧
       (s.power.mode = .standby → s.power.headSince = none →
         exec .scanCalibrate s = replied 0x30 [] { u with
           power := { s.power with
             mode := .active, idleFrom := none, headSince := if s.levels.coverOpen then none else some s.now }
           energy := { s.energy with lastTimed := some s.now } }))) ∧
    (takes .scanCalibrate s = true → s.jobs.holders.scanner ≠ .free ∨ s.levels.docRead = true →
      exec .scanCalibrate s = refused 0x30 .busy s) ∧
    (∀ (raw : List Byte) (c : Calibration), s.scan.calibration = some c → c.stage ≠ .warming → c.since + 1808 ≤ s.now →
      (let sums := (c.sums.zip raw).map (fun p => p.1 + p.2.toNat)
       (c.lines < 7 →
         exec (.calibrationCaptureEnd raw) s = .next (settle (advance { s with scan := { s.scan with
           calibration := some { c with lines := c.lines + 1, sums := sums, since := s.now } } }))) ∧
       (c.lines = 7 → c.stage = .dark → s.scan.lamp = ⟨none, false⟩ →
         exec (.calibrationCaptureEnd raw) s = .next (settle (advance { s with scan := { s.scan with
           lamp := ⟨some s.now, false⟩
           calibration := some ⟨.warming, 0, List.replicate 1728 0, sums, s.now, c.startUp⟩ } }))) ∧
       (c.lines = 7 → c.stage = .white →
         exec (.calibrationCaptureEnd raw) s = .next (settle (advance
           (installCalibration (c.darkSums.map (fun n => n / 8)) (sums.map (fun n => n / 8)) s))))))

/-! ## Print energy (05_print_energy.md) -/

/-- R106 to R113: the plan of a line: its phases take every head block with black dots once and in order, carry every black dot
of the line, and hold to DOT-LIMIT; no subpulse pair exceeds WMAX; and the steps' I_req covers the line time, 220 microseconds
at least. -/
def Obligations.LinePlanHolds : Prop :=
  ∀ (g : Settings) (l history : Line) (thermistor supply steps : Nat),
    l.length = 1728 → history.length = 1728 → 216 ≤ g.dotLimit → g.historyH ≤ 16 → 0 < steps →
    (let plan := planLine g l history thermistor supply steps
     (plan.phases.map Phase.blocks).flatten = (List.range 8).filter (fun b => decide (0 < blackCount (headBlock l b))) ∧
     (plan.phases.map Phase.dots).sum = blackCount l ∧
     (plan.phases.map Phase.newDots).sum = newDots l history ∧
     (∀ p ∈ plan.phases, 0 < p.dots ∧ p.dots ≤ g.dotLimit ∧ p.s1 + p.s2 ≤ g.wmax ∧ p.newDots ≤ p.dots ∧
       (p.fireS2 = true → 0 < p.newDots)) ∧
     220 ≤ lineTime plan.phases ∧ (plan.phases.map Phase.time).sum ≤ lineTime plan.phases ∧
     lineTime plan.phases ≤ plan.ireq * steps ∧ plan.ireq * steps < lineTime plan.phases + steps)

/-- R103, R104, R105, R114, R115, R116: the head's events: the settling ends in READY; a timed pair of samples is taken; an
offer works out and admits the next line, the one pending or the next stored line read, reduced and split (R45, R46), unless a hold
is SET, when the history line stays as it stood (log 81, DESIGN CHOICE); a subpulse, first or second, ends by the plan or at 4000 microseconds, a gap leads to the next phase, and the last of a line
strobes it. R13, R19, R20, R21, R44: the reading of a stored record by either reader: expanded and handed on, an error of its first
read alone counted as recovered; concealed where it fails twice, the page cut behind it where its header or a RUNS body fails
(log 15), a byte behind a header that fails counting like any other (log 77); a chain fault where it is malformed (log 66 for the block
it ends in) or its chain ends, and where the page's first block is bad when it is first read, which leaves the page a block count of 0
(log 16, DEDUCED); a block followed at the end of the one before. -/
def Obligations.HeadEventsAct : Prop :=
  ∀ s : State,
    (∀ t0, s.energy.ready = false → s.power.headSince = some t0 → t0 + 50000 ≤ s.now →
      exec .headReady s = .next (settle { s with energy := { s.energy with ready := true } })) ∧
    (∀ (c v : Byte) (t0 : Nat), s.power.mode = .active → s.energy.lastTimed = some t0 → t0 + 10000 ≤ s.now →
      (∃ u, exec (.converterTimedSample c v) s = .next (settle (advance u)) ∧ u.energy.thermistor = c.toNat ∧
        u.energy.supply = v.toNat ∧ u.energy.lastTimed = some s.now ∧
        u.energy.thermalHold = (decide (s.settings.hotLimit ≤ c.toNat) ||
          (s.energy.thermalHold && decide (s.settings.resumeLimit < c.toNat))) ∧
        (s.energy.ready = true → u.energy.supplyHold = (decide (v.toNat < 3 * s.settings.vnom / 4) ||
          (s.energy.supplyHold && decide (v.toNat < 7 * s.settings.vnom / 8)))) ∧
        (s.energy.ready = false → u.energy.supplyHold = s.energy.supplyHold))) ∧
    (∀ (c v : Byte) (faults : ParityFaults) (l : StoredLine), offerDue s = true → s.jobs.print.line = some l →
      (let u := takeSamples c v { s with dramFaults := faults }
       exec (.printLineOffer c v faults) s = .next (settle (advance
         (if u.energy.thermalHold || u.energy.supplyHold then u else admitLine l u))))) ∧
    (∀ (c v : Byte) (faults : ParityFaults) (slot : Nat), offerDue s = true → s.jobs.print.line = none →
      s.store.printOut.slot = some slot →
      (let f : State := { s with dramFaults := faults }
       let read := readLineOf .print f
       (read.store.printOut.readLine ≠ s.store.printOut.readLine + 1 →
         exec (.printLineOffer c v faults) s = .next (settle (advance read))) ∧
       (∀ x, read.store.printOut.readLine = s.store.printOut.readLine + 1 → read.store.printOut.inFlight.getLast? = some x →
         let p := pageOf s slot
         let l : StoredLine := ⟨slot, false, x.line, headLine p.width x.image, p.resolution.physicalLines, p.resolution.physicalSteps⟩
         let u := takeSamples c v (setPrint (fun y => { y with line := some l }) read)
         exec (.printLineOffer c v faults) s = .next (settle (advance
           (if u.energy.thermalHold || u.energy.supplyHold then u else admitLine l u)))))) ∧
    (∀ (o : Outlet) (slot : Nat), (readerOf s o).slot = some slot → slot < s.store.pages.length →
      let r := readerOf s o
      let w := (pageOf s slot).width
      let t := readLineOf o s
      (r.readAt.offset = 2048 →
        (∀ b, followed s slot r.readAt.block = some b →
          t = readLineOf o (onReader o (fun x => { x with readAt := ⟨b, 0, false⟩ }) s)) ∧
        (followed s slot r.readAt.block = none →
          (pageOf t slot).state = .damaged ∧ (pageOf t slot).committed = r.readLine ∧ (readerOf t o).ended = true)) ∧
      (r.readAt.offset ≠ 2048 → r.readAt.unchecked = true → blockGood s slot r.readAt.block = false →
        (pageOf t slot).state = .damaged ∧ (pageOf t slot).committed = r.readLine ∧ (pageOf t slot).blockCount = 0 ∧
        (readerOf t o).ended = true) ∧
      (r.readAt.offset ≠ 2048 → r.readAt.unchecked = false ∨ blockGood s slot r.readAt.block = true →
        let here : Cursor := { r.readAt with unchecked := false }
        let d := delimit s slot w here
        let failing := twiceFailing s.dramFaults d.bytes
        let recovered := if recoveredRead s.dramFaults d.bytes then min 65535 (s.store.recovered + 1) else s.store.recovered
        (∀ bs, failing = [] → d = .record bs →
          let record := bs.map ChainByte.value
          let image := expandRecord w r.lastRead record
          t.store.recovered = recovered ∧ t.store.pages = s.store.pages ∧ t.store.blocks = s.store.blocks ∧
          readerOf t o = { r with readLine := r.readLine + 1, readAt := placeAfter here bs, lastRead := image
                                  inFlight := r.inFlight ++ [⟨r.readLine, image, record, placeAfter here bs⟩] }) ∧
        (∀ bs, failing = [] → d = .malformed bs →
          t.store.recovered = recovered ∧ (pageOf t slot).state = .damaged ∧ (pageOf t slot).committed = r.readLine ∧
          (pageOf t slot).lastBlock = here.block ∧ (pageOf t slot).bytesUsed = here.offset ∧ (readerOf t o).ended = true) ∧
        (failing ≠ [] →
          let image := if r.readLine = 0 then blankLine w else r.lastRead
          let record : List Byte := if r.readLine = 0 then [0x00] else [0x01]
          let cut := failing.any (fun b => decide (some b.address = d.bytes.head?.map ChainByte.address)) ∨
            d.bytes.head?.map ChainByte.value = some 0x02
          let after := if cut then here else placeAfter here d.bytes
          (pageOf t slot).concealed = min 65535 ((pageOf s slot).concealed + 1) ∧
          (readerOf t o).readLine = r.readLine + 1 ∧ (readerOf t o).lastRead = image ∧
          (readerOf t o).inFlight = r.inFlight ++ [⟨r.readLine, image, record, after⟩] ∧
          (¬cut → (pageOf t slot).state = (pageOf s slot).state ∧ (pageOf t slot).committed = (pageOf s slot).committed ∧
            (readerOf t o).ended = r.ended ∧
            ∀ n, (blockOf s n).state = .used → n < s.store.blocks.length →
              (blockOf t n).state = if failing.any (fun b => decide (b.place.block = n)) then .suspect else .used) ∧
          (cut → (pageOf t slot).state = .damaged ∧ (pageOf t slot).committed = r.readLine + 1 ∧ (readerOf t o).ended = true)))) ∧
    (∀ (tag : LineTag) (image fresh : Line) (p : Phase) (rest : List Phase) (t0 : Nat),
      (s.energy.firing = some ⟨tag, image, fresh, p :: rest, .s1, t0⟩ →
        let next : State := { s with energy := { s.energy with
          firing := some ⟨tag, image, fresh, p :: rest, if p.fireS2 then .s2 else .gap, s.now⟩ } }
        (t0 + p.s1 ≤ s.now → exec .strobeSubpulseEnd s = .next (settle (advance next))) ∧
        (t0 + 4000 ≤ s.now → exec .headTimerLimit s = .next (settle (advance next)))) ∧
      (s.energy.firing = some ⟨tag, image, fresh, p :: rest, .s2, t0⟩ →
        let next : State := { s with energy := { s.energy with
          firing := some ⟨tag, image, fresh, p :: rest, .gap, s.now⟩ } }
        (t0 + p.s2 ≤ s.now → exec .strobeSubpulseEnd s = .next (settle (advance next))) ∧
        (t0 + 4000 ≤ s.now → exec .headTimerLimit s = .next (settle (advance next)))) ∧
      (s.energy.firing = some ⟨tag, image, fresh, p :: rest, .gap, t0⟩ → t0 + 20 ≤ s.now →
        (rest = [] → exec .strobeSubpulseEnd s =
          .next (settle (advance (lineStrobed tag { s with energy := { s.energy with firing := none } })))) ∧
        (rest ≠ [] → exec .strobeSubpulseEnd s = .next (settle (advance { s with energy := { s.energy with
          firing := some ⟨tag, image, fresh, rest, .s1, s.now⟩ } })))))

/-! ## Feed motion and paper handling (06_feed_motion_and_paper_handling.md) -/

/-- R122, R125, R126: the allowances: none exceeds its cap, each is at most one above the next, the last is 0, and they are the
largest that do so; so the level of every step lies within one of the level before it, and a motion can always be brought to
rest. -/
def Obligations.AllowancesHold : Prop :=
  (∀ (caps : List Nat) (i : Nat), i < caps.length →
    ∃ a, (allowances caps)[i]? = some a ∧ (i + 1 = caps.length → a = 0) ∧
      (∀ b, (allowances caps)[i + 1]? = some b → a = min (caps.getD i 0) (b + 1))) ∧
  (∀ (caps other : List Nat), other.length = caps.length →
    (∀ i, i < caps.length → other.getD i 0 ≤ caps.getD i 0) →
    (∀ i, i + 1 < caps.length → other.getD i 0 ≤ other.getD (i + 1) 0 + 1) → (other.getLast? = some 0 ∨ other = []) →
    ∀ i, i < caps.length → other.getD i 0 ≤ (allowances caps).getD i 0) ∧
  (∀ (f : Feed) (now : Nat), f.moving = true → f.queue ≠ [] → (∀ e ∈ f.queue, 0 < e.left ∧ e.left ≤ e.steps) →
    (f.stepped f.nextLevel now).allowances = f.allowances.tail) ∧
  (∀ (f : Feed) (now : Nat), f.moving = true → f.queue ≠ [] → (∀ e ∈ f.queue, 0 < e.left ∧ e.left ≤ e.steps) →
    f.level ≤ f.allowances.headD 0 + 1 →
    f.nextLevel ≤ f.level + 1 ∧ f.level ≤ f.nextLevel + 1 ∧
    (f.stepped f.nextLevel now).level ≤ (f.stepped f.nextLevel now).allowances.headD 0 + 1)

/-- R99, R141, R142: the commands that move a mechanism, when their checks pass: DOC-EJECT, PAPER-ADVANCE with its count, CUT
from the blade's state. R146: from STANDBY they bring ACTIVE, the first timed samples due 10 ms later (log 88, DESIGN CHOICE). R147: in ACTIVE they set the
idle count to 0. Each is BUSY while its engine is held or the cover open; a PAPER-ADVANCE
of 0 is BAD-PARAM, before that check (log 92, DEDUCED). -/
def Obligations.MechanismCommandsAct : Prop :=
  (∀ s : State, s.levels.coverOpen = false → s.power.mode = .active ∨ (s.power.mode = .standby ∧ s.power.headSince = none) →
    let u : State := { releaseCommand s with
      power := if s.power.mode = .active then { s.power with idleFrom := none } else
        { s.power with mode := .active, idleFrom := none, headSince := some s.now }
      energy := if s.power.mode = .active then s.energy else { s.energy with lastTimed := some s.now } }
    (takes .docEject s = true → s.jobs.holders.scanner = .free →
      exec .docEject s = replied 0x31 [] (advance { u with
        jobs := { s.jobs with holders := { s.jobs.holders with scanner := .internal [.eject] } }
        scan := { s.scan with eject := some ⟨false, false⟩, sheet := Sheet.none } })) ∧
    (∀ n : BitVec 16, takes (.paperAdvance n) s = true → s.jobs.holders.printer = .free → n ≠ 0 →
      exec (.paperAdvance n) s = replied 0x32 (be2 (min 15400 n.toNat)) { u with
        jobs := { s.jobs with holders := { s.jobs.holders with printer := .internal [.advance] } }
        mech := { s.mech with
          advanced := 0
          printFeed := { s.mech.printFeed with queue := s.mech.printFeed.queue ++
            [⟨.run .advance, min 15400 n.toNat, min 15400 n.toNat, 0, 15, false⟩] } } }) ∧
    (takes .cut s = true → s.jobs.holders.printer = .free →
      exec .cut s = replied 0x33 [] { u with
        jobs := { s.jobs with holders := { s.jobs.holders with printer := .internal [.cut] } }
        mech := { s.mech with cutter :=
          ⟨(match s.mech.cutter.state with
            | .idle => .leaving | .leaving => .leaving | .away => .returning | .returning => .returning), s.now⟩ } })) ∧
  (∀ (n : BitVec 16) (s : State),
    (takes .docEject s = true → s.jobs.holders.scanner ≠ .free ∨ s.levels.coverOpen = true →
      exec .docEject s = refused 0x31 .busy s) ∧
    (takes (.paperAdvance n) s = true →
      (n = 0 → exec (.paperAdvance n) s = refused 0x32 .badParam s) ∧
      (n ≠ 0 → s.jobs.holders.printer ≠ .free ∨ s.levels.coverOpen = true → exec (.paperAdvance n) s = refused 0x32 .busy s)) ∧
    (takes .cut s = true → s.jobs.holders.printer ≠ .free ∨ s.levels.coverOpen = true →
      exec .cut s = refused 0x33 .busy s))

/-- R124, R126, R127, R131: a motion begins with 10 ms of ENERGIZING from OFF and with its first step from RUN or HOLD; steps
follow at their levels and intervals, only the first step of an entry waiting for a line under way (log 30); after the rest interval
the motor rests at level 0. R82, R85, R86: an edge of DOC-READ that waits is placed at the scan feed's next step. R88, R114,
R116, R127, R130: the first step of a LINE entry begins the capture of a line of the page, or frees the slot of one that is not or is
FEED-ONLY; it begins the firing of a line with paper, consumes a white line at its last (log 29), and whitens the history of a FEED-ONLY
one; with the paper out it makes every queued line FEED-ONLY and the RUNNING job meets PR-PAPER (R70). -/
def Obligations.MotionsRun : Prop :=
  ∀ (m : Motor) (s : State),
    (motionDue s m = true → lineUnderWay s m = false → (feedOf s m).current = .off →
      exec (.motionBegin m) s = .next (settle (advance
        (onFeed m (fun f => { f with moving := true, current := .energizing, since := s.now }) s)))) ∧
    (motionDue s m = true → lineUnderWay s m = false → (feedOf s m).current = .run ∨ (feedOf s m).current = .hold →
      exec (.motionBegin m) s = .next (settle (advance (takeStep m 0
        (onFeed m (fun f => { f with moving := true, current := .run, since := s.now }) s))))) ∧
    ((feedOf s m).current = .energizing → (feedOf s m).since + 10000 ≤ s.now →
      exec (.energizingEnd m) s = .next (settle (advance (takeStep m 0
        (onFeed m (fun f => { f with current := .run, since := s.now }) s))))) ∧
    ((feedOf s m).moving = true → (feedOf s m).current = .run → (feedOf s m).queue ≠ [] →
      (feedOf s m).atFirstStep = false ∨ lineUnderWay s m = false →
      (feedOf s m).lastAt + nextInterval s m ≤ s.now →
      exec (.feedStep m) s = .next (settle (advance (takeStep m (feedOf s m).nextLevel s)))) ∧
    ((feedOf s m).moving = true → (feedOf s m).current = .run → (feedOf s m).queue = [] → lineUnderWay s m = false →
      (feedOf s m).lastAt + max (s.settings.ramp m 0) (feedOf s m).lastIreq ≤ s.now →
      exec (.motorRest m) s = .next (settle (advance
        (onFeed m (fun f => { f with moving := false, level := 0, since := s.now }) s)))) ∧
    (∀ level e rest, (feedOf s m).queue = e :: rest →
      (feedOf (takeStep m level s) m).level = level ∧
      (feedOf (takeStep m level s) m).stepCount = ((feedOf s m).stepCount + 1) % 4294967296 ∧
      (feedOf (takeStep m level s) m).lastAt = s.now ∧ (feedOf (takeStep m level s) m).lastIreq = e.ireq ∧
      (feedOf (takeStep m level s) m).moving = (feedOf s m).moving ∧
      (feedOf (takeStep m level s) m).current = (feedOf s m).current) ∧
    (∀ level, s.mech.scanFeed.queue ≠ [] →
      (s.scan.phase = .pick → s.scan.sheet.edgePending = true →
        (takeStep .scan level s).scan.phase = .lines ∧ (takeStep .scan level s).scan.sheet.edgePending = false ∧
        (takeStep .scan level s).scan.sheet.sinceEdge = some 0) ∧
      (s.scan.phase = .lines → s.scan.sheet.edgePending = true →
        (takeStep .scan level s).scan.sheet.edgePending = false ∧
        (takeStep .scan level s).scan.sheet.sinceEdge = some 0) ∧
      (∀ n, s.scan.phase = .lines → s.scan.sheet.edgePending = false → s.scan.sheet.sinceEdge = some n →
        s.scan.sheet.trailing = none →
        (takeStep .scan level s).scan.sheet.sinceEdge = some (n + 1) ∧
        (takeStep .scan level s).scan.sheet.trailing = if s.scan.sheet.trailingPending then some (n + 1) else none)) ∧
    (∀ level e rest n, s.mech.scanFeed.queue = e :: rest → e.kind = .scanLine n →
      let v := scanCounts (onFeed .scan (Feed.stepped level s.now) s)
      let t := takeStep .scan level s
      (e.left ≠ e.steps → t = v) ∧
      (e.left = e.steps → e.due = true → isPageLine v n = true →
        t.scan.capture = some ⟨n, s.now⟩ ∧ t.scan.slots = s.scan.slots) ∧
      (e.left = e.steps → e.due = false ∨ isPageLine v n = false →
        t.scan.capture = s.scan.capture ∧ t.scan.slots = replaceFirst (LineSlot.isReserved n) .free s.scan.slots)) ∧
    (∀ level e rest tag image fresh plan, s.mech.printFeed.queue = e :: rest → e.kind = .printLine tag image fresh plan →
      let t := takeStep .print level s
      (e.left ≠ e.steps → t.energy.firing = s.energy.firing ∧ t.energy.history = s.energy.history ∧ t.store = s.store) ∧
      (e.left = e.steps → e.due = false →
        t.energy.firing = s.energy.firing ∧ t.energy.history = List.replicate 1728 false ∧ t.store = s.store) ∧
      (e.left = e.steps → e.due = true → s.levels.paper = true →
        (plan ≠ [] → t.energy.firing = some ⟨tag, image, fresh, plan, .s1, s.now⟩ ∧ t.store = s.store) ∧
        (∀ x more, plan = [] → s.store.printOut.inFlight = x :: more → tag.last = true → x.line = tag.line →
          t.energy.firing = s.energy.firing ∧ t.store.printOut.consumedLine = s.store.printOut.consumedLine + 1 ∧
          t.store.printOut.inFlight = more) ∧
        (plan = [] → tag.last = false → t.energy.firing = s.energy.firing ∧ t.store = s.store)) ∧
      (e.left = e.steps → e.due = true → s.levels.paper = false →
        t.energy.firing = s.energy.firing ∧ t.energy.history = List.replicate 1728 false ∧
        (∀ x ∈ t.mech.printFeed.queue, x.isLine = true → x.due = false) ∧
        (∀ k j, printJob s = some (k, j) → j.state = .running → s.mech.printFeed.moving = true →
          (jobIn t k).map Job.state = some .holding ∧
          (jobIn t k).bind Job.pendingStop = some (.code ⟨.prPaper, some .paper, none⟩))))

/-- R131, R133: HOLD-DELAY at rest brings HOLD, OFF-DELAY in HOLD brings OFF unless it is 0; a PWM period takes the value given,
and the high counts of four periods sum to the value. -/
def Obligations.CurrentsAndPwm : Prop :=
  ∀ s : State,
    (∀ m, (feedOf s m).current = .run → (feedOf s m).moving = false →
      (feedOf s m).since + s.settings.holdDelay * 1000 ≤ s.now →
      exec (.holdDelayExpiry m) s = .next (settle (onFeed m (fun f => { f with current := .hold, since := s.now }) s))) ∧
    (∀ m, (feedOf s m).current = .hold → s.settings.offDelay ≠ 0 →
      (feedOf s m).since + s.settings.offDelay * 1000 ≤ s.now →
      exec (.offDelayExpiry m) s = .next (settle (onFeed m (fun f => { f with current := .off, since := s.now }) s))) ∧
    (∀ g, generatorsRun s = true →
      ∃ t, exec (.pwmPeriodEnd g) s = .next t ∧ generatorOf t g = ⟨givenValue s g, ((generatorOf s g).cycle + 1) % 4⟩ ∧
        (∀ g', g' ≠ g → generatorOf t g' = generatorOf s g') ∧ t.mech.scanFeed = s.mech.scanFeed ∧
        t.mech.printFeed = s.mech.printFeed ∧ t.mech.cutter = s.mech.cutter) ∧
    (∀ v, ((List.range 4).map (fun k => (Generator.mk v k).highCounts)).sum = v) ∧
    (∀ m c, motorValue s.settings m c = match c with
      | .off => 0 | .energizing => s.settings.runCurrent m | .run => s.settings.runCurrent m | .hold => s.settings.holdCurrent m)

/-- R82, R97, R134, R135, R137, R138, R139: what the change of each level does in ACTIVE and STANDBY: SENSOR for DOC-ENTRY, PAPER
and COVER; for DOC-READ the leading edge of a pick (R85), the trailing edge of a page (R86), each at the step just taken or, the
feed not stepping, at the next one, no edge where the last pick step has been taken (log 103, DESIGN CHOICE), and the end of a
calibration; for COVER the emergency stop when it opens over power, and
HEADPWR again when it closes in ACTIVE; for CUTTER-HOME the cutter's state, with the drive off too (log 48); and the cycle's
timeout. -/
def Obligations.LevelChangesAct : Prop :=
  ∀ (b : Bool) (s : State), s.start.phase = .ready → s.power.mode = .active ∨ s.power.mode = .standby →
    let stepping := s.mech.scanFeed.moving = true ∧ s.mech.scanFeed.current = .run
    let read : State := { s with levels := { s.levels with docRead := b } }
    let cover : State := { s with levels := { s.levels with coverOpen := b } }
    let home : State := { s with levels := { s.levels with cutterHome := b } }
    (s.levels.docEntry ≠ b → exec (.docEntryChange b) s =
      .next (settle (advance (raise 12 (.sensor b s.levels.paper s.levels.coverOpen)
        { s with levels := { s.levels with docEntry := b } })))) ∧
    (s.levels.paper ≠ b → exec (.paperChange b) s =
      .next (settle (advance (raise 12 (.sensor s.levels.docEntry b s.levels.coverOpen)
        { s with levels := { s.levels with paper := b } })))) ∧
    (s.levels.wakeKey ≠ b → exec (.wakeKeyChange b) s =
      .next (settle { s with levels := { s.levels with wakeKey := b } })) ∧
    (s.levels.docRead ≠ b → s.scan.phase ≠ .pick → s.scan.phase ≠ .lines → s.scan.calibration = none →
      s.scan.sheet.edgePending = false → exec (.docReadChange b) s = .next (settle (advance read))) ∧
    (s.levels.docRead = false → b = true → s.scan.phase = .pick → pickTaken s = true → s.scan.calibration = none →
      exec (.docReadChange b) s = .next (settle (advance read))) ∧
    (s.levels.docRead = false → b = true → s.scan.phase = .pick → pickTaken s = false → s.scan.calibration = none →
      (stepping → exec (.docReadChange b) s = .next (settle (advance (leadingEdge read)))) ∧
      (¬stepping → exec (.docReadChange b) s = .next (settle (advance { read with scan := { s.scan with
        sheet := { s.scan.sheet with edgePending := true } } })))) ∧
    (s.levels.docRead = true → b = false → s.scan.phase = .lines → s.scan.sheet.trailing = none →
      (stepping → exec (.docReadChange b) s = .next (settle (advance { read with scan := { s.scan with
        sheet := { s.scan.sheet with trailingPending := false, trailing := s.scan.sheet.sinceEdge } } }))) ∧
      (¬stepping → exec (.docReadChange b) s = .next (settle (advance { read with scan := { s.scan with
        sheet := { s.scan.sheet with trailingPending := true } } })))) ∧
    (∀ c, s.levels.docRead = false → b = true → s.scan.phase ≠ .pick → s.scan.calibration = some c → c.startUp = false →
      exec (.docReadChange b) s = .next (settle (advance (raise 13 (.done .calibrate .sheet 0) (endOp .scanner .calibrate
        { read with scan := { s.scan with calibration := none, lamp := ⟨none, false⟩ } }))))) ∧
    (s.levels.coverOpen = false → b = true → s.mech.scanFeed.current = .off → s.mech.printFeed.current = .off →
      s.power.headSince = none →
      exec (.coverChange b) s = .next (settle (advance (raise 12 (.sensor s.levels.docEntry s.levels.paper true) cover)))) ∧
    (s.levels.coverOpen = false → b = true →
      s.mech.scanFeed.current ≠ .off ∨ s.mech.printFeed.current ≠ .off ∨ s.power.headSince.isSome = true →
      exec (.coverChange b) s =
        .next (settle (advance (emergencyStop .cover (raise 1 (.emergency (emergencyDetail s)) cover))))) ∧
    (s.levels.coverOpen = true → b = false → s.power.mode = .standby →
      exec (.coverChange b) s = .next (settle (advance (raise 12 (.sensor s.levels.docEntry s.levels.paper false) cover)))) ∧
    (s.levels.coverOpen = true → b = false → s.power.mode = .active → s.power.headSince = none →
      exec (.coverChange b) s = .next (settle (advance (raise 12 (.sensor s.levels.docEntry s.levels.paper false)
        { cover with power := { s.power with headSince := some s.now } })))) ∧
    (s.levels.cutterHome = true → b = false → s.mech.cutter.state = .leaving →
      exec (.cutterHomeChange b) s = .next (settle (advance
        { home with mech := { s.mech with cutter := { s.mech.cutter with state := .returning } } }))) ∧
    (s.levels.cutterHome ≠ b → s.mech.cutter.state = .idle ∨ s.mech.cutter.state = .away →
      exec (.cutterHomeChange b) s = .next (settle (advance
        { home with mech := { s.mech with cutter := { s.mech.cutter with state := if b then .idle else .away } } }))) ∧
    (s.levels.cutterHome = false → b = true → s.mech.cutter.state = .returning →
      ∃ u, exec (.cutterHomeChange b) s = .next (settle (advance u)) ∧ u.mech.cutter.state = .idle ∧
        u.levels.cutterHome = true) ∧
    (s.mech.cutter.state = .leaving ∨ s.mech.cutter.state = .returning → s.mech.cutter.since + 1000000 ≤ s.now →
      ∃ u, exec .cutterTimeout s = .next (settle (advance u)) ∧ u.mech.cutter.drives = false ∧
        (s.events.pending[2]? = some none → ∃ r, u.events.pending[2]? = some (some r) ∧ r.count = 1))

/-- R135, R136: an emergency stop leaves both motors OFF at level 0 with empty queues and no motion, the drive of the cutter
off, NOT-READY, no strobe and no capture, and the history white; HEADPWR stays off while the cover is open. -/
def Obligations.EmergencyStopHalts : Prop :=
  ∀ (cause : Reason) (s : State),
    (let t := emergencyStop cause s
     t.mech.scanFeed.queue = [] ∧ t.mech.scanFeed.moving = false ∧ t.mech.scanFeed.level = 0 ∧ t.mech.scanFeed.current = .off ∧
     t.mech.printFeed.queue = [] ∧ t.mech.printFeed.moving = false ∧ t.mech.printFeed.level = 0 ∧
     t.mech.printFeed.current = .off ∧ t.mech.cutter.drives = false ∧ t.energy.ready = false ∧ t.energy.firing = none ∧
     t.energy.history = List.replicate 1728 false ∧ t.scan.capture = none ∧
     (s.levels.coverOpen = true → t.power.headSince = none) ∧
     (∀ k j, k < 4 → jobIn t k = some j → jobHolding s .scanner = some k ∨ jobHolding s .printer = some k →
       j.state ≠ .running ∧ j.state ≠ .holding) ∧
     t.levels = s.levels ∧ t.settings = s.settings ∧ t.start = s.start ∧ t.dram = s.dram)

/-! ## Power modes, ringing and wake (07_power_modes_ringing_and_wake.md) -/

/-- R104, R116, R132, R146, R148, R150: every step keeps the power law: HEADPWR in ACTIVE alone, no motor energized and no
strobe without it, and no job in DOZE. -/
def Obligations.PowerSafeKept : Prop :=
  ∀ s t : State, s.powerSafe → step s = .next t → t.powerSafe

/-- R153: MODE-SET ACTIVE, STANDBY, DOZE and KEEP (log 20 for the seconds the reply gives in STANDBY, log 88 for the first timed
samples, due 10 ms after the entry to ACTIVE). STANDBY is BUSY in ACTIVE while
the SCANNER or the PRINTER is held; DOZE is BUSY in ACTIVE, with a job in a slot, and during a settings store. -/
def Obligations.ModeSetModes : Prop :=
  ∀ (m : Byte) (s : State), takes (.modeSet m) s = true →
    (m = 0 → s.power.mode = .active →
      exec (.modeSet m) s =
        replied 0x40 (modeData { s with power := { s.power with idleFrom := none } })
          { releaseCommand s with power := { s.power with idleFrom := none } }) ∧
    (m = 0 → s.power.mode = .standby → s.levels.coverOpen = false → s.power.headSince = none →
      ∃ data, exec (.modeSet m) s =
        replied 0x40 data { releaseCommand s with
          power := { s.power with mode := .active, idleFrom := none, headSince := some s.now }
          energy := { s.energy with lastTimed := some s.now } }) ∧
    (m = 1 → s.power.mode = .active → holderOf s .scanner = .free → holderOf s .printer = .free →
      ∃ t, exec (.modeSet m) s = .next t ∧ t.power.mode = .standby ∧ t.power.headSince = none ∧ t.energy.ready = false ∧
        t.mech.scanFeed.current = .off ∧ t.mech.printFeed.current = .off) ∧
    (m = 3 → s.power.mode = .standby → usedSlots s = [] → s.settings.writing = none →
      exec (.modeSet m) s =
        replied 0x40 (be1 3 ++ be2 0xFFFF) { releaseCommand s with link := { (releaseCommand s).link with dozeAccepted := true } }) ∧
    (m = 1 → s.power.mode = .active → holderOf s .scanner ≠ .free ∨ holderOf s .printer ≠ .free →
      exec (.modeSet m) s = refused 0x40 .busy s) ∧
    (m = 3 → s.power.mode = .active ∨ usedSlots s ≠ [] ∨ s.settings.writing.isSome = true →
      exec (.modeSet m) s = refused 0x40 .busy s) ∧
    (m = 4 → exec (.modeSet m) s = replied 0x40 (modeData s) (releaseCommand s)) ∧
    (m ∉ [0, 1, 3, 4] → exec (.modeSet m) s = .next (settle (placeReply 0x40 .badParam [] (releaseCommand s))))

/-- R147, R148: the idle count's expiry enters STANDBY: HEADPWR off, NOT-READY, both motors OFF, the supply hold CLEAR, the
timed samples stopped; a thermal hold and the latest samples stay. R149, R150: the doze count's expiry enters DOZE: HOLD is
asserted, a partial frame is discarded with no count, a complete one not yet judged with it (log 72), the DRAM is in self-refresh. -/
def Obligations.ModesEnteredByCounts : Prop :=
  (∀ (t0 : Nat) (s : State), idleRuns s = true → s.power.idleFrom = some t0 →
     t0 + s.settings.idleTimeout * 1000000 ≤ s.now →
     ∃ t, exec .idleCountExpiry s = .next t ∧ t.power.mode = .standby ∧ t.power.headSince = none ∧ t.energy.ready = false ∧
       t.energy.firing = none ∧ t.energy.supplyHold = false ∧ t.energy.lastTimed = none ∧
       t.energy.thermalHold = s.energy.thermalHold ∧ t.energy.thermistor = s.energy.thermistor ∧
       t.energy.supply = s.energy.supply ∧ t.mech.scanFeed.current = .off ∧ t.mech.printFeed.current = .off ∧
       t.mech.scanFeed.stepCount = s.mech.scanFeed.stepCount ∧ t.store = s.store ∧ t.jobs = s.jobs ∧
       t.events.pending = s.events.pending ∧ t.settings = s.settings) ∧
  (∀ (t0 : Nat) (s : State), dozeRuns s = true → s.power.dozeFrom = some t0 →
     t0 + s.settings.dozeDelay * 60 * 1000000 ≤ s.now →
     exec .dozeCountExpiry s =
       .next (settle { s with
         power := { s.power with mode := .doze, dozeFrom := none, causes := ⟨false, false, false, false, false, false, false⟩ }
         link := { s.link with receiver := ⟨.hunt, [], 0⟩, dozeAccepted := false }
         start := { s.start with selfRefresh := true } }))

/-- R151, R152: a wake cause in DOZE ends it into WAKING, and one in WAKING joins the causes gathered there: an edge on the receive
line, a change of DOC-ENTRY, of COVER (no motor energized and HEADPWR off), of PAPER, and WAKE-KEY pressed, its release being none.
R134: the first three raise SENSOR as well. 10 ms of WAKING end in STANDBY, with WAKE raised, the receiver in HUNT and the DRAM out
of self-refresh. -/
def Obligations.WakeCausesWake : Prop :=
  (∀ (b : Bool) (s : State), s.power.mode = .doze ∨ s.power.mode = .waking →
    let woken := fun (c : WakeCauses) => (if s.power.mode = .doze
      then { s.power with mode := .waking, wakingAt := s.now, causes := c }
      else { s.power with causes := s.power.causes.union c } : Power)
    exec .linkReceiveEdge s = .next (settle { s with power := woken ⟨false, false, false, false, false, false, true⟩ }) ∧
    (s.start.phase = .ready →
      (s.levels.docEntry ≠ b → exec (.docEntryChange b) s =
        .next (settle (advance (raise 12 (.sensor b s.levels.paper s.levels.coverOpen)
          { s with levels := { s.levels with docEntry := b }
                   power := woken ⟨false, false, true, false, false, false, false⟩ })))) ∧
      (s.levels.coverOpen ≠ b → s.mech.scanFeed.current = .off → s.mech.printFeed.current = .off → s.power.headSince = none →
        exec (.coverChange b) s = .next (settle (advance (raise 12 (.sensor s.levels.docEntry s.levels.paper b)
          { s with levels := { s.levels with coverOpen := b }
                   power := woken ⟨false, false, false, true, false, false, false⟩ })))) ∧
      (s.levels.paper ≠ b → exec (.paperChange b) s =
        .next (settle (advance (raise 12 (.sensor s.levels.docEntry b s.levels.coverOpen)
          { s with levels := { s.levels with paper := b }
                   power := woken ⟨false, false, false, false, true, false, false⟩ })))) ∧
      (s.levels.wakeKey = false → b = true → exec (.wakeKeyChange b) s =
        .next (settle { s with levels := { s.levels with wakeKey := true }
                               power := woken ⟨false, false, false, false, false, true, false⟩ })) ∧
      (s.levels.wakeKey = true → b = false → exec (.wakeKeyChange b) s =
        .next (settle { s with levels := { s.levels with wakeKey := false } })))) ∧
  (∀ s : State, s.power.mode = .waking → s.power.wakingAt + 10000 ≤ s.now → s.start.phase = .ready →
    s.events.pending[11]? = some none →
    exec .wakingEnd s =
      .next (settle { s with
        power := { s.power with mode := .standby, dozeFrom := none, causes := ⟨false, false, false, false, false, false, false⟩ }
        link := { s.link with receiver := ⟨.hunt, [], 0⟩ }
        start := { s.start with selfRefresh := false }
        events := { s.events with pending := s.events.pending.set 11 (some ⟨1, .wake s.power.causes 1⟩) } }))

/-- R154: a pulse from IDLE or GAP begins a burst, a pulse within the period goes on with it, and a pulse that comes too soon
makes the burst invalid. R155, R157: a burst that ends within its limits raises the count and reports RING outside DOZE; in DOZE
it reports RING and wakes the part once the count has reached RING-WAKE-COUNT, and in WAKING that count is a further wake cause (R152). R156: a burst out of range stops the ringing. R154, R156: a gap
that expires sets the count to 0 and the state to IDLE; RING STOPPED is raised where rings had been counted, outside DOZE. Log 83 (DESIGN CHOICE):
spacings and lengths, which R154 measures in ms, are judged in microseconds, and the length reported is their whole ms. -/
def Obligations.RingsAreJudged : Prop :=
  (∀ s : State, s.start.phase ≠ .inReset →
     (s.ring.state = .idle →
       exec .ringPulse s = .next (settle { s with ring := { s.ring with state := .inBurst, first := s.now, latest := s.now } })) ∧
     (s.ring.state = .gap → s.now ≤ s.ring.latest + s.settings.gapMax * 1000 →
       exec .ringPulse s = .next (settle { s with ring := { s.ring with state := .inBurst, first := s.now, latest := s.now } })) ∧
     (s.ring.state = .inBurst → s.ring.latest + s.settings.ringPeriodMin * 1000 ≤ s.now →
       s.now ≤ s.ring.latest + s.settings.ringPeriodMax * 1000 →
       exec .ringPulse s = .next (settle { s with ring := { s.ring with latest := s.now } })) ∧
     (s.ring.state = .inBurst → s.ring.latest ≤ s.now → s.now < s.ring.latest + s.settings.ringPeriodMin * 1000 →
       s.now ≤ s.ring.latest + s.settings.ringPeriodMax * 1000 →
       exec .ringPulse s = .next (settle (ringStops .invalid s)))) ∧
  (∀ s : State, s.start.phase ≠ .inReset → s.ring.state = .inBurst →
     s.ring.latest + s.settings.ringPeriodMax * 1000 ≤ s.now →
     (s.ring.first + s.settings.burstMin * 1000 ≤ s.ring.latest → s.ring.latest ≤ s.ring.first + s.settings.burstMax * 1000 →
       s.ring.first ≤ s.ring.latest →
       (let count := min 255 (s.ring.count + 1)
        let u : State := { s with ring := { s.ring with state := .gap, count := count } }
        let ring := raise 9 (.ring none count ((s.ring.latest - s.ring.first) / 1000))
        (s.power.mode = .active ∨ s.power.mode = .standby ∨ (s.power.mode = .waking ∧ count < s.settings.ringWakeCount) →
          exec .ringBurstEnd s = .next (settle (ring u))) ∧
        (s.power.mode = .doze → count < s.settings.ringWakeCount → exec .ringBurstEnd s = .next (settle u)) ∧
        (s.power.mode = .doze → s.settings.ringWakeCount ≤ count →
          exec .ringBurstEnd s = .next (settle (ring { u with power := { s.power with
            mode := .waking, wakingAt := s.now, causes := ⟨true, false, false, false, false, false, false⟩ } }))) ∧
        (s.power.mode = .waking → s.settings.ringWakeCount ≤ count →
          exec .ringBurstEnd s = .next (settle (ring { u with power := { s.power with
            causes := { s.power.causes with ring := true } } }))))) ∧
     (s.ring.latest - s.ring.first < s.settings.burstMin * 1000 ∨ s.settings.burstMax * 1000 < s.ring.latest - s.ring.first →
       exec .ringBurstEnd s = .next (settle (ringStops .length s)))) ∧
  (∀ s : State, s.start.phase ≠ .inReset → s.ring.state = .gap → s.ring.latest + s.settings.gapMax * 1000 ≤ s.now →
     (s.ring.count = 0 ∨ s.power.mode = .doze →
       exec .ringGapExpiry s = .next (settle { s with ring := { s.ring with state := .idle, count := 0 } })) ∧
     (s.ring.count ≠ 0 → s.power.mode ≠ .doze →
       exec .ringGapExpiry s =
         .next (settle (raise 9 (.ring (some .gap) s.ring.count 0)
           { s with ring := { s.ring with state := .idle, count := 0 } }))))

/-- R159: ALARM-SET starts the Wake Timer, or stops it at 0; above 262143 it is refused. R151, R158: the Wake Timer's expiry
stops it and raises ALARM, a wake cause in DOZE; before RELEASE it is held. -/
def Obligations.AlarmRunsAndExpires : Prop :=
  (∀ (n : BitVec 24) (s : State), takes (.alarmSet n) s = true →
     (n = 0 → exec (.alarmSet n) s = replied 0x41 (be3 0) { releaseCommand s with wake := { s.wake with running := false } }) ∧
     (n ≠ 0 → n.toNat ≤ 262143 →
       exec (.alarmSet n) s =
         replied 0x41 (be3 n.toNat)
           { releaseCommand s with wake := { s.wake with running := true, given := n.toNat, since := s.now } }) ∧
     (262143 < n.toNat → exec (.alarmSet n) s = .next (settle (placeReply 0x41 .badParam [] (releaseCommand s))))) ∧
  (∀ s : State, s.wake.running = true → s.wake.since + s.wake.given * 1000000 ≤ s.now →
     (s.start.phase = .ready →
       exec .alarmExpiry s =
         .next (settle (wakeCause ⟨false, true, false, false, false, false, false⟩
           (raise 10 (.alarm s.wake.given) { s with wake := { s.wake with running := false, held := false } })))) ∧
     (s.start.phase ≠ .ready →
       exec .alarmExpiry s = .next (settle { s with wake := { s.wake with running := false, held := true } })))

/-- R161, R162: the first silence expiry stops each RUNNING job that holds the SCANNER or the PRINTER, as by JOB-HOLD, changes no
other job, raises SILENCE with the number stopped, and begins the second count; the second drives HOSTRST, aborts every job (log 84
for the grants that follow) and counts a host reset. R162: HOSTRST is released after 100 ms. -/
def Obligations.SilenceExpiresAndHostResets : Prop :=
  (∀ (t0 : Nat) (s : State), silenceRuns s = true → s.silence.since = some t0 →
     t0 + s.settings.silenceLimit * 1000000 ≤ s.now →
     (s.silence.firstStage = false →
       exec .silenceFirstExpiry s = .next (settle (advance (firstExpiry s))) ∧
       (firstExpiry s).silence = { s.silence with firstStage := true, since := some s.now } ∧
       (∀ k j, k < 4 → jobIn s k = some j → j.state = .running →
         jobHolding s .scanner = some k ∨ jobHolding s .printer = some k →
         jobIn (firstExpiry s) k = some (if jobRests s k then { j with state := .held, pendingStop := none }
           else { j with state := .holding, pendingStop := some .hold })) ∧
       (∀ k j, jobIn s k = some j → (j.state ≠ .running ∨ jobHolding s .scanner ≠ some k ∧ jobHolding s .printer ≠ some k) →
         jobIn (firstExpiry s) k = some j) ∧
       (s.start.phase = .ready → s.events.pending.length = 16 →
         ∃ e, (firstExpiry s).events.pending[15]? = some (some e) ∧
           e.detail = .silence (runningMechanismJobs s).length s.settings.silenceLimit s.silence.hostResets)) ∧
     (s.silence.firstStage = true →
       exec .silenceSecondExpiry s = .next (settle (advance (secondExpiry s))) ∧
       (secondExpiry s).link.hostReset = true ∧ (secondExpiry s).silence.pulse = some s.now ∧
       (secondExpiry s).silence.hostResets = min 255 (s.silence.hostResets + 1) ∧
       (s.jobs.slots.length = 4 → (secondExpiry s).jobs.slots = [none, none, none, none]))) ∧
  (∀ (t0 : Nat) (s : State), s.silence.pulse = some t0 → t0 + 100000 ≤ s.now →
     exec .hostrstPulseEnd s =
       .next (settle { s with silence := { s.silence with pulse := none }, link := { s.link with hostReset := false } }))

/-- R165: 60 s after the last reading, in ACTIVE or STANDBY, the battery is read; LOW after GOOD raises SUPPLY. The 60 s run from the
last reading through DOZE and WAKING too (log 70), and fall due when the part is READY (log 85); the record raised has no sample
(log 75). -/
def Obligations.BatteryIsRead : Prop :=
  ∀ (low : Bool) (s : State), s.start.phase = .ready → s.power.mode = .active ∨ s.power.mode = .standby →
    s.start.lastBattery + 60000000 ≤ s.now →
    (low = true → s.start.batteryLow = false →
      exec (.batteryCheck low) s =
        .next (settle (raise 3 (.supply false true none)
          { s with start := { s.start with batteryLow := true, lastBattery := s.now } }))) ∧
    (low = false ∨ s.start.batteryLow = true →
      exec (.batteryCheck low) s =
        .next (settle { s with start := { s.start with batteryLow := low, lastBattery := s.now } }))

/-! ## Start-up and retention (08_start_up_and_retention.md) -/

/-- R31, R81, R101, R121, R144, R163, R164, R204: what a reset of each kind takes from every block, and what it leaves: the
retention domain, the DRAM, the working settings and the link rate, and, as the model takes it, the levels, by which the cutter is
IDLE or AWAY until the start-up takes them afresh (log 37). R187: a settings store that was writing is cut off, which leaves the EEPROM
partly written, with no byte of it settled (log 27, DEDUCED); with no store writing, the EEPROM stays as it was. The working values, the
protect flag and the image state stay until the SETTINGS phase ends (log 97, DESIGN CHOICE). -/
def Obligations.ResetValues : Prop :=
  ∀ (kind : ResetKind) (s : State),
    let t := resetBlocks kind s
    t.start.phase = .inReset ∧ t.start.kind = kind ∧ t.start.causes = s.start.causes ∧ t.start.marker = s.start.marker ∧
    t.dram = s.dram ∧ t.store.blocks = s.store.blocks ∧ t.store.pages = s.store.pages ∧
    t.store.documents = s.store.documents ∧ t.store.sizeMb = s.store.sizeMb ∧
    t.store.low = false ∧ t.store.recovered = 0 ∧ t.store.waiters = [] ∧ t.store.scanIn = ⟨none, none⟩ ∧
    t.store.linkIn = none ∧ t.store.printOut.slot = none ∧ t.store.linkOut.slot = none ∧
    t.jobs.slots = [none, none, none, none] ∧ t.jobs.nextId = 1 ∧ t.jobs.holders = ⟨.free, .free, .free, .free⟩ ∧
    t.jobs.waits = ⟨[], [], [], []⟩ ∧
    t.scan.dark = List.replicate 1728 0 ∧ t.scan.white = List.replicate 1728 255 ∧ t.scan.status = .uncalibrated ∧
    t.scan.slots = List.replicate 16 .free ∧ t.scan.capture = none ∧ t.scan.lamp = ⟨none, false⟩ ∧
    t.energy.history = List.replicate 1728 false ∧ t.energy.ready = false ∧ t.energy.thermalHold = false ∧
    t.energy.supplyHold = false ∧ t.energy.firing = none ∧ t.energy.thermistor = 0 ∧ t.energy.supply = 0 ∧
    t.mech.scanFeed.queue = [] ∧ t.mech.scanFeed.current = .off ∧ t.mech.scanFeed.level = 0 ∧ t.mech.scanFeed.stepCount = 0 ∧
    t.mech.printFeed.queue = [] ∧ t.mech.printFeed.current = .off ∧ t.mech.printFeed.level = 0 ∧
    t.mech.printFeed.stepCount = 0 ∧ t.mech.scanPwm = ⟨0, 0⟩ ∧ t.mech.printPwm = ⟨0, 0⟩ ∧ t.mech.lampPwm = ⟨0, 0⟩ ∧
    t.mech.cutter.state = (if s.levels.cutterHome then .idle else .away) ∧
    t.power.mode = .standby ∧ t.power.headSince = none ∧ t.ring.state = .idle ∧ t.ring.count = 0 ∧
    t.wake = (if kind = .restart then s.wake else ⟨false, 0, 0, false⟩) ∧
    t.silence.since = none ∧ t.silence.hostResets = s.silence.hostResets ∧
    t.link.receiver = ⟨.hunt, [], 0⟩ ∧ t.link.inbound = [] ∧ t.link.reply = none ∧ t.link.dataOut = none ∧
    t.link.sending = none ∧ t.link.totals = ⟨0, 0, 0, 0, 0, 0, 0, 0⟩ ∧ t.link.rate = s.link.rate ∧
    t.link.hostReset = decide (kind ≠ .restart) ∧
    t.events.pending = List.replicate 16 none ∧ t.events.masked = List.replicate 16 false ∧
    t.settings.values = s.settings.values ∧ t.settings.protect = s.settings.protect ∧ t.settings.same = s.settings.same ∧
    t.settings.writing = none ∧
    t.settings.eeprom = (if s.settings.writing.isSome then .partlyWritten else s.settings.eeprom) ∧ t.levels = s.levels

/-- R164, R165 (log 25 for a reset met within another): the reset that each supply event and the RESET input begin. R180:
RESTART is accepted unless a store is writing, and no command is taken from then on; while one writes it is BUSY. -/
def Obligations.ResetsBegin : Prop :=
  (∀ s : State,
     exec .powerOnReset s =
       .next (settle { resetBlocks .powerOn s with start := { (resetBlocks .powerOn s).start with batteryOnly := false } }) ∧
     (s.start.batteryOnly = false → s.start.phase ≠ .inReset →
       exec .supplyDropReset s =
         .next (settle { resetBlocks .supplyDrop s with
           start := { (resetBlocks .supplyDrop s).start with batteryOnly := true, selfRefresh := true } })) ∧
     (s.start.batteryOnly = true → exec .supplyBelowPowerOff s = .next (settle (resetBlocks .powerOn s))) ∧
     (s.start.phase ≠ .inReset → exec .pinReset s = .next (settle (resetBlocks .pin s)))) ∧
  (∀ s : State, takes .restart s = true →
     (s.settings.writing = none →
       exec .restart s =
         replied 0x62 [] { releaseCommand s with link := { (releaseCommand s).link with restartAccepted := true } } ∧
       ∀ t, exec .restart s = .next t → intakeOpen t = false) ∧
     (s.settings.writing.isSome = true →
       exec .restart s = .next (settle (placeReply 0x62 .busy [] (releaseCommand s)))))

/-- R166, R167, R190 (log 26 for the marker's condition): at the end of a reset the domain is judged: where it is kept, the flag
of the reset's kind joins the cause flags and the host reset count stays; where it is lost, they are cleared first. The DRAM is taken
out of self-refresh. -/
def Obligations.ResetEndJudges : Prop :=
  ∀ (batteryLow sramHeld first second : Bool) (s : State), s.start.phase = .inReset →
    ∃ t, exec (.resetEnd batteryLow sramHeld first second) s = .next t ∧
      t.start.phase = .settings ∧ t.start.batteryLow = batteryLow ∧
      t.link.rate = first.toNat + 2 * second.toNat ∧ t.start.selfRefresh = false ∧
      (s.start.marker = true → sramHeld = true → (s.start.kind = .powerOn → batteryLow = false) →
        t.start.domainLost = false ∧ t.start.marker = true ∧ t.start.causes = s.start.causes.with s.start.kind ∧
        t.silence.hostResets = s.silence.hostResets) ∧
      (s.start.marker = false ∨ (s.start.kind = .powerOn ∧ batteryLow = true) ∨
        (sramHeld = false ∧ (s.start.kind = .powerOn ∨ s.start.kind = .supplyDrop)) →
        t.start.domainLost = true ∧ t.start.causes = CauseFlags.with ⟨false, false, false, false⟩ s.start.kind ∧
        t.silence.hostResets = 0) ∧
      t.store = s.store ∧ t.dram = s.dram ∧ t.settings = s.settings ∧ t.link.hold = true ∧ t.events.atn = false

/-- R168: the SETTINGS phase loads the image where it is good, and the defaults, unprotected, where it is not. -/
def Obligations.SettingsPhaseLoads : Prop :=
  ∀ (answers : Bool) (s : State), s.start.phase = .settings →
    ∃ t, exec (.settingsPhaseEnd answers) s = .next t ∧ t.start.phase = .memory ∧
      t.settings.writing = none ∧ t.settings.eeprom = s.settings.eeprom ∧
      t.settings.same = decide (t.start.status = .loaded) ∧
      (∀ image, s.settings.eeprom = .bytes image → answers = true → imageGood image = true →
        t.settings.values = clampLoaded (pairs ((image.drop 2).take 160)) ∧ t.start.status ≠ .defaulted) ∧
      (answers = false ∨ s.settings.eeprom = .partlyWritten ∨ (∃ image, s.settings.eeprom = .bytes image ∧ imageGood image = false) →
        t.settings.values = defaultValues ∧ t.settings.protect = false ∧ t.start.status = .defaulted) ∧
      t.store = s.store ∧ t.dram = s.dram ∧ t.link = { s.link with hold := true } ∧ t.start.causes = s.start.causes

/-- R169, R170, R171 (log 35 for the sizes of readings the rule does not list): a FRESH store: the size by the alias test, the
failing blocks BAD and every other FREE, every page slot and document EMPTY. R172, R173, R174: after a REBUILT store no page is
FILLING or read and none kept is free-as-read, no document is OPEN, written or used, no page that stands in a list is EMPTY, and
every USED or SUSPECT block belongs to a page that is kept. Either leaves the store's records sound, its writers being as a reset
leaves them (R1, R5, R6, R13): a page kept holds its committed lines; and, no job being there and no reader on a page, each page that
is not EMPTY stands once in its document's list (section 1.2). -/
def Obligations.MemoryPhaseBuilds : Prop :=
  (∀ (b0 b512 : TagRead) (failing : List Nat) (faults : ParityFaults) (s : State),
     s.start.phase = .memory → s.start.domainLost = true →
     ∃ t, exec (.memoryPhaseEnd b0 b512 failing faults) s = .next t ∧ t.start.phase = .levels ∧ t.start.marker = true ∧
       t.store.sizeMb = sizeFound b0 b512 ∧ t.store.blocks.length = 512 * sizeFound b0 b512 ∧
       (∀ b, b < 512 * sizeFound b0 b512 →
         t.store.blocks[b]? = some (if b ∈ failing then ⟨.bad, none, 0⟩ else ⟨.free, none, 0⟩)) ∧
       t.store.pages = List.replicate 256 Page.blank ∧ t.store.documents = List.replicate 32 Document.blank ∧
       t.start.counts.rebuilt = false ∧
       (s.store.scanIn = ⟨none, none⟩ → s.store.linkIn = none → s.scan.slots = List.replicate 16 .free → t.storeSound) ∧
       (s.jobs.slots = [none, none, none, none] → s.store.printOut.slot = none → s.store.linkOut.slot = none → t.listsSound)) ∧
  (∀ (b0 b512 : TagRead) (failing : List Nat) (faults : ParityFaults) (s : State),
     s.start.phase = .memory → s.start.domainLost = false →
     ∃ t, exec (.memoryPhaseEnd b0 b512 failing faults) s = .next t ∧ t.start.phase = .levels ∧
       t.start.counts.rebuilt = true ∧ t.store.blocks.length = s.store.blocks.length ∧
       (∀ p ∈ t.store.pages, p.state ≠ .filling ∧ p.readers = 0 ∧ (p.state ≠ .empty → p.freeAsRead = false)) ∧
       (∀ d ∈ t.store.documents, d.state ≠ .opened ∧ d.writer = none ∧ d.users = 0 ∧
         ∀ p ∈ d.pages, (pageOf t p).state ≠ .empty) ∧
       (∀ b ∈ t.store.blocks, b.state = .used ∨ b.state = .suspect → (pageOf t b.owner).state ≠ .empty) ∧
       t.settings = s.settings ∧ t.link = { s.link with hold := true } ∧
       (s.store.scanIn = ⟨none, none⟩ → s.store.linkIn = none → s.scan.slots = List.replicate 16 .free → t.storeSound) ∧
       (s.jobs.slots = [none, none, none, none] → s.store.printOut.slot = none → s.store.linkOut.slot = none →
         (∀ d ∈ s.store.documents, d.state = .empty → d.pages = []) → t.listsSound))

/-- R175, R134: the levels are taken; the cutter's homing begins, or is not tried with the cover open; a sheet at DOC-READ means
JAM-AT-START and no calibration. -/
def Obligations.LevelsTakenAtStart : Prop :=
  ∀ (l : Levels) (s : State), s.start.phase = .levels →
    ∃ t, exec (.mechanismLevelsTaken l) s = .next t ∧ t.start.phase = .mechanism ∧ t.levels = l ∧ t.start.levels = l ∧
      (l.coverOpen = true → t.start.homing = some .notTried) ∧
      (l.coverOpen = false → l.cutterHome = true → t.start.homing = some .home) ∧
      (l.coverOpen = false → l.cutterHome = false →
        t.start.homing = none ∧ t.mech.cutter = ⟨.returning, s.now⟩) ∧
      (l.docRead = true → t.start.jamAtStart = true ∧ t.start.calOutcome = some .uncalibrated) ∧
      (l.docRead = false → t.start.jamAtStart = false ∧ t.start.calOutcome = none ∧ t.scan.calibration.isSome = true) ∧
      t.power.headSince = s.power.headSince ∧ t.store = s.store ∧ t.settings = s.settings

/-- R158, R177, R178, R193, R200: RELEASE: HOSTRST released, HOLD by the free bytes, BOOT pending and ATN asserted, SUPPLY
raised for a LOW battery, with no sample (log 75), the low condition judged. -/
def Obligations.ReleaseEndsStartUp : Prop :=
  ∀ (h : CutterStatus) (c : CalOutcome) (s : State), s.start.phase = .mechanism → s.start.homing = some h →
    s.start.calOutcome = some c → s.power.mode = .standby → s.events = ⟨List.replicate 16 none, List.replicate 16 false, false⟩ →
    s.link.inbound = [] → s.store.linkIn = none →
    ∃ t, exec .mechanismPhaseEnd s = .next t ∧ t.start.phase = .ready ∧ t.link.hostReset = false ∧ t.link.hold = false ∧
      t.events.atn = true ∧ (∃ d, t.events.pending[0]? = some (some ⟨1, .boot d⟩)) ∧
      t.events.pending[3]? = some (if s.start.batteryLow then some ⟨1, .supply false true none⟩ else none) ∧
      t.events.pending[10]? = some (if s.wake.held then some ⟨1, .alarm s.wake.given⟩ else none) ∧
      t.store.low = decide (freeBlocks s < s.settings.lowWater) ∧
      t.start.report.cutter = h ∧ t.start.report.calibration = c ∧ t.start.report.kind = s.start.kind ∧
      t.start.report.free = freeBlocks s ∧ t.store.pages = s.store.pages ∧ t.store.blocks = s.store.blocks

/-- R179: CLEAR-CAUSES clears the four cause flags and the host reset count, and leaves everything else. -/
def Obligations.ClearCausesClears : Prop :=
  ∀ s : State, takes .clearCauses s = true →
    exec .clearCauses s =
      replied 0x61 [] { releaseCommand s with
        start := { s.start with causes := ⟨false, false, false, false⟩ }
        silence := { s.silence with hostResets := 0 } }

/-! ## Settings (09_settings.md) -/

/-- R183: over legal settings the clamp gives a value that leaves them legal, and takes a value that is legal as it is. -/
def Obligations.SettingSetClampsLegally : Prop :=
  ∀ (s : State) (place v : Nat), s.settingsLegal → place < 80 →
    (s.onSettings (Settings.put place (clampSet s.settings place v))).settingsLegal ∧
    ((s.onSettings (Settings.put place v)).settingsLegal → clampSet s.settings place v = v)

/-- R186: the values loaded from an image are legal whatever the image holds, and a legal set is loaded as it stands. -/
def Obligations.LoadedSettingsClampLegally : Prop :=
  ∀ (s : State) (vs : List Nat), vs.length = 80 →
    (s.onSettings (fun g => { g with values := clampLoaded vs })).settingsLegal ∧
    ((s.onSettings (fun g => { g with values := vs })).settingsLegal → clampLoaded vs = vs)

/-- R181, R183, R186, R189: every step keeps the working values legal. -/
def Obligations.SettingsLegalKept : Prop :=
  ∀ s t : State, s.settingsLegal → step s = .next t → t.settingsLegal

/-- R168, R186, R209: the image that a store writes loads again as the values and the protect flag it was made of. -/
def Obligations.ImageLoadsBack : Prop :=
  ∀ (s : State) (protect : Bool), s.settingsLegal →
    (imageOf s.settings.values protect).length = 512 ∧
    loadImage (.bytes (imageOf s.settings.values protect)) true = (s.settings.values, protect, .loaded, 0)

/-- R183, R184, R185: SETTING-SET takes the clamped value, replies with it, and lets it take effect. R183: its checks in order: an
identifier that names no item is BAD-PARAM, as it is for SETTING-GET (R182), a store in progress BUSY, the protect flag PROTECTED, a
speed table whose motor is not OFF or has an entry queued BUSY. -/
def Obligations.SettingSetTakes : Prop :=
  (∀ (id : Byte) (value : BitVec 16) (place : Nat) (s : State),
     takes (.settingSet id value) s = true → itemPlace id.toNat = some place → s.settings.writing = none →
     s.settings.protect = false →
     (∀ m, rampMotor place = some m → (feedOf s m).current = .off ∧ (feedOf s m).queue = []) →
     exec (.settingSet id value) s =
       replied 0x51 (be2 (clampSet s.settings place value.toNat))
         (settingsEffect s.settings.lowWater { releaseCommand s with settings := { s.settings with
           values := s.settings.values.set place (clampSet s.settings place value.toNat)
           same := s.settings.same && decide (s.settings.at place = clampSet s.settings place value.toNat) } })) ∧
  (∀ (id : Byte) (value : BitVec 16) (s : State),
     (takes (.settingGet id) s = true → itemPlace id.toNat = none → exec (.settingGet id) s = refused 0x50 .badParam s) ∧
     (takes (.settingSet id value) s = true →
       (itemPlace id.toNat = none → exec (.settingSet id value) s = refused 0x51 .badParam s) ∧
       (∀ place, itemPlace id.toNat = some place →
         (s.settings.writing.isSome = true → exec (.settingSet id value) s = refused 0x51 .busy s) ∧
         (s.settings.writing = none → s.settings.protect = true → exec (.settingSet id value) s = refused 0x51 .locked s) ∧
         (∀ m, s.settings.writing = none → s.settings.protect = false → rampMotor place = some m →
           (feedOf s m).current ≠ .off ∨ (feedOf s m).queue ≠ [] → exec (.settingSet id value) s = refused 0x51 .busy s))))

/-- R187, R188, R189: SETTINGS-STORE and SETTINGS-PROTECT begin a store of the image of the values and the flag;
SETTINGS-DEFAULT puts every item at its default, with ERASE clearing the flag and storing. R187 to R189: a store that verifies
leaves the image in the EEPROM, SAME, and raises DONE; one that fails leaves CHANGED (log 27 for what the EEPROM then holds). During
a store each is BUSY; SETTINGS-STORE and SETTINGS-DEFAULT with KEEP are PROTECTED by the flag; SETTINGS-DEFAULT is BAD-PARAM for
another option, first, and BUSY while a motor is not OFF or has an entry queued. -/
def Obligations.StoresBeginAndEnd : Prop :=
  (∀ s : State, s.settings.writing = none →
     (takes .settingsStore s = true → s.settings.protect = false →
       exec .settingsStore s =
         replied 0x52 [] { releaseCommand s with settings := { s.settings with
           writing := some ⟨.store, imageOf s.settings.values false⟩ } }) ∧
     (takes .settingsProtect s = true →
       exec .settingsProtect s =
         replied 0x54 [] { releaseCommand s with settings := { s.settings with
           protect := true, writing := some ⟨.protect, imageOf s.settings.values true⟩ } }) ∧
     (∀ option, takes (.settingsDefault option) s = true → motorsIdle s = true → option = 0 → s.settings.protect = false →
       exec (.settingsDefault option) s =
         replied 0x53 [] (settingsEffect s.settings.lowWater { releaseCommand s with settings := { s.settings with
           values := defaultValues, same := s.settings.same && decide (s.settings.values = defaultValues) } })) ∧
     (∀ option, takes (.settingsDefault option) s = true → motorsIdle s = true → option = 1 →
       exec (.settingsDefault option) s =
         replied 0x53 [] (settingsEffect s.settings.lowWater { releaseCommand s with settings := { s.settings with
           values := defaultValues, same := s.settings.same && decide (s.settings.values = defaultValues)
           protect := false, writing := some ⟨.default, imageOf defaultValues false⟩ } }))) ∧
  (∀ (option : Byte) (s : State),
     let busyMotor := ∃ m, (feedOf s m).current ≠ .off ∨ (feedOf s m).queue ≠ []
     (takes .settingsStore s = true →
       (s.settings.writing.isSome = true → exec .settingsStore s = refused 0x52 .busy s) ∧
       (s.settings.writing = none → s.settings.protect = true → exec .settingsStore s = refused 0x52 .locked s)) ∧
     (takes .settingsProtect s = true → s.settings.writing.isSome = true →
       exec .settingsProtect s = refused 0x54 .busy s) ∧
     (takes (.settingsDefault option) s = true →
       (1 < option.toNat → exec (.settingsDefault option) s = refused 0x53 .badParam s) ∧
       (option.toNat ≤ 1 → s.settings.writing.isSome = true ∨ busyMotor →
         exec (.settingsDefault option) s = refused 0x53 .busy s) ∧
       (option = 0 → s.settings.writing = none → ¬busyMotor → s.settings.protect = true →
         exec (.settingsDefault option) s = refused 0x53 .locked s))) ∧
  (∀ (w : Writing) (left : List Byte) (s : State), s.settings.writing = some w →
     exec (.settingsStoreEnd .verified) s =
       .next (settle (raise 13 (.done w.operation.done .stored 0)
         { s with settings := { s.settings with writing := none, same := true, eeprom := .bytes w.image } })) ∧
     exec (.settingsStoreEnd (.failed left)) s =
       .next (settle (raise 13 (.done w.operation.done .failed 0)
         { s with settings := { s.settings with writing := none, same := false, eeprom := .bytes left } })))

/-! ## What every step keeps of the store and of the jobs -/

/-- R1, R5, R6, R8, R13, R169: every step outside the MEMORY phase, which builds the store, keeps its records sound: a block in
use is owned by a page that is not EMPTY, a page in a document's list names the document, and a page holds every line committed to
it. Section 1.2, R48: and over such records it keeps the lists: each page that is not EMPTY stands exactly once in the list of the
document it names, an EMPTY document has no page and no job, and no reader stands on an EMPTY page. -/
def Obligations.StoreSoundKept : Prop :=
  (∀ s t : State, s.storeSound → s.start.phase ≠ .memory → step s = .next t → t.storeSound) ∧
  (∀ s t : State, s.storeSound → s.listsSound → s.start.phase ≠ .memory → step s = .next t → t.listsSound)

/-- R50, R53, R54, R57: every step keeps the engines and the jobs in agreement: an engine is held by one job at most, a job by its
kind holds all its engines or, WAITING, none, and the motors of a HELD or BOUNDARY job rest. R124, R131: such a job's motor begins
no motion and takes no step. -/
def Obligations.JobsSoundKept : Prop :=
  (∀ s t : State, s.jobsSound → step s = .next t → t.jobsSound) ∧
  (∀ (s : State) (k : Nat) (j : Job) (m : Motor), s.jobsSound → jobIn s k = some j → j.state = .held ∨ j.state = .boundary →
    holderOf s (motorEngine m) = .job k →
    exec (.motionBegin m) s = .next s ∧ exec (.energizingEnd m) s = .next s ∧ exec (.feedStep m) s = .next s)
end

