-- ==== Sys2Proof/Laws/State.lean ====
section
/-! SUPPORT. Each field of the state after each update of one block. -/

namespace Sys2Proof.Machine

variable (s : State)

/-! ### onPending -/

@[simp] theorem State.onPending_pending (f : List Instr → List Instr) : (s.onPending f).pending = f s.pending := rfl
@[simp] theorem State.onPending_now (f : List Instr → List Instr) : (s.onPending f).now = s.now := rfl
@[simp] theorem State.onPending_start (f : List Instr → List Instr) : (s.onPending f).start = s.start := rfl
@[simp] theorem State.onPending_dram (f : List Instr → List Instr) : (s.onPending f).dram = s.dram := rfl
@[simp] theorem State.onPending_dramFaults (f : List Instr → List Instr) : (s.onPending f).dramFaults = s.dramFaults := rfl
@[simp] theorem State.onPending_store (f : List Instr → List Instr) : (s.onPending f).store = s.store := rfl
@[simp] theorem State.onPending_jobs (f : List Instr → List Instr) : (s.onPending f).jobs = s.jobs := rfl
@[simp] theorem State.onPending_scan (f : List Instr → List Instr) : (s.onPending f).scan = s.scan := rfl
@[simp] theorem State.onPending_energy (f : List Instr → List Instr) : (s.onPending f).energy = s.energy := rfl
@[simp] theorem State.onPending_mech (f : List Instr → List Instr) : (s.onPending f).mech = s.mech := rfl
@[simp] theorem State.onPending_levels (f : List Instr → List Instr) : (s.onPending f).levels = s.levels := rfl
@[simp] theorem State.onPending_power (f : List Instr → List Instr) : (s.onPending f).power = s.power := rfl
@[simp] theorem State.onPending_ring (f : List Instr → List Instr) : (s.onPending f).ring = s.ring := rfl
@[simp] theorem State.onPending_wake (f : List Instr → List Instr) : (s.onPending f).wake = s.wake := rfl
@[simp] theorem State.onPending_silence (f : List Instr → List Instr) : (s.onPending f).silence = s.silence := rfl
@[simp] theorem State.onPending_settings (f : List Instr → List Instr) : (s.onPending f).settings = s.settings := rfl
@[simp] theorem State.onPending_link (f : List Instr → List Instr) : (s.onPending f).link = s.link := rfl
@[simp] theorem State.onPending_events (f : List Instr → List Instr) : (s.onPending f).events = s.events := rfl

/-! ### onNow -/

@[simp] theorem State.onNow_pending (f : Nat → Nat) : (s.onNow f).pending = s.pending := rfl
@[simp] theorem State.onNow_now (f : Nat → Nat) : (s.onNow f).now = f s.now := rfl
@[simp] theorem State.onNow_start (f : Nat → Nat) : (s.onNow f).start = s.start := rfl
@[simp] theorem State.onNow_dram (f : Nat → Nat) : (s.onNow f).dram = s.dram := rfl
@[simp] theorem State.onNow_dramFaults (f : Nat → Nat) : (s.onNow f).dramFaults = s.dramFaults := rfl
@[simp] theorem State.onNow_store (f : Nat → Nat) : (s.onNow f).store = s.store := rfl
@[simp] theorem State.onNow_jobs (f : Nat → Nat) : (s.onNow f).jobs = s.jobs := rfl
@[simp] theorem State.onNow_scan (f : Nat → Nat) : (s.onNow f).scan = s.scan := rfl
@[simp] theorem State.onNow_energy (f : Nat → Nat) : (s.onNow f).energy = s.energy := rfl
@[simp] theorem State.onNow_mech (f : Nat → Nat) : (s.onNow f).mech = s.mech := rfl
@[simp] theorem State.onNow_levels (f : Nat → Nat) : (s.onNow f).levels = s.levels := rfl
@[simp] theorem State.onNow_power (f : Nat → Nat) : (s.onNow f).power = s.power := rfl
@[simp] theorem State.onNow_ring (f : Nat → Nat) : (s.onNow f).ring = s.ring := rfl
@[simp] theorem State.onNow_wake (f : Nat → Nat) : (s.onNow f).wake = s.wake := rfl
@[simp] theorem State.onNow_silence (f : Nat → Nat) : (s.onNow f).silence = s.silence := rfl
@[simp] theorem State.onNow_settings (f : Nat → Nat) : (s.onNow f).settings = s.settings := rfl
@[simp] theorem State.onNow_link (f : Nat → Nat) : (s.onNow f).link = s.link := rfl
@[simp] theorem State.onNow_events (f : Nat → Nat) : (s.onNow f).events = s.events := rfl

/-! ### onStart -/

@[simp] theorem State.onStart_pending (f : StartUp → StartUp) : (s.onStart f).pending = s.pending := rfl
@[simp] theorem State.onStart_now (f : StartUp → StartUp) : (s.onStart f).now = s.now := rfl
@[simp] theorem State.onStart_start (f : StartUp → StartUp) : (s.onStart f).start = f s.start := rfl
@[simp] theorem State.onStart_dram (f : StartUp → StartUp) : (s.onStart f).dram = s.dram := rfl
@[simp] theorem State.onStart_dramFaults (f : StartUp → StartUp) : (s.onStart f).dramFaults = s.dramFaults := rfl
@[simp] theorem State.onStart_store (f : StartUp → StartUp) : (s.onStart f).store = s.store := rfl
@[simp] theorem State.onStart_jobs (f : StartUp → StartUp) : (s.onStart f).jobs = s.jobs := rfl
@[simp] theorem State.onStart_scan (f : StartUp → StartUp) : (s.onStart f).scan = s.scan := rfl
@[simp] theorem State.onStart_energy (f : StartUp → StartUp) : (s.onStart f).energy = s.energy := rfl
@[simp] theorem State.onStart_mech (f : StartUp → StartUp) : (s.onStart f).mech = s.mech := rfl
@[simp] theorem State.onStart_levels (f : StartUp → StartUp) : (s.onStart f).levels = s.levels := rfl
@[simp] theorem State.onStart_power (f : StartUp → StartUp) : (s.onStart f).power = s.power := rfl
@[simp] theorem State.onStart_ring (f : StartUp → StartUp) : (s.onStart f).ring = s.ring := rfl
@[simp] theorem State.onStart_wake (f : StartUp → StartUp) : (s.onStart f).wake = s.wake := rfl
@[simp] theorem State.onStart_silence (f : StartUp → StartUp) : (s.onStart f).silence = s.silence := rfl
@[simp] theorem State.onStart_settings (f : StartUp → StartUp) : (s.onStart f).settings = s.settings := rfl
@[simp] theorem State.onStart_link (f : StartUp → StartUp) : (s.onStart f).link = s.link := rfl
@[simp] theorem State.onStart_events (f : StartUp → StartUp) : (s.onStart f).events = s.events := rfl

/-! ### onDram -/

@[simp] theorem State.onDram_pending (f : List Host.Cell → List Host.Cell) : (s.onDram f).pending = s.pending := rfl
@[simp] theorem State.onDram_now (f : List Host.Cell → List Host.Cell) : (s.onDram f).now = s.now := rfl
@[simp] theorem State.onDram_start (f : List Host.Cell → List Host.Cell) : (s.onDram f).start = s.start := rfl
@[simp] theorem State.onDram_dram (f : List Host.Cell → List Host.Cell) : (s.onDram f).dram = f s.dram := rfl
@[simp] theorem State.onDram_dramFaults (f : List Host.Cell → List Host.Cell) : (s.onDram f).dramFaults = s.dramFaults := rfl
@[simp] theorem State.onDram_store (f : List Host.Cell → List Host.Cell) : (s.onDram f).store = s.store := rfl
@[simp] theorem State.onDram_jobs (f : List Host.Cell → List Host.Cell) : (s.onDram f).jobs = s.jobs := rfl
@[simp] theorem State.onDram_scan (f : List Host.Cell → List Host.Cell) : (s.onDram f).scan = s.scan := rfl
@[simp] theorem State.onDram_energy (f : List Host.Cell → List Host.Cell) : (s.onDram f).energy = s.energy := rfl
@[simp] theorem State.onDram_mech (f : List Host.Cell → List Host.Cell) : (s.onDram f).mech = s.mech := rfl
@[simp] theorem State.onDram_levels (f : List Host.Cell → List Host.Cell) : (s.onDram f).levels = s.levels := rfl
@[simp] theorem State.onDram_power (f : List Host.Cell → List Host.Cell) : (s.onDram f).power = s.power := rfl
@[simp] theorem State.onDram_ring (f : List Host.Cell → List Host.Cell) : (s.onDram f).ring = s.ring := rfl
@[simp] theorem State.onDram_wake (f : List Host.Cell → List Host.Cell) : (s.onDram f).wake = s.wake := rfl
@[simp] theorem State.onDram_silence (f : List Host.Cell → List Host.Cell) : (s.onDram f).silence = s.silence := rfl
@[simp] theorem State.onDram_settings (f : List Host.Cell → List Host.Cell) : (s.onDram f).settings = s.settings := rfl
@[simp] theorem State.onDram_link (f : List Host.Cell → List Host.Cell) : (s.onDram f).link = s.link := rfl
@[simp] theorem State.onDram_events (f : List Host.Cell → List Host.Cell) : (s.onDram f).events = s.events := rfl

/-! ### onFaults -/

@[simp] theorem State.onFaults_pending (f : ParityFaults → ParityFaults) : (s.onFaults f).pending = s.pending := rfl
@[simp] theorem State.onFaults_now (f : ParityFaults → ParityFaults) : (s.onFaults f).now = s.now := rfl
@[simp] theorem State.onFaults_start (f : ParityFaults → ParityFaults) : (s.onFaults f).start = s.start := rfl
@[simp] theorem State.onFaults_dram (f : ParityFaults → ParityFaults) : (s.onFaults f).dram = s.dram := rfl
@[simp] theorem State.onFaults_dramFaults (f : ParityFaults → ParityFaults) : (s.onFaults f).dramFaults = f s.dramFaults := rfl
@[simp] theorem State.onFaults_store (f : ParityFaults → ParityFaults) : (s.onFaults f).store = s.store := rfl
@[simp] theorem State.onFaults_jobs (f : ParityFaults → ParityFaults) : (s.onFaults f).jobs = s.jobs := rfl
@[simp] theorem State.onFaults_scan (f : ParityFaults → ParityFaults) : (s.onFaults f).scan = s.scan := rfl
@[simp] theorem State.onFaults_energy (f : ParityFaults → ParityFaults) : (s.onFaults f).energy = s.energy := rfl
@[simp] theorem State.onFaults_mech (f : ParityFaults → ParityFaults) : (s.onFaults f).mech = s.mech := rfl
@[simp] theorem State.onFaults_levels (f : ParityFaults → ParityFaults) : (s.onFaults f).levels = s.levels := rfl
@[simp] theorem State.onFaults_power (f : ParityFaults → ParityFaults) : (s.onFaults f).power = s.power := rfl
@[simp] theorem State.onFaults_ring (f : ParityFaults → ParityFaults) : (s.onFaults f).ring = s.ring := rfl
@[simp] theorem State.onFaults_wake (f : ParityFaults → ParityFaults) : (s.onFaults f).wake = s.wake := rfl
@[simp] theorem State.onFaults_silence (f : ParityFaults → ParityFaults) : (s.onFaults f).silence = s.silence := rfl
@[simp] theorem State.onFaults_settings (f : ParityFaults → ParityFaults) : (s.onFaults f).settings = s.settings := rfl
@[simp] theorem State.onFaults_link (f : ParityFaults → ParityFaults) : (s.onFaults f).link = s.link := rfl
@[simp] theorem State.onFaults_events (f : ParityFaults → ParityFaults) : (s.onFaults f).events = s.events := rfl

/-! ### onStore -/

@[simp] theorem State.onStore_pending (f : Store → Store) : (s.onStore f).pending = s.pending := rfl
@[simp] theorem State.onStore_now (f : Store → Store) : (s.onStore f).now = s.now := rfl
@[simp] theorem State.onStore_start (f : Store → Store) : (s.onStore f).start = s.start := rfl
@[simp] theorem State.onStore_dram (f : Store → Store) : (s.onStore f).dram = s.dram := rfl
@[simp] theorem State.onStore_dramFaults (f : Store → Store) : (s.onStore f).dramFaults = s.dramFaults := rfl
@[simp] theorem State.onStore_store (f : Store → Store) : (s.onStore f).store = f s.store := rfl
@[simp] theorem State.onStore_jobs (f : Store → Store) : (s.onStore f).jobs = s.jobs := rfl
@[simp] theorem State.onStore_scan (f : Store → Store) : (s.onStore f).scan = s.scan := rfl
@[simp] theorem State.onStore_energy (f : Store → Store) : (s.onStore f).energy = s.energy := rfl
@[simp] theorem State.onStore_mech (f : Store → Store) : (s.onStore f).mech = s.mech := rfl
@[simp] theorem State.onStore_levels (f : Store → Store) : (s.onStore f).levels = s.levels := rfl
@[simp] theorem State.onStore_power (f : Store → Store) : (s.onStore f).power = s.power := rfl
@[simp] theorem State.onStore_ring (f : Store → Store) : (s.onStore f).ring = s.ring := rfl
@[simp] theorem State.onStore_wake (f : Store → Store) : (s.onStore f).wake = s.wake := rfl
@[simp] theorem State.onStore_silence (f : Store → Store) : (s.onStore f).silence = s.silence := rfl
@[simp] theorem State.onStore_settings (f : Store → Store) : (s.onStore f).settings = s.settings := rfl
@[simp] theorem State.onStore_link (f : Store → Store) : (s.onStore f).link = s.link := rfl
@[simp] theorem State.onStore_events (f : Store → Store) : (s.onStore f).events = s.events := rfl

/-! ### onJobs -/

@[simp] theorem State.onJobs_pending (f : WorkOrders → WorkOrders) : (s.onJobs f).pending = s.pending := rfl
@[simp] theorem State.onJobs_now (f : WorkOrders → WorkOrders) : (s.onJobs f).now = s.now := rfl
@[simp] theorem State.onJobs_start (f : WorkOrders → WorkOrders) : (s.onJobs f).start = s.start := rfl
@[simp] theorem State.onJobs_dram (f : WorkOrders → WorkOrders) : (s.onJobs f).dram = s.dram := rfl
@[simp] theorem State.onJobs_dramFaults (f : WorkOrders → WorkOrders) : (s.onJobs f).dramFaults = s.dramFaults := rfl
@[simp] theorem State.onJobs_store (f : WorkOrders → WorkOrders) : (s.onJobs f).store = s.store := rfl
@[simp] theorem State.onJobs_jobs (f : WorkOrders → WorkOrders) : (s.onJobs f).jobs = f s.jobs := rfl
@[simp] theorem State.onJobs_scan (f : WorkOrders → WorkOrders) : (s.onJobs f).scan = s.scan := rfl
@[simp] theorem State.onJobs_energy (f : WorkOrders → WorkOrders) : (s.onJobs f).energy = s.energy := rfl
@[simp] theorem State.onJobs_mech (f : WorkOrders → WorkOrders) : (s.onJobs f).mech = s.mech := rfl
@[simp] theorem State.onJobs_levels (f : WorkOrders → WorkOrders) : (s.onJobs f).levels = s.levels := rfl
@[simp] theorem State.onJobs_power (f : WorkOrders → WorkOrders) : (s.onJobs f).power = s.power := rfl
@[simp] theorem State.onJobs_ring (f : WorkOrders → WorkOrders) : (s.onJobs f).ring = s.ring := rfl
@[simp] theorem State.onJobs_wake (f : WorkOrders → WorkOrders) : (s.onJobs f).wake = s.wake := rfl
@[simp] theorem State.onJobs_silence (f : WorkOrders → WorkOrders) : (s.onJobs f).silence = s.silence := rfl
@[simp] theorem State.onJobs_settings (f : WorkOrders → WorkOrders) : (s.onJobs f).settings = s.settings := rfl
@[simp] theorem State.onJobs_link (f : WorkOrders → WorkOrders) : (s.onJobs f).link = s.link := rfl
@[simp] theorem State.onJobs_events (f : WorkOrders → WorkOrders) : (s.onJobs f).events = s.events := rfl

/-! ### onScan -/

@[simp] theorem State.onScan_pending (f : ScanPath → ScanPath) : (s.onScan f).pending = s.pending := rfl
@[simp] theorem State.onScan_now (f : ScanPath → ScanPath) : (s.onScan f).now = s.now := rfl
@[simp] theorem State.onScan_start (f : ScanPath → ScanPath) : (s.onScan f).start = s.start := rfl
@[simp] theorem State.onScan_dram (f : ScanPath → ScanPath) : (s.onScan f).dram = s.dram := rfl
@[simp] theorem State.onScan_dramFaults (f : ScanPath → ScanPath) : (s.onScan f).dramFaults = s.dramFaults := rfl
@[simp] theorem State.onScan_store (f : ScanPath → ScanPath) : (s.onScan f).store = s.store := rfl
@[simp] theorem State.onScan_jobs (f : ScanPath → ScanPath) : (s.onScan f).jobs = s.jobs := rfl
@[simp] theorem State.onScan_scan (f : ScanPath → ScanPath) : (s.onScan f).scan = f s.scan := rfl
@[simp] theorem State.onScan_energy (f : ScanPath → ScanPath) : (s.onScan f).energy = s.energy := rfl
@[simp] theorem State.onScan_mech (f : ScanPath → ScanPath) : (s.onScan f).mech = s.mech := rfl
@[simp] theorem State.onScan_levels (f : ScanPath → ScanPath) : (s.onScan f).levels = s.levels := rfl
@[simp] theorem State.onScan_power (f : ScanPath → ScanPath) : (s.onScan f).power = s.power := rfl
@[simp] theorem State.onScan_ring (f : ScanPath → ScanPath) : (s.onScan f).ring = s.ring := rfl
@[simp] theorem State.onScan_wake (f : ScanPath → ScanPath) : (s.onScan f).wake = s.wake := rfl
@[simp] theorem State.onScan_silence (f : ScanPath → ScanPath) : (s.onScan f).silence = s.silence := rfl
@[simp] theorem State.onScan_settings (f : ScanPath → ScanPath) : (s.onScan f).settings = s.settings := rfl
@[simp] theorem State.onScan_link (f : ScanPath → ScanPath) : (s.onScan f).link = s.link := rfl
@[simp] theorem State.onScan_events (f : ScanPath → ScanPath) : (s.onScan f).events = s.events := rfl

/-! ### onEnergy -/

@[simp] theorem State.onEnergy_pending (f : Energy → Energy) : (s.onEnergy f).pending = s.pending := rfl
@[simp] theorem State.onEnergy_now (f : Energy → Energy) : (s.onEnergy f).now = s.now := rfl
@[simp] theorem State.onEnergy_start (f : Energy → Energy) : (s.onEnergy f).start = s.start := rfl
@[simp] theorem State.onEnergy_dram (f : Energy → Energy) : (s.onEnergy f).dram = s.dram := rfl
@[simp] theorem State.onEnergy_dramFaults (f : Energy → Energy) : (s.onEnergy f).dramFaults = s.dramFaults := rfl
@[simp] theorem State.onEnergy_store (f : Energy → Energy) : (s.onEnergy f).store = s.store := rfl
@[simp] theorem State.onEnergy_jobs (f : Energy → Energy) : (s.onEnergy f).jobs = s.jobs := rfl
@[simp] theorem State.onEnergy_scan (f : Energy → Energy) : (s.onEnergy f).scan = s.scan := rfl
@[simp] theorem State.onEnergy_energy (f : Energy → Energy) : (s.onEnergy f).energy = f s.energy := rfl
@[simp] theorem State.onEnergy_mech (f : Energy → Energy) : (s.onEnergy f).mech = s.mech := rfl
@[simp] theorem State.onEnergy_levels (f : Energy → Energy) : (s.onEnergy f).levels = s.levels := rfl
@[simp] theorem State.onEnergy_power (f : Energy → Energy) : (s.onEnergy f).power = s.power := rfl
@[simp] theorem State.onEnergy_ring (f : Energy → Energy) : (s.onEnergy f).ring = s.ring := rfl
@[simp] theorem State.onEnergy_wake (f : Energy → Energy) : (s.onEnergy f).wake = s.wake := rfl
@[simp] theorem State.onEnergy_silence (f : Energy → Energy) : (s.onEnergy f).silence = s.silence := rfl
@[simp] theorem State.onEnergy_settings (f : Energy → Energy) : (s.onEnergy f).settings = s.settings := rfl
@[simp] theorem State.onEnergy_link (f : Energy → Energy) : (s.onEnergy f).link = s.link := rfl
@[simp] theorem State.onEnergy_events (f : Energy → Energy) : (s.onEnergy f).events = s.events := rfl

/-! ### onMech -/

@[simp] theorem State.onMech_pending (f : Mechanism → Mechanism) : (s.onMech f).pending = s.pending := rfl
@[simp] theorem State.onMech_now (f : Mechanism → Mechanism) : (s.onMech f).now = s.now := rfl
@[simp] theorem State.onMech_start (f : Mechanism → Mechanism) : (s.onMech f).start = s.start := rfl
@[simp] theorem State.onMech_dram (f : Mechanism → Mechanism) : (s.onMech f).dram = s.dram := rfl
@[simp] theorem State.onMech_dramFaults (f : Mechanism → Mechanism) : (s.onMech f).dramFaults = s.dramFaults := rfl
@[simp] theorem State.onMech_store (f : Mechanism → Mechanism) : (s.onMech f).store = s.store := rfl
@[simp] theorem State.onMech_jobs (f : Mechanism → Mechanism) : (s.onMech f).jobs = s.jobs := rfl
@[simp] theorem State.onMech_scan (f : Mechanism → Mechanism) : (s.onMech f).scan = s.scan := rfl
@[simp] theorem State.onMech_energy (f : Mechanism → Mechanism) : (s.onMech f).energy = s.energy := rfl
@[simp] theorem State.onMech_mech (f : Mechanism → Mechanism) : (s.onMech f).mech = f s.mech := rfl
@[simp] theorem State.onMech_levels (f : Mechanism → Mechanism) : (s.onMech f).levels = s.levels := rfl
@[simp] theorem State.onMech_power (f : Mechanism → Mechanism) : (s.onMech f).power = s.power := rfl
@[simp] theorem State.onMech_ring (f : Mechanism → Mechanism) : (s.onMech f).ring = s.ring := rfl
@[simp] theorem State.onMech_wake (f : Mechanism → Mechanism) : (s.onMech f).wake = s.wake := rfl
@[simp] theorem State.onMech_silence (f : Mechanism → Mechanism) : (s.onMech f).silence = s.silence := rfl
@[simp] theorem State.onMech_settings (f : Mechanism → Mechanism) : (s.onMech f).settings = s.settings := rfl
@[simp] theorem State.onMech_link (f : Mechanism → Mechanism) : (s.onMech f).link = s.link := rfl
@[simp] theorem State.onMech_events (f : Mechanism → Mechanism) : (s.onMech f).events = s.events := rfl

/-! ### onLevels -/

@[simp] theorem State.onLevels_pending (f : Levels → Levels) : (s.onLevels f).pending = s.pending := rfl
@[simp] theorem State.onLevels_now (f : Levels → Levels) : (s.onLevels f).now = s.now := rfl
@[simp] theorem State.onLevels_start (f : Levels → Levels) : (s.onLevels f).start = s.start := rfl
@[simp] theorem State.onLevels_dram (f : Levels → Levels) : (s.onLevels f).dram = s.dram := rfl
@[simp] theorem State.onLevels_dramFaults (f : Levels → Levels) : (s.onLevels f).dramFaults = s.dramFaults := rfl
@[simp] theorem State.onLevels_store (f : Levels → Levels) : (s.onLevels f).store = s.store := rfl
@[simp] theorem State.onLevels_jobs (f : Levels → Levels) : (s.onLevels f).jobs = s.jobs := rfl
@[simp] theorem State.onLevels_scan (f : Levels → Levels) : (s.onLevels f).scan = s.scan := rfl
@[simp] theorem State.onLevels_energy (f : Levels → Levels) : (s.onLevels f).energy = s.energy := rfl
@[simp] theorem State.onLevels_mech (f : Levels → Levels) : (s.onLevels f).mech = s.mech := rfl
@[simp] theorem State.onLevels_levels (f : Levels → Levels) : (s.onLevels f).levels = f s.levels := rfl
@[simp] theorem State.onLevels_power (f : Levels → Levels) : (s.onLevels f).power = s.power := rfl
@[simp] theorem State.onLevels_ring (f : Levels → Levels) : (s.onLevels f).ring = s.ring := rfl
@[simp] theorem State.onLevels_wake (f : Levels → Levels) : (s.onLevels f).wake = s.wake := rfl
@[simp] theorem State.onLevels_silence (f : Levels → Levels) : (s.onLevels f).silence = s.silence := rfl
@[simp] theorem State.onLevels_settings (f : Levels → Levels) : (s.onLevels f).settings = s.settings := rfl
@[simp] theorem State.onLevels_link (f : Levels → Levels) : (s.onLevels f).link = s.link := rfl
@[simp] theorem State.onLevels_events (f : Levels → Levels) : (s.onLevels f).events = s.events := rfl

/-! ### onPower -/

@[simp] theorem State.onPower_pending (f : Power → Power) : (s.onPower f).pending = s.pending := rfl
@[simp] theorem State.onPower_now (f : Power → Power) : (s.onPower f).now = s.now := rfl
@[simp] theorem State.onPower_start (f : Power → Power) : (s.onPower f).start = s.start := rfl
@[simp] theorem State.onPower_dram (f : Power → Power) : (s.onPower f).dram = s.dram := rfl
@[simp] theorem State.onPower_dramFaults (f : Power → Power) : (s.onPower f).dramFaults = s.dramFaults := rfl
@[simp] theorem State.onPower_store (f : Power → Power) : (s.onPower f).store = s.store := rfl
@[simp] theorem State.onPower_jobs (f : Power → Power) : (s.onPower f).jobs = s.jobs := rfl
@[simp] theorem State.onPower_scan (f : Power → Power) : (s.onPower f).scan = s.scan := rfl
@[simp] theorem State.onPower_energy (f : Power → Power) : (s.onPower f).energy = s.energy := rfl
@[simp] theorem State.onPower_mech (f : Power → Power) : (s.onPower f).mech = s.mech := rfl
@[simp] theorem State.onPower_levels (f : Power → Power) : (s.onPower f).levels = s.levels := rfl
@[simp] theorem State.onPower_power (f : Power → Power) : (s.onPower f).power = f s.power := rfl
@[simp] theorem State.onPower_ring (f : Power → Power) : (s.onPower f).ring = s.ring := rfl
@[simp] theorem State.onPower_wake (f : Power → Power) : (s.onPower f).wake = s.wake := rfl
@[simp] theorem State.onPower_silence (f : Power → Power) : (s.onPower f).silence = s.silence := rfl
@[simp] theorem State.onPower_settings (f : Power → Power) : (s.onPower f).settings = s.settings := rfl
@[simp] theorem State.onPower_link (f : Power → Power) : (s.onPower f).link = s.link := rfl
@[simp] theorem State.onPower_events (f : Power → Power) : (s.onPower f).events = s.events := rfl

/-! ### onRing -/

@[simp] theorem State.onRing_pending (f : Ring → Ring) : (s.onRing f).pending = s.pending := rfl
@[simp] theorem State.onRing_now (f : Ring → Ring) : (s.onRing f).now = s.now := rfl
@[simp] theorem State.onRing_start (f : Ring → Ring) : (s.onRing f).start = s.start := rfl
@[simp] theorem State.onRing_dram (f : Ring → Ring) : (s.onRing f).dram = s.dram := rfl
@[simp] theorem State.onRing_dramFaults (f : Ring → Ring) : (s.onRing f).dramFaults = s.dramFaults := rfl
@[simp] theorem State.onRing_store (f : Ring → Ring) : (s.onRing f).store = s.store := rfl
@[simp] theorem State.onRing_jobs (f : Ring → Ring) : (s.onRing f).jobs = s.jobs := rfl
@[simp] theorem State.onRing_scan (f : Ring → Ring) : (s.onRing f).scan = s.scan := rfl
@[simp] theorem State.onRing_energy (f : Ring → Ring) : (s.onRing f).energy = s.energy := rfl
@[simp] theorem State.onRing_mech (f : Ring → Ring) : (s.onRing f).mech = s.mech := rfl
@[simp] theorem State.onRing_levels (f : Ring → Ring) : (s.onRing f).levels = s.levels := rfl
@[simp] theorem State.onRing_power (f : Ring → Ring) : (s.onRing f).power = s.power := rfl
@[simp] theorem State.onRing_ring (f : Ring → Ring) : (s.onRing f).ring = f s.ring := rfl
@[simp] theorem State.onRing_wake (f : Ring → Ring) : (s.onRing f).wake = s.wake := rfl
@[simp] theorem State.onRing_silence (f : Ring → Ring) : (s.onRing f).silence = s.silence := rfl
@[simp] theorem State.onRing_settings (f : Ring → Ring) : (s.onRing f).settings = s.settings := rfl
@[simp] theorem State.onRing_link (f : Ring → Ring) : (s.onRing f).link = s.link := rfl
@[simp] theorem State.onRing_events (f : Ring → Ring) : (s.onRing f).events = s.events := rfl

/-! ### onWake -/

@[simp] theorem State.onWake_pending (f : WakeTimer → WakeTimer) : (s.onWake f).pending = s.pending := rfl
@[simp] theorem State.onWake_now (f : WakeTimer → WakeTimer) : (s.onWake f).now = s.now := rfl
@[simp] theorem State.onWake_start (f : WakeTimer → WakeTimer) : (s.onWake f).start = s.start := rfl
@[simp] theorem State.onWake_dram (f : WakeTimer → WakeTimer) : (s.onWake f).dram = s.dram := rfl
@[simp] theorem State.onWake_dramFaults (f : WakeTimer → WakeTimer) : (s.onWake f).dramFaults = s.dramFaults := rfl
@[simp] theorem State.onWake_store (f : WakeTimer → WakeTimer) : (s.onWake f).store = s.store := rfl
@[simp] theorem State.onWake_jobs (f : WakeTimer → WakeTimer) : (s.onWake f).jobs = s.jobs := rfl
@[simp] theorem State.onWake_scan (f : WakeTimer → WakeTimer) : (s.onWake f).scan = s.scan := rfl
@[simp] theorem State.onWake_energy (f : WakeTimer → WakeTimer) : (s.onWake f).energy = s.energy := rfl
@[simp] theorem State.onWake_mech (f : WakeTimer → WakeTimer) : (s.onWake f).mech = s.mech := rfl
@[simp] theorem State.onWake_levels (f : WakeTimer → WakeTimer) : (s.onWake f).levels = s.levels := rfl
@[simp] theorem State.onWake_power (f : WakeTimer → WakeTimer) : (s.onWake f).power = s.power := rfl
@[simp] theorem State.onWake_ring (f : WakeTimer → WakeTimer) : (s.onWake f).ring = s.ring := rfl
@[simp] theorem State.onWake_wake (f : WakeTimer → WakeTimer) : (s.onWake f).wake = f s.wake := rfl
@[simp] theorem State.onWake_silence (f : WakeTimer → WakeTimer) : (s.onWake f).silence = s.silence := rfl
@[simp] theorem State.onWake_settings (f : WakeTimer → WakeTimer) : (s.onWake f).settings = s.settings := rfl
@[simp] theorem State.onWake_link (f : WakeTimer → WakeTimer) : (s.onWake f).link = s.link := rfl
@[simp] theorem State.onWake_events (f : WakeTimer → WakeTimer) : (s.onWake f).events = s.events := rfl

/-! ### onSilence -/

@[simp] theorem State.onSilence_pending (f : Silence → Silence) : (s.onSilence f).pending = s.pending := rfl
@[simp] theorem State.onSilence_now (f : Silence → Silence) : (s.onSilence f).now = s.now := rfl
@[simp] theorem State.onSilence_start (f : Silence → Silence) : (s.onSilence f).start = s.start := rfl
@[simp] theorem State.onSilence_dram (f : Silence → Silence) : (s.onSilence f).dram = s.dram := rfl
@[simp] theorem State.onSilence_dramFaults (f : Silence → Silence) : (s.onSilence f).dramFaults = s.dramFaults := rfl
@[simp] theorem State.onSilence_store (f : Silence → Silence) : (s.onSilence f).store = s.store := rfl
@[simp] theorem State.onSilence_jobs (f : Silence → Silence) : (s.onSilence f).jobs = s.jobs := rfl
@[simp] theorem State.onSilence_scan (f : Silence → Silence) : (s.onSilence f).scan = s.scan := rfl
@[simp] theorem State.onSilence_energy (f : Silence → Silence) : (s.onSilence f).energy = s.energy := rfl
@[simp] theorem State.onSilence_mech (f : Silence → Silence) : (s.onSilence f).mech = s.mech := rfl
@[simp] theorem State.onSilence_levels (f : Silence → Silence) : (s.onSilence f).levels = s.levels := rfl
@[simp] theorem State.onSilence_power (f : Silence → Silence) : (s.onSilence f).power = s.power := rfl
@[simp] theorem State.onSilence_ring (f : Silence → Silence) : (s.onSilence f).ring = s.ring := rfl
@[simp] theorem State.onSilence_wake (f : Silence → Silence) : (s.onSilence f).wake = s.wake := rfl
@[simp] theorem State.onSilence_silence (f : Silence → Silence) : (s.onSilence f).silence = f s.silence := rfl
@[simp] theorem State.onSilence_settings (f : Silence → Silence) : (s.onSilence f).settings = s.settings := rfl
@[simp] theorem State.onSilence_link (f : Silence → Silence) : (s.onSilence f).link = s.link := rfl
@[simp] theorem State.onSilence_events (f : Silence → Silence) : (s.onSilence f).events = s.events := rfl

/-! ### onSettings -/

@[simp] theorem State.onSettings_pending (f : Settings → Settings) : (s.onSettings f).pending = s.pending := rfl
@[simp] theorem State.onSettings_now (f : Settings → Settings) : (s.onSettings f).now = s.now := rfl
@[simp] theorem State.onSettings_start (f : Settings → Settings) : (s.onSettings f).start = s.start := rfl
@[simp] theorem State.onSettings_dram (f : Settings → Settings) : (s.onSettings f).dram = s.dram := rfl
@[simp] theorem State.onSettings_dramFaults (f : Settings → Settings) : (s.onSettings f).dramFaults = s.dramFaults := rfl
@[simp] theorem State.onSettings_store (f : Settings → Settings) : (s.onSettings f).store = s.store := rfl
@[simp] theorem State.onSettings_jobs (f : Settings → Settings) : (s.onSettings f).jobs = s.jobs := rfl
@[simp] theorem State.onSettings_scan (f : Settings → Settings) : (s.onSettings f).scan = s.scan := rfl
@[simp] theorem State.onSettings_energy (f : Settings → Settings) : (s.onSettings f).energy = s.energy := rfl
@[simp] theorem State.onSettings_mech (f : Settings → Settings) : (s.onSettings f).mech = s.mech := rfl
@[simp] theorem State.onSettings_levels (f : Settings → Settings) : (s.onSettings f).levels = s.levels := rfl
@[simp] theorem State.onSettings_power (f : Settings → Settings) : (s.onSettings f).power = s.power := rfl
@[simp] theorem State.onSettings_ring (f : Settings → Settings) : (s.onSettings f).ring = s.ring := rfl
@[simp] theorem State.onSettings_wake (f : Settings → Settings) : (s.onSettings f).wake = s.wake := rfl
@[simp] theorem State.onSettings_silence (f : Settings → Settings) : (s.onSettings f).silence = s.silence := rfl
@[simp] theorem State.onSettings_settings (f : Settings → Settings) : (s.onSettings f).settings = f s.settings := rfl
@[simp] theorem State.onSettings_link (f : Settings → Settings) : (s.onSettings f).link = s.link := rfl
@[simp] theorem State.onSettings_events (f : Settings → Settings) : (s.onSettings f).events = s.events := rfl

/-! ### onLink -/

@[simp] theorem State.onLink_pending (f : Link → Link) : (s.onLink f).pending = s.pending := rfl
@[simp] theorem State.onLink_now (f : Link → Link) : (s.onLink f).now = s.now := rfl
@[simp] theorem State.onLink_start (f : Link → Link) : (s.onLink f).start = s.start := rfl
@[simp] theorem State.onLink_dram (f : Link → Link) : (s.onLink f).dram = s.dram := rfl
@[simp] theorem State.onLink_dramFaults (f : Link → Link) : (s.onLink f).dramFaults = s.dramFaults := rfl
@[simp] theorem State.onLink_store (f : Link → Link) : (s.onLink f).store = s.store := rfl
@[simp] theorem State.onLink_jobs (f : Link → Link) : (s.onLink f).jobs = s.jobs := rfl
@[simp] theorem State.onLink_scan (f : Link → Link) : (s.onLink f).scan = s.scan := rfl
@[simp] theorem State.onLink_energy (f : Link → Link) : (s.onLink f).energy = s.energy := rfl
@[simp] theorem State.onLink_mech (f : Link → Link) : (s.onLink f).mech = s.mech := rfl
@[simp] theorem State.onLink_levels (f : Link → Link) : (s.onLink f).levels = s.levels := rfl
@[simp] theorem State.onLink_power (f : Link → Link) : (s.onLink f).power = s.power := rfl
@[simp] theorem State.onLink_ring (f : Link → Link) : (s.onLink f).ring = s.ring := rfl
@[simp] theorem State.onLink_wake (f : Link → Link) : (s.onLink f).wake = s.wake := rfl
@[simp] theorem State.onLink_silence (f : Link → Link) : (s.onLink f).silence = s.silence := rfl
@[simp] theorem State.onLink_settings (f : Link → Link) : (s.onLink f).settings = s.settings := rfl
@[simp] theorem State.onLink_link (f : Link → Link) : (s.onLink f).link = f s.link := rfl
@[simp] theorem State.onLink_events (f : Link → Link) : (s.onLink f).events = s.events := rfl

/-! ### onEvents -/

@[simp] theorem State.onEvents_pending (f : Events → Events) : (s.onEvents f).pending = s.pending := rfl
@[simp] theorem State.onEvents_now (f : Events → Events) : (s.onEvents f).now = s.now := rfl
@[simp] theorem State.onEvents_start (f : Events → Events) : (s.onEvents f).start = s.start := rfl
@[simp] theorem State.onEvents_dram (f : Events → Events) : (s.onEvents f).dram = s.dram := rfl
@[simp] theorem State.onEvents_dramFaults (f : Events → Events) : (s.onEvents f).dramFaults = s.dramFaults := rfl
@[simp] theorem State.onEvents_store (f : Events → Events) : (s.onEvents f).store = s.store := rfl
@[simp] theorem State.onEvents_jobs (f : Events → Events) : (s.onEvents f).jobs = s.jobs := rfl
@[simp] theorem State.onEvents_scan (f : Events → Events) : (s.onEvents f).scan = s.scan := rfl
@[simp] theorem State.onEvents_energy (f : Events → Events) : (s.onEvents f).energy = s.energy := rfl
@[simp] theorem State.onEvents_mech (f : Events → Events) : (s.onEvents f).mech = s.mech := rfl
@[simp] theorem State.onEvents_levels (f : Events → Events) : (s.onEvents f).levels = s.levels := rfl
@[simp] theorem State.onEvents_power (f : Events → Events) : (s.onEvents f).power = s.power := rfl
@[simp] theorem State.onEvents_ring (f : Events → Events) : (s.onEvents f).ring = s.ring := rfl
@[simp] theorem State.onEvents_wake (f : Events → Events) : (s.onEvents f).wake = s.wake := rfl
@[simp] theorem State.onEvents_silence (f : Events → Events) : (s.onEvents f).silence = s.silence := rfl
@[simp] theorem State.onEvents_settings (f : Events → Events) : (s.onEvents f).settings = s.settings := rfl
@[simp] theorem State.onEvents_link (f : Events → Events) : (s.onEvents f).link = s.link := rfl
@[simp] theorem State.onEvents_events (f : Events → Events) : (s.onEvents f).events = f s.events := rfl

end Sys2Proof.Machine
end

