-- ==== Sys2Proof/Laws/Dram.lean ====
section
/-! SUPPORT. The page DRAM: a byte read after a write, and the canonical form kept by every write. -/

namespace Sys2Proof.Machine

/-! ## The canonical form -/

/-- The form with a lower bound on the addresses. -/
def wfFrom (low : Nat) (m : List Host.Cell) : Prop := risingFrom low m = true ∧ ∀ c ∈ m, c.2 ≠ Config.dramFill

theorem memory_wf_iff (m : List Host.Cell) : Memory.wf m = true ↔ wfFrom 0 m := by
  simp [Memory.wf, wfFrom]

theorem wfFrom_cons (low k : Nat) (v : Byte) (m : List Host.Cell) :
    wfFrom low ((k, v) :: m) ↔ low ≤ k ∧ v ≠ Config.dramFill ∧ wfFrom (k + 1) m := by
  simp only [wfFrom, risingFrom, Bool.and_eq_true, decide_eq_true_eq, List.mem_cons, forall_eq_or_imp]
  tauto

theorem wfFrom_mono {low low' : Nat} {m : List Host.Cell} (h : wfFrom low m) (hl : low' ≤ low) : wfFrom low' m := by
  cases m with
  | nil => exact ⟨rfl, by simp⟩
  | cons c m => obtain ⟨k, v⟩ := c; rw [wfFrom_cons] at *; exact ⟨by omega, h.2⟩

theorem dramByte_below {low a : Nat} {m : List Host.Cell} (h : wfFrom low m) (ha : a < low) : dramByte m a = Config.dramFill := by
  cases m with
  | nil => rfl
  | cons c m =>
    obtain ⟨k, v⟩ := c
    rw [wfFrom_cons] at h
    simp [dramByte, show a ≠ k by omega, show a < k by omega]

theorem wfFrom_dramCons {low a : Nat} {v : Byte} {m : List Host.Cell} (hm : wfFrom (a + 1) m) (ha : low ≤ a) :
    wfFrom low (dramCons a v m) := by
  unfold dramCons
  split
  · exact wfFrom_mono hm (by omega)
  · rw [wfFrom_cons]; exact ⟨ha, ‹_›, hm⟩

theorem wfFrom_dramPut {low : Nat} {m : List Host.Cell} (a : Nat) (v : Byte) (h : wfFrom low m) (ha : low ≤ a) :
    wfFrom low (dramPut m a v) := by
  induction m generalizing low with
  | nil => exact wfFrom_dramCons ⟨rfl, by simp⟩ ha
  | cons c m ih =>
    obtain ⟨k, w⟩ := c
    rw [wfFrom_cons] at h
    unfold dramPut
    split
    · exact wfFrom_dramCons (by rw [wfFrom_cons]; exact ⟨by omega, h.2⟩) ha
    · split
      · subst a; exact wfFrom_dramCons h.2.2 ha
      · rw [wfFrom_cons]; exact ⟨h.1, h.2.1, ih h.2.2 (by omega)⟩

theorem memory_wf_dramPut (m : List Host.Cell) (a : Nat) (v : Byte) (h : Memory.wf m = true) : Memory.wf (dramPut m a v) = true := by
  rw [memory_wf_iff] at *; exact wfFrom_dramPut a v h (by omega)

theorem memory_wf_dramWrite (m : List Host.Cell) (a : Nat) (bs : List Byte) (h : Memory.wf m = true) :
    Memory.wf (dramWrite m a bs) = true := by
  induction bs generalizing m a with
  | nil => exact h
  | cons b bs ih => exact ih _ _ (memory_wf_dramPut m a b h)

theorem memory_wf_storeBytes (s : State) (a : Nat) (bs : List Byte) (h : Memory.wf s.dram = true) :
    Memory.wf (storeBytes a bs s).dram = true := by
  simpa [storeBytes] using memory_wf_dramWrite s.dram a bs h

theorem memory_wf_reset : Memory.wf State.reset.dram = true := rfl

/-! ## A byte read after a write -/

theorem dramByte_dramCons {a : Nat} {v : Byte} {m : List Host.Cell} (hm : wfFrom (a + 1) m) (b : Nat) :
    dramByte (dramCons a v m) b = if b = a then v else dramByte m b := by
  unfold dramCons
  split
  · split
    · subst b; rw [dramByte_below hm (by omega)]; exact Eq.symm ‹_›
    · rfl
  · by_cases hb : b = a
    · simp [dramByte, hb]
    · by_cases hlt : b < a
      · simp [dramByte, hb, hlt, dramByte_below hm (show b < a + 1 by omega)]
      · simp [dramByte, hb, hlt]

theorem dramByte_dramPut {low : Nat} {m : List Host.Cell} (a : Nat) (v : Byte) (b : Nat) (h : wfFrom low m) :
    dramByte (dramPut m a v) b = if b = a then v else dramByte m b := by
  induction m generalizing low with
  | nil => exact dramByte_dramCons ⟨rfl, by simp⟩ b
  | cons c m ih =>
    obtain ⟨k, w⟩ := c
    rw [wfFrom_cons] at h
    unfold dramPut
    split
    · exact dramByte_dramCons (by rw [wfFrom_cons]; exact ⟨by omega, h.2⟩) b
    · split
      · subst a
        rw [dramByte_dramCons h.2.2]
        by_cases hb : b = k
        · simp [hb]
        · by_cases hlt : b < k
          · simp [dramByte, hb, hlt, dramByte_below h.2.2 (show b < k + 1 by omega)]
          · simp [dramByte, hb, hlt]
      · by_cases hb : b = k
        · have hne : k ≠ a := fun h => absurd h.symm ‹¬ a = k›
          subst hb; simp [dramByte, hne]
        · by_cases hlt : b < k
          · simp [dramByte, hb, hlt, show b ≠ a by omega]
          · simp [dramByte, hb, hlt, ih h.2.2]

end Sys2Proof.Machine
end

