-- ==== Sys2Proof/Laws/Exec.lean ====
section
/-! SUPPORT. What a command step and an event step come to, and each arm of `exec` as one of the two. -/

namespace Sys2Proof.Machine

/-- An event that is due: its effect, then the end of the step. -/
theorem event_due {due : Bool} {effect : State → State} {s : State} (h : due = true) :
    event due effect s = .next (settle (effect s)) := by simp [event, h]

/-- An event that is not due changes nothing. -/
theorem event_idle {due : Bool} {effect : State → State} {s : State} (h : due = false) :
    event due effect s = .next s := by simp [event, h]

/-- The two outcomes of an event step. -/
theorem event_cases {due : Bool} {effect : State → State} {s t : State} (h : event due effect s = .next t) :
    (due = true ∧ t = settle (effect s)) ∨ (due = false ∧ t = s) := by
  cases due
  · exact .inr ⟨rfl, by simpa [event] using h.symm⟩
  · exact .inl ⟨rfl, by simpa [event] using h.symm⟩

/-- An event of the jobs' machinery that is due. -/
theorem jobEvent_due {due : Bool} {effect : State → State} {s : State} (h : due = true) :
    jobEvent due effect s = .next (settle (advance (effect s))) := event_due h

/-- A command taken whose verdict is DONE. -/
theorem command_done {i : Instr} {judge : State → Verdict} {s u : State} {data : List Byte} {c : Nat} (h : takes i s = true)
    (hc : commandCode i = some c) (hj : judge (releaseCommand s) = .ok (u, data)) :
    command i judge s = .next (settle (placeReply (BitVec.ofNat 8 c) .done data u)) := by
  simp [command, event, h, hc, hj, answer]

/-- A command taken that is refused. -/
theorem command_refused {i : Instr} {judge : State → Verdict} {s : State} {a : Answer} {c : Nat} (h : takes i s = true)
    (hc : commandCode i = some c) (hj : judge (releaseCommand s) = .error a) :
    command i judge s = .next (settle (placeReply (BitVec.ofNat 8 c) a [] (releaseCommand s))) := by
  simp [command, event, h, hc, hj, answer]

/-- A command that is not taken changes nothing. -/
theorem command_untaken {i : Instr} {judge : State → Verdict} {s : State} (h : takes i s = false) :
    command i judge s = .next s := event_idle h

/-! ## The arms -/

theorem exec_ping (b0 b1 b2 b3 : Byte) (s : State) :
    exec (.ping b0 b1 b2 b3) s =
      command (.ping b0 b1 b2 b3) (fun s => .ok (s, pingData [b0, b1, b2, b3] s)) s := rfl

theorem exec_getEvents (includeMasked : Byte) (s : State) :
    exec (.getEvents includeMasked) s =
      command (.getEvents includeMasked) (fun s =>
        if includeMasked = 0 then .ok (collect false s) else if includeMasked = 1 then .ok (collect true s)
        else .error .badParam) s := rfl

theorem exec_eventMask (masks : BitVec 16) (s : State) :
    exec (.eventMask masks) s =
      command (.eventMask masks) (fun s =>
        let s := s.onEvents (fun e => { e with masked := (List.range 16).map masks.getLsbD })
        .ok (s, be2 masks.toNat ++ be2 (pendingSet s.events))) s := rfl

theorem exec_docCreate (origin resolution width : Byte) (s : State) :
    exec (.docCreate origin resolution width) s =
      command (.docCreate origin resolution width) (docCreate origin resolution width) s := rfl

theorem exec_docClose (document : Byte) (s : State) :
    exec (.docClose document) s =
      command (.docClose document) (docClose document.toNat) s := rfl

theorem exec_docDelete (document : Byte) (s : State) :
    exec (.docDelete document) s =
      command (.docDelete document) (docDelete document.toNat) s := rfl

theorem exec_docInfo (document : Byte) (s : State) :
    exec (.docInfo document) s =
      command (.docInfo document) (fun s =>
        if docExists s document.toNat then .ok (s, docInfoBytes s document.toNat) else .error .noSuch) s := rfl

theorem exec_docList (s : State) :
    exec .docList s =
      command .docList (fun s =>
        .ok (s, be1 (documentsHeld s).length ++ (documentsHeld s).flatMap (docEntryBytes s))) s := rfl

theorem exec_pageInfo (document index : Byte) (s : State) :
    exec (.pageInfo document index) s =
      command (.pageInfo document index) (fun s =>
        match namedPage s document.toNat index.toNat with
        | some slot => .ok (s, pageInfoBytes s slot)
        | none => .error .noSuch) s := rfl

theorem exec_pageDrop (document index : Byte) (s : State) :
    exec (.pageDrop document index) s =
      command (.pageDrop document index) (pageDrop document.toNat index.toNat) s := rfl

theorem exec_storeStatus (s : State) :
    exec .storeStatus s =
      command .storeStatus (fun s => .ok (s, storeStatusBytes s)) s := rfl

theorem exec_jobStart (kind document priority options scanMode firstPage lastPage copies : Byte) (s : State) :
    exec (.jobStart kind document priority options scanMode firstPage lastPage copies) s =
      command (.jobStart kind document priority options scanMode firstPage lastPage copies)
        (startJob ⟨kind.toNat, document.toNat, priority.toNat, options.toNat, scanMode.toNat, firstPage.toNat, lastPage.toNat,
          copies.toNat⟩) s := rfl

theorem exec_jobAnswer (job choice : Byte) (s : State) :
    exec (.jobAnswer job choice) s =
      command (.jobAnswer job choice) (answerJob job.toNat choice.toNat) s := rfl

theorem exec_jobHold (job : Byte) (s : State) :
    exec (.jobHold job) s =
      command (.jobHold job) (holdJob job.toNat) s := rfl

theorem exec_jobResume (job : Byte) (s : State) :
    exec (.jobResume job) s =
      command (.jobResume job) (resumeJob job.toNat) s := rfl

theorem exec_jobAbort (job : Byte) (s : State) :
    exec (.jobAbort job) s =
      command (.jobAbort job) (abortJob job.toNat) s := rfl

theorem exec_jobStatus (job : Byte) (s : State) :
    exec (.jobStatus job) s =
      command (.jobStatus job) (fun s =>
        match namedJob s job.toNat with
        | some (k, j) => .ok (s, jobStatusBytes s j k)
        | none => .error .noSuch) s := rfl

theorem exec_sendCredit (job : Byte) (count : CreditGrant) (s : State) :
    exec (.sendCredit job count) s =
      command (.sendCredit job count) (fun s => sendCredit job.toNat count.count.toNat (s.onFaults (fun _ => count.faults))) s := rfl

theorem exec_scanCalibrate (s : State) :
    exec .scanCalibrate s =
      command .scanCalibrate scanCalibrate s := rfl

theorem exec_docEject (s : State) :
    exec .docEject s =
      command .docEject docEject s := rfl

theorem exec_paperAdvance (steps : BitVec 16) (s : State) :
    exec (.paperAdvance steps) s =
      command (.paperAdvance steps) (paperAdvance steps.toNat) s := rfl

theorem exec_cut (s : State) :
    exec .cut s =
      command .cut cutPaper s := rfl

theorem exec_sensorRead (s : State) :
    exec .sensorRead s =
      command .sensorRead (fun s => .ok (s, sensorBytes s)) s := rfl

theorem exec_modeSet (mode : Byte) (s : State) :
    exec (.modeSet mode) s =
      command (.modeSet mode) (modeSet mode.toNat) s := rfl

theorem exec_alarmSet (seconds : BitVec 24) (s : State) :
    exec (.alarmSet seconds) s =
      command (.alarmSet seconds) (alarmSet seconds.toNat) s := rfl

theorem exec_alarmRead (s : State) :
    exec .alarmRead s =
      command .alarmRead (fun s => .ok (s, be3 (alarmLeft s) ++ be1 (if s.wake.running then 0 else 1))) s := rfl

theorem exec_settingGet (id : Byte) (s : State) :
    exec (.settingGet id) s =
      command (.settingGet id) (fun s =>
        match itemPlace id.toNat with
        | some place => .ok (s, settingBytes s.settings place)
        | none => .error .badParam) s := rfl

theorem exec_settingSet (id : Byte) (value : BitVec 16) (s : State) :
    exec (.settingSet id value) s =
      command (.settingSet id value) (settingSet id.toNat value.toNat) s := rfl

theorem exec_settingsStore (s : State) :
    exec .settingsStore s =
      command .settingsStore settingsStore s := rfl

theorem exec_settingsDefault (option : Byte) (s : State) :
    exec (.settingsDefault option) s =
      command (.settingsDefault option) (settingsDefault option.toNat) s := rfl

theorem exec_settingsProtect (s : State) :
    exec .settingsProtect s =
      command .settingsProtect settingsProtect s := rfl

theorem exec_bootReport (s : State) :
    exec .bootReport s =
      command .bootReport (fun s => .ok (s, bootReportBytes s)) s := rfl

theorem exec_clearCauses (s : State) :
    exec .clearCauses s =
      command .clearCauses (fun s => .ok (clearCauses s, [])) s := rfl

theorem exec_restart (s : State) :
    exec .restart s =
      command .restart restart s := rfl

theorem exec_unknownCommand (payload : List Byte) (s : State) :
    exec (.unknownCommand payload) s =
      event (takes (.unknownCommand payload) s)
        (fun s => placeReply (payload.headD 0) (unknownAnswer payload) [] (releaseCommand s)) s := rfl

theorem exec_frameReceived (s : State) :
    exec .frameReceived s =
      event (receiverRuns s && frameComplete s) judgeFrame s := rfl

theorem exec_frameGapTimeout (s : State) :
    exec .frameGapTimeout s =
      event (gapTimeoutDue s) dropGap s := rfl

theorem exec_dataInRouting (s : State) :
    exec .dataInRouting s =
      event (receiverRuns s && (routable s).isSome)
        (fun s => match routable s with
          | some f => routeFrame f (s.onLink (fun l => { l with inbound := l.inbound.tail }))
          | none => s) s := rfl

theorem exec_receivedLineRecord (s : State) :
    exec .receivedLineRecord s =
      jobEvent (itemDue Received.isLine s) receiveLine s := rfl

theorem exec_receivedPageBegin (s : State) :
    exec .receivedPageBegin s =
      jobEvent (itemDue Received.isBegin s) receiveBegin s := rfl

theorem exec_receivedPageEnd (s : State) :
    exec .receivedPageEnd s =
      jobEvent (itemDue Received.isEnd s) receiveEnd s := rfl

theorem exec_undelimitableItem (s : State) :
    exec .undelimitableItem s =
      jobEvent (itemDue Received.isLost s) receiveLost s := rfl

theorem exec_replySent (s : State) :
    exec .replySent s =
      event (receiverRuns s && decide (s.link.sending = some .reply)) replySent s := rfl

theorem exec_dataOutSent (faults : ParityFaults) (s : State) :
    exec (.dataOutSent faults) s =
      jobEvent (receiverRuns s && decide (s.link.sending = some .dataOut)) (dataOutSent faults) s := rfl

theorem exec_scanLineEntryAdmit (s : State) :
    exec .scanLineEntryAdmit s =
      jobEvent (lineEntryDue s) admitScanLine s := rfl

theorem exec_scanLineCaptured (raw : List Byte) (s : State) :
    exec (.scanLineCaptured raw) s =
      event (captureDue s) (endCapture raw) s := rfl

theorem exec_spanCodeLine (s : State) :
    exec .spanCodeLine s =
      event (codable s).isSome codeCaptured s := rfl

theorem exec_scanInTakeRecord (s : State) :
    exec .scanInTakeRecord s =
      jobEvent (takeable s).isSome takeScanned s := rfl

theorem exec_lampWarm (s : State) :
    exec .lampWarm s =
      jobEvent (lampWarmDue s) lampWarmed s := rfl

theorem exec_calibrationCaptureEnd (raw : List Byte) (s : State) :
    exec (.calibrationCaptureEnd raw) s =
      jobEvent (calibrationDue s) (endCalibrationLine raw) s := rfl

theorem exec_motionBegin (m : Motor) (s : State) :
    exec (.motionBegin m) s =
      jobEvent (motionBeginDue s m) (beginMotion m) s := rfl

theorem exec_feedStep (m : Motor) (s : State) :
    exec (.feedStep m) s =
      jobEvent (stepDue s m) (fun s => takeStep m (feedOf s m).nextLevel s) s := rfl

theorem exec_motorRest (m : Motor) (s : State) :
    exec (.motorRest m) s =
      jobEvent (restDue s m) (comeToRest m) s := rfl

theorem exec_energizingEnd (m : Motor) (s : State) :
    exec (.energizingEnd m) s =
      jobEvent (energizingDue s m) (endEnergizing m) s := rfl

theorem exec_holdDelayExpiry (m : Motor) (s : State) :
    exec (.holdDelayExpiry m) s =
      event (holdDelayDue s m) (setCurrent m .hold) s := rfl

theorem exec_offDelayExpiry (m : Motor) (s : State) :
    exec (.offDelayExpiry m) s =
      event (offDelayDue s m) (setCurrent m .off) s := rfl

theorem exec_pwmPeriodEnd (g : Pwm) (s : State) :
    exec (.pwmPeriodEnd g) s =
      event (generatorsRun s) (endPeriod g) s := rfl

theorem exec_docEntryChange (sheet : Bool) (s : State) :
    exec (.docEntryChange sheet) s =
      jobEvent (levelsLive s && decide (s.levels.docEntry ≠ sheet))
        (fun s => sensed { WakeCauses.none with docEntry := true } (s.onLevels (fun l => { l with docEntry := sheet }))) s := rfl

theorem exec_docReadChange (sheet : Bool) (s : State) :
    exec (.docReadChange sheet) s =
      jobEvent (levelsLive s && decide (s.levels.docRead ≠ sheet))
        (fun s =>
          let s := s.onLevels (fun l => { l with docRead := sheet })
          if sheet then sheetArrives (abandonCalibration s) else sheetLeaves s) s := rfl

theorem exec_paperChange (present : Bool) (s : State) :
    exec (.paperChange present) s =
      jobEvent (levelsLive s && decide (s.levels.paper ≠ present))
        (fun s => sensed { WakeCauses.none with paper := true } (s.onLevels (fun l => { l with paper := present }))) s := rfl

theorem exec_coverChange (opened : Bool) (s : State) :
    exec (.coverChange opened) s =
      jobEvent (levelsLive s && decide (s.levels.coverOpen ≠ opened))
        (fun s =>
          let s := s.onLevels (fun l => { l with coverOpen := opened })
          wakeCause { WakeCauses.none with cover := true } (if opened then coverOpens s else coverCloses s)) s := rfl

theorem exec_cutterHomeChange (home : Bool) (s : State) :
    exec (.cutterHomeChange home) s =
      jobEvent (levelsLive s && decide (s.levels.cutterHome ≠ home)) (homeChanged home) s := rfl

theorem exec_wakeKeyChange (pressed : Bool) (s : State) :
    exec (.wakeKeyChange pressed) s =
      event (levelsLive s && decide (s.levels.wakeKey ≠ pressed))
        (fun s =>
          let s := s.onLevels (fun l => { l with wakeKey := pressed })
          if pressed then wakeCause { WakeCauses.none with wakeKey := true } s else s) s := rfl

theorem exec_cutterTimeout (s : State) :
    exec .cutterTimeout s =
      jobEvent (timeoutDue s) cycleTimesOut s := rfl

theorem exec_printLineOffer (thermistor supply : Byte) (faults : ParityFaults) (s : State) :
    exec (.printLineOffer thermistor supply faults) s =
      jobEvent (offerDue s) (fun s => offerLine thermistor supply (s.onFaults (fun _ => faults))) s := rfl

theorem exec_strobeSubpulseEnd (s : State) :
    exec .strobeSubpulseEnd s =
      jobEvent (subpulseDue s) endSubpulse s := rfl

theorem exec_headTimerLimit (s : State) :
    exec .headTimerLimit s =
      jobEvent (headTimerDue s) endSubpulse s := rfl

theorem exec_headReady (s : State) :
    exec .headReady s =
      event (headReadyDue s) (fun s => s.onEnergy (fun e => { e with ready := true })) s := rfl

theorem exec_converterTimedSample (thermistor supply : Byte) (s : State) :
    exec (.converterTimedSample thermistor supply) s =
      jobEvent (timedSampleDue s)
        (fun s => (takeSamples thermistor supply s).onEnergy (fun e => { e with lastTimed := some s.now })) s := rfl

theorem exec_idleCountExpiry (s : State) :
    exec .idleCountExpiry s =
      event (idleExpired s) enterStandby s := rfl

theorem exec_dozeCountExpiry (s : State) :
    exec .dozeCountExpiry s =
      event (dozeExpired s) enterDoze s := rfl

theorem exec_linkReceiveEdge (s : State) :
    exec .linkReceiveEdge s =
      event (decide (s.power.mode = .doze) || decide (s.power.mode = .waking)) (wakeCause { WakeCauses.none with link := true }) s := rfl

theorem exec_wakingEnd (s : State) :
    exec .wakingEnd s =
      event (decide (s.power.mode = .waking) && passed s.power.wakingAt wakingTime s.now) reachStandby s := rfl

theorem exec_ringPulse (s : State) :
    exec .ringPulse s =
      event (slowBlocksRun s) (fun s => takePulse (ringOverdue s)) s := rfl

theorem exec_ringBurstEnd (s : State) :
    exec .ringBurstEnd s =
      event (slowBlocksRun s && burstEndDue s) judgeBurst s := rfl

theorem exec_ringGapExpiry (s : State) :
    exec .ringGapExpiry s =
      event (slowBlocksRun s && gapDue s) (ringStops .gap) s := rfl

theorem exec_alarmExpiry (s : State) :
    exec .alarmExpiry s =
      event (alarmDue s) alarmExpires s := rfl

theorem exec_silenceFirstExpiry (s : State) :
    exec .silenceFirstExpiry s =
      jobEvent (silenceExpired s && !s.silence.firstStage) firstExpiry s := rfl

theorem exec_silenceSecondExpiry (s : State) :
    exec .silenceSecondExpiry s =
      jobEvent (silenceExpired s && s.silence.firstStage) secondExpiry s := rfl

theorem exec_hostrstPulseEnd (s : State) :
    exec .hostrstPulseEnd s =
      event (pulseDue s)
        (fun s => (s.onSilence (fun x => { x with pulse := none })).onLink (fun l => { l with hostReset := false })) s := rfl

theorem exec_batteryCheck (low : Bool) (s : State) :
    exec (.batteryCheck low) s =
      event (batteryDue s) (readBattery low) s := rfl

theorem exec_powerOnReset (s : State) :
    exec .powerOnReset s =
      event true (fun s => (resetBlocks .powerOn s).onStart (fun t => { t with batteryOnly := false })) s := rfl

theorem exec_supplyDropReset (s : State) :
    exec .supplyDropReset s =
      event (!s.start.batteryOnly)
        (fun s =>
          let kind := if s.start.phase = .inReset ∧ s.start.kind = .powerOn then ResetKind.powerOn else .supplyDrop
          (resetBlocks kind s).onStart (fun t => { t with batteryOnly := true, selfRefresh := true })) s := rfl

theorem exec_supplyBelowPowerOff (s : State) :
    exec .supplyBelowPowerOff s =
      event s.start.batteryOnly (fun s => resetBlocks .powerOn s) s := rfl

theorem exec_pinReset (s : State) :
    exec .pinReset s =
      event (!supplyResetHolds s) (resetBlocks .pin) s := rfl

theorem exec_resetEnd (batteryLow sramHeld firstStrap secondStrap : Bool) (s : State) :
    exec (.resetEnd batteryLow sramHeld firstStrap secondStrap) s =
      event (decide (s.start.phase = .inReset))
        (fun s => judge batteryLow sramHeld (s.onLink (fun l => { l with rate := rateCode firstStrap secondStrap }))) s := rfl

theorem exec_settingsPhaseEnd (answers : Bool) (s : State) :
    exec (.settingsPhaseEnd answers) s =
      event (decide (s.start.phase = .settings)) (loadSettings answers) s := rfl

theorem exec_memoryPhaseEnd (block0 block512 : TagRead) (failing : List Nat) (faults : ParityFaults) (s : State) :
    exec (.memoryPhaseEnd block0 block512 failing faults) s =
      event (decide (s.start.phase = .memory))
        (fun s =>
          (if s.start.domainLost then buildFresh (sizeFound block0 block512) failing s else buildRebuilt faults s).onStart
            (fun t => { t with phase := .levels })) s := rfl

theorem exec_mechanismPhaseEnd (s : State) :
    exec .mechanismPhaseEnd s =
      event (decide (s.start.phase = .mechanism) && s.start.homing.isSome && s.start.calOutcome.isSome) release s := rfl

theorem exec_settingsStoreEnd (result : StoreResult) (s : State) :
    exec (.settingsStoreEnd result) s =
      event s.settings.writing.isSome
        (fun s => match s.settings.writing with | some w => endStore result w s | none => s) s := rfl

theorem exec_linkByteReceived (b : Byte) (framingFault : Bool) (s : State) :
    exec (.linkByteReceived b framingFault) s =
      event (receiverRuns s) (fun s => receiveByte b framingFault (beforeByte s)) s := rfl

theorem exec_mechanismLevelsTaken (levels : Levels) (s : State) :
    exec (.mechanismLevelsTaken levels) s =
      event (decide (s.start.phase = .levels))
        (fun s =>
          let s := (s.onLevels (fun _ => levels)).onStart (fun t => { t with phase := .mechanism, levels := levels })
          beginStartCalibration levels (beginHoming levels s)) s := rfl

/-! ## Every arm is an event step -/

theorem exec_is_event (i : Instr) (s : State) :
    ∃ (due : Bool) (effect : State → State), exec i s = event due effect s := by
  cases i with
  | ping _ _ _ _ => exact ⟨_, _, exec_ping _ _ _ _ _⟩
  | getEvents _ => exact ⟨_, _, exec_getEvents _ _⟩
  | eventMask _ => exact ⟨_, _, exec_eventMask _ _⟩
  | docCreate _ _ _ => exact ⟨_, _, exec_docCreate _ _ _ _⟩
  | docClose _ => exact ⟨_, _, exec_docClose _ _⟩
  | docDelete _ => exact ⟨_, _, exec_docDelete _ _⟩
  | docInfo _ => exact ⟨_, _, exec_docInfo _ _⟩
  | docList => exact ⟨_, _, exec_docList _⟩
  | pageInfo _ _ => exact ⟨_, _, exec_pageInfo _ _ _⟩
  | pageDrop _ _ => exact ⟨_, _, exec_pageDrop _ _ _⟩
  | storeStatus => exact ⟨_, _, exec_storeStatus _⟩
  | jobStart _ _ _ _ _ _ _ _ => exact ⟨_, _, exec_jobStart _ _ _ _ _ _ _ _ _⟩
  | jobAnswer _ _ => exact ⟨_, _, exec_jobAnswer _ _ _⟩
  | jobHold _ => exact ⟨_, _, exec_jobHold _ _⟩
  | jobResume _ => exact ⟨_, _, exec_jobResume _ _⟩
  | jobAbort _ => exact ⟨_, _, exec_jobAbort _ _⟩
  | jobStatus _ => exact ⟨_, _, exec_jobStatus _ _⟩
  | sendCredit _ _ => exact ⟨_, _, exec_sendCredit _ _ _⟩
  | scanCalibrate => exact ⟨_, _, exec_scanCalibrate _⟩
  | docEject => exact ⟨_, _, exec_docEject _⟩
  | paperAdvance _ => exact ⟨_, _, exec_paperAdvance _ _⟩
  | cut => exact ⟨_, _, exec_cut _⟩
  | sensorRead => exact ⟨_, _, exec_sensorRead _⟩
  | modeSet _ => exact ⟨_, _, exec_modeSet _ _⟩
  | alarmSet _ => exact ⟨_, _, exec_alarmSet _ _⟩
  | alarmRead => exact ⟨_, _, exec_alarmRead _⟩
  | settingGet _ => exact ⟨_, _, exec_settingGet _ _⟩
  | settingSet _ _ => exact ⟨_, _, exec_settingSet _ _ _⟩
  | settingsStore => exact ⟨_, _, exec_settingsStore _⟩
  | settingsDefault _ => exact ⟨_, _, exec_settingsDefault _ _⟩
  | settingsProtect => exact ⟨_, _, exec_settingsProtect _⟩
  | bootReport => exact ⟨_, _, exec_bootReport _⟩
  | clearCauses => exact ⟨_, _, exec_clearCauses _⟩
  | restart => exact ⟨_, _, exec_restart _⟩
  | unknownCommand _ => exact ⟨_, _, exec_unknownCommand _ _⟩
  | frameReceived => exact ⟨_, _, exec_frameReceived _⟩
  | frameGapTimeout => exact ⟨_, _, exec_frameGapTimeout _⟩
  | dataInRouting => exact ⟨_, _, exec_dataInRouting _⟩
  | receivedLineRecord => exact ⟨_, _, exec_receivedLineRecord _⟩
  | receivedPageBegin => exact ⟨_, _, exec_receivedPageBegin _⟩
  | receivedPageEnd => exact ⟨_, _, exec_receivedPageEnd _⟩
  | undelimitableItem => exact ⟨_, _, exec_undelimitableItem _⟩
  | replySent => exact ⟨_, _, exec_replySent _⟩
  | dataOutSent _ => exact ⟨_, _, exec_dataOutSent _ _⟩
  | scanLineEntryAdmit => exact ⟨_, _, exec_scanLineEntryAdmit _⟩
  | scanLineCaptured _ => exact ⟨_, _, exec_scanLineCaptured _ _⟩
  | spanCodeLine => exact ⟨_, _, exec_spanCodeLine _⟩
  | scanInTakeRecord => exact ⟨_, _, exec_scanInTakeRecord _⟩
  | lampWarm => exact ⟨_, _, exec_lampWarm _⟩
  | calibrationCaptureEnd _ => exact ⟨_, _, exec_calibrationCaptureEnd _ _⟩
  | motionBegin _ => exact ⟨_, _, exec_motionBegin _ _⟩
  | feedStep _ => exact ⟨_, _, exec_feedStep _ _⟩
  | motorRest _ => exact ⟨_, _, exec_motorRest _ _⟩
  | energizingEnd _ => exact ⟨_, _, exec_energizingEnd _ _⟩
  | holdDelayExpiry _ => exact ⟨_, _, exec_holdDelayExpiry _ _⟩
  | offDelayExpiry _ => exact ⟨_, _, exec_offDelayExpiry _ _⟩
  | pwmPeriodEnd _ => exact ⟨_, _, exec_pwmPeriodEnd _ _⟩
  | docEntryChange _ => exact ⟨_, _, exec_docEntryChange _ _⟩
  | docReadChange _ => exact ⟨_, _, exec_docReadChange _ _⟩
  | paperChange _ => exact ⟨_, _, exec_paperChange _ _⟩
  | coverChange _ => exact ⟨_, _, exec_coverChange _ _⟩
  | cutterHomeChange _ => exact ⟨_, _, exec_cutterHomeChange _ _⟩
  | wakeKeyChange _ => exact ⟨_, _, exec_wakeKeyChange _ _⟩
  | cutterTimeout => exact ⟨_, _, exec_cutterTimeout _⟩
  | printLineOffer _ _ _ => exact ⟨_, _, exec_printLineOffer _ _ _ _⟩
  | strobeSubpulseEnd => exact ⟨_, _, exec_strobeSubpulseEnd _⟩
  | headTimerLimit => exact ⟨_, _, exec_headTimerLimit _⟩
  | headReady => exact ⟨_, _, exec_headReady _⟩
  | converterTimedSample _ _ => exact ⟨_, _, exec_converterTimedSample _ _ _⟩
  | idleCountExpiry => exact ⟨_, _, exec_idleCountExpiry _⟩
  | dozeCountExpiry => exact ⟨_, _, exec_dozeCountExpiry _⟩
  | linkReceiveEdge => exact ⟨_, _, exec_linkReceiveEdge _⟩
  | wakingEnd => exact ⟨_, _, exec_wakingEnd _⟩
  | ringPulse => exact ⟨_, _, exec_ringPulse _⟩
  | ringBurstEnd => exact ⟨_, _, exec_ringBurstEnd _⟩
  | ringGapExpiry => exact ⟨_, _, exec_ringGapExpiry _⟩
  | alarmExpiry => exact ⟨_, _, exec_alarmExpiry _⟩
  | silenceFirstExpiry => exact ⟨_, _, exec_silenceFirstExpiry _⟩
  | silenceSecondExpiry => exact ⟨_, _, exec_silenceSecondExpiry _⟩
  | hostrstPulseEnd => exact ⟨_, _, exec_hostrstPulseEnd _⟩
  | batteryCheck _ => exact ⟨_, _, exec_batteryCheck _ _⟩
  | powerOnReset => exact ⟨_, _, exec_powerOnReset _⟩
  | supplyDropReset => exact ⟨_, _, exec_supplyDropReset _⟩
  | supplyBelowPowerOff => exact ⟨_, _, exec_supplyBelowPowerOff _⟩
  | pinReset => exact ⟨_, _, exec_pinReset _⟩
  | resetEnd _ _ _ _ => exact ⟨_, _, exec_resetEnd _ _ _ _ _⟩
  | settingsPhaseEnd _ => exact ⟨_, _, exec_settingsPhaseEnd _ _⟩
  | memoryPhaseEnd _ _ _ _ => exact ⟨_, _, exec_memoryPhaseEnd _ _ _ _ _⟩
  | mechanismPhaseEnd => exact ⟨_, _, exec_mechanismPhaseEnd _⟩
  | settingsStoreEnd _ => exact ⟨_, _, exec_settingsStoreEnd _ _⟩
  | linkByteReceived _ _ => exact ⟨_, _, exec_linkByteReceived _ _ _⟩
  | mechanismLevelsTaken _ => exact ⟨_, _, exec_mechanismLevelsTaken _ _⟩

/-- What a step can do: the effect of its arm, ended by `settle`, or nothing. -/
theorem exec_cases {i : Instr} {s t : State} (h : exec i s = .next t) : (∃ effect : State → State, t = settle (effect s)) ∨ t = s := by
  obtain ⟨due, effect, he⟩ := exec_is_event i s
  rcases event_cases (he ▸ h) with ⟨_, rfl⟩ | ⟨_, rfl⟩
  · exact .inl ⟨effect, rfl⟩
  · exact .inr rfl

end Sys2Proof.Machine
end

