-- ==== Sys2Proof/Laws/Frame.lean ====
section
/-! SUPPORT. What the shared operations of the store, the readers, the jobs and their sides leave alone, said once for each of them, and
for the rules that `advance` applies. -/

namespace Sys2Proof.Machine

/-- What the machinery of the jobs leaves as it is: the queue, the clock, the start-up, the levels, the ringing, the
Wake Timer, the silence count, the settings, the power mode, the head's READY and strobe, the motor currents and the link's acceptances; a
job slot that is empty stays so, and the page DRAM keeps its canonical form. -/
structure Kept (s t : State) : Prop where
  pending : t.pending = s.pending
  now : t.now = s.now
  start : t.start = s.start
  levels : t.levels = s.levels
  ring : t.ring = s.ring
  wake : t.wake = s.wake
  silence : t.silence = s.silence
  settings : t.settings = s.settings
  power : t.power = s.power
  ready : t.energy.ready = s.energy.ready
  firing : t.energy.firing = s.energy.firing
  scanCurrent : t.mech.scanFeed.current = s.mech.scanFeed.current
  printCurrent : t.mech.printFeed.current = s.mech.printFeed.current
  doze : t.link.dozeAccepted = s.link.dozeAccepted
  restart : t.link.restartAccepted = s.link.restartAccepted
  slotCount : t.jobs.slots.length = s.jobs.slots.length
  emptySlot : ∀ k : Nat, s.jobs.slots[k]? = some none → t.jobs.slots[k]? = some none
  dram : Memory.wf s.dram = true → Memory.wf t.dram = true

theorem Kept.refl (s : State) : Kept s s :=
  ⟨rfl, rfl, rfl, rfl, rfl, rfl, rfl, rfl, rfl, rfl, rfl, rfl, rfl, rfl, rfl, rfl, fun _ h => h, fun h => h⟩

theorem Kept.trans {s t u : State} (a : Kept s t) (b : Kept t u) : Kept s u :=
  { pending := b.pending.trans a.pending, now := b.now.trans a.now, start := b.start.trans a.start
    levels := b.levels.trans a.levels, ring := b.ring.trans a.ring
    wake := b.wake.trans a.wake, silence := b.silence.trans a.silence, settings := b.settings.trans a.settings
    power := b.power.trans a.power, ready := b.ready.trans a.ready, firing := b.firing.trans a.firing
    scanCurrent := b.scanCurrent.trans a.scanCurrent, printCurrent := b.printCurrent.trans a.printCurrent
    doze := b.doze.trans a.doze, restart := b.restart.trans a.restart, slotCount := b.slotCount.trans a.slotCount
    emptySlot := fun k h => b.emptySlot k (a.emptySlot k h), dram := fun h => b.dram (a.dram h) }

/-! ## The updates of the blocks -/

variable {s u : State}

theorem kept_onStore {f : Store → Store} (h : Kept u s) : Kept u (s.onStore f) :=
  h.trans ⟨rfl, rfl, rfl, rfl, rfl, rfl, rfl, rfl, rfl, rfl, rfl, rfl, rfl, rfl, rfl, rfl, fun _ h => h, fun h => h⟩

theorem kept_onScan {f : ScanPath → ScanPath} (h : Kept u s) : Kept u (s.onScan f) :=
  h.trans ⟨rfl, rfl, rfl, rfl, rfl, rfl, rfl, rfl, rfl, rfl, rfl, rfl, rfl, rfl, rfl, rfl, fun _ h => h, fun h => h⟩

theorem kept_onEvents {f : Events → Events} (h : Kept u s) : Kept u (s.onEvents f) :=
  h.trans ⟨rfl, rfl, rfl, rfl, rfl, rfl, rfl, rfl, rfl, rfl, rfl, rfl, rfl, rfl, rfl, rfl, fun _ h => h, fun h => h⟩

theorem kept_onEnergy {f : Energy → Energy} (hr : ∀ e, (f e).ready = e.ready) (hf : ∀ e, (f e).firing = e.firing) (h : Kept u s) :
    Kept u (s.onEnergy f) :=
  h.trans ⟨rfl, rfl, rfl, rfl, rfl, rfl, rfl, rfl, rfl, hr _, hf _, rfl, rfl, rfl, rfl, rfl, fun _ h => h, fun h => h⟩

theorem kept_onMech {f : Mechanism → Mechanism} (hs : ∀ x, (f x).scanFeed.current = x.scanFeed.current)
    (hp : ∀ x, (f x).printFeed.current = x.printFeed.current) (h : Kept u s) : Kept u (s.onMech f) :=
  h.trans ⟨rfl, rfl, rfl, rfl, rfl, rfl, rfl, rfl, rfl, rfl, rfl, hs _, hp _, rfl, rfl, rfl, fun _ h => h, fun h => h⟩

theorem kept_onLink {f : Link → Link} (hd : ∀ l, (f l).dozeAccepted = l.dozeAccepted)
    (hr : ∀ l, (f l).restartAccepted = l.restartAccepted) (h : Kept u s) : Kept u (s.onLink f) :=
  h.trans ⟨rfl, rfl, rfl, rfl, rfl, rfl, rfl, rfl, rfl, rfl, rfl, rfl, rfl, hd _, hr _, rfl, fun _ h => h, fun h => h⟩

/-- An update of the jobs that leaves the slots. -/
theorem kept_onJobs {f : WorkOrders → WorkOrders} (hs : ∀ w, (f w).slots = w.slots) (h : Kept u s) : Kept u (s.onJobs f) :=
  h.trans ⟨rfl, rfl, rfl, rfl, rfl, rfl, rfl, rfl, rfl, rfl, rfl, rfl, rfl, rfl, rfl, congrArg List.length (hs _),
    fun k hk => (congrArg (fun l => l[k]?) (hs s.jobs)).trans hk, fun h => h⟩

theorem length_modifyAt {α : Type} (f : α → α) (i : Nat) (l : List α) : (modifyAt i f l).length = l.length := by
  induction l generalizing i with
  | nil => cases i <;> rfl
  | cons x xs ih => cases i <;> simp [modifyAt, ih]

theorem getElem?_modifyAt {α : Type} (f : α → α) (i k : Nat) (l : List α) :
    (modifyAt i f l)[k]? = if k = i then l[k]?.map f else l[k]? := by
  induction l generalizing i k with
  | nil => cases i <;> simp [modifyAt]
  | cons x xs ih => cases i <;> cases k <;> simp [modifyAt, ih]

theorem kept_onJob {k : Nat} {f : Job → Job} (h : Kept u s) : Kept u (onJob k f s) := by
  refine h.trans ⟨rfl, rfl, rfl, rfl, rfl, rfl, rfl, rfl, rfl, rfl, rfl, rfl, rfl, rfl, rfl, length_modifyAt _ _ _, ?_, fun h => h⟩
  intro i hi
  show (modifyAt k (Option.map f) s.jobs.slots)[i]? = some none
  rw [getElem?_modifyAt, hi]
  split <;> rfl

/-- An update of every job leaves the empty slots. -/
theorem kept_mapJobs {f : Job → Job} (h : Kept u s) :
    Kept u (s.onJobs (fun w => { w with slots := w.slots.map (Option.map f) })) := by
  refine h.trans ⟨rfl, rfl, rfl, rfl, rfl, rfl, rfl, rfl, rfl, rfl, rfl, rfl, rfl, rfl, rfl, List.length_map _, ?_, fun h => h⟩
  intro i hi
  show (s.jobs.slots.map (Option.map f))[i]? = some none
  rw [List.getElem?_map, hi]; rfl

/-- A slot given up. -/
theorem kept_clearSlot {k : Nat} (h : Kept u s) : Kept u (s.onJobs (fun w => { w with slots := w.slots.set k none })) := by
  refine h.trans ⟨rfl, rfl, rfl, rfl, rfl, rfl, rfl, rfl, rfl, rfl, rfl, rfl, rfl, rfl, rfl, List.length_set, ?_, fun h => h⟩
  intro i hi
  show (s.jobs.slots.set k none)[i]? = some none
  rw [List.getElem?_set, hi]
  have : i < s.jobs.slots.length := (List.getElem?_eq_some_iff.1 hi).1
  split
  · subst k; simp [this]
  · rfl

theorem kept_onFeed {m : Motor} {f : Feed → Feed} (hc : ∀ x, (f x).current = x.current) (h : Kept u s) : Kept u (onFeed m f s) := by
  cases m
  · exact kept_onMech (fun _ => hc _) (fun _ => rfl) h
  · exact kept_onMech (fun _ => rfl) (fun _ => hc _) h

theorem kept_storeBytes {a : Nat} {bs : List Byte} (h : Kept u s) : Kept u (storeBytes a bs s) :=
  h.trans ⟨rfl, rfl, rfl, rfl, rfl, rfl, rfl, rfl, rfl, rfl, rfl, rfl, rfl, rfl, rfl, rfl, fun _ h => h,
    memory_wf_storeBytes s a bs⟩

theorem kept_foldl {α : Type} {g : State → α → State} {l : List α} (hg : ∀ t x, Kept u t → Kept u (g t x)) (h : Kept u s) :
    Kept u (l.foldl g s) := by
  induction l generalizing s with
  | nil => exact h
  | cons x xs ih => exact ih (hg s x h)

/-! ## Ops.lean -/

theorem kept_onPage {slot : Nat} {f : Page → Page} (hk : Kept u s) : Kept u (onPage slot f s) := by
  unfold onPage; repeat (first | assumption | apply kept_onStore)

theorem kept_onBlock {b : Nat} {f : Block → Block} (hk : Kept u s) : Kept u (onBlock b f s) := by
  unfold onBlock; repeat (first | assumption | apply kept_onStore)

theorem kept_onDoc {n : Nat} {f : Document → Document} (hk : Kept u s) : Kept u (onDoc n f s) := by
  unfold onDoc; (repeat' split) <;> repeat (first | assumption | apply kept_onStore)

theorem kept_setHolder {e : Engine} {h : Holder} (hk : Kept u s) : Kept u (setHolder e h s) := by
  unfold setHolder; repeat (first | assumption | (intro _; rfl) | apply kept_clearSlot | apply kept_mapJobs | apply kept_onJobs)

/-- All that a free engine's taking does. -/
theorem takeEngine_eq {e : Engine} {h : Holder} :
    takeEngine e h s = { setHolder e h s with
      power := if e = .scanner ∨ e = .printer then { s.power with idleFrom := none } else s.power } := by
  cases e <;> rfl

theorem kept_endOp {e : Engine} {op : InternalOp} (hk : Kept u s) : Kept u (endOp e op s) := by
  unfold endOp; (repeat' split) <;> repeat (first | assumption | apply kept_setHolder)

/-! ## Flags.lean -/

theorem kept_raise {n : Nat} {d : Detail} (hk : Kept u s) : Kept u (raise n d s) := by
  unfold raise; (repeat' split) <;> repeat (first | assumption | apply kept_onEvents)

theorem kept_linkFault {f : LinkFault} (hk : Kept u s) : Kept u (linkFault f s) := by
  unfold linkFault; repeat (first | assumption | (intro _; rfl) | apply kept_onLink | apply kept_raise)

theorem kept_raiseSensor (hk : Kept u s) : Kept u (raiseSensor s) := by
  unfold raiseSensor; repeat (first | assumption | apply kept_raise)

theorem kept_raiseDone {op : DoneOp} {o : DoneOutcome} {steps : Nat} (hk : Kept u s) : Kept u (raiseDone op o steps s) := by
  unfold raiseDone; repeat (first | assumption | apply kept_raise)

/-! ## LinkOps.lean -/

theorem kept_beginSending {what : Sending} (hk : Kept u s) : Kept u (beginSending what s) := by
  unfold beginSending; repeat (first | assumption | (intro _; rfl) | apply kept_onLink)

/-! ## StoreOps.lean -/

theorem kept_lowAfterTaking (hk : Kept u s) : Kept u (lowAfterTaking s) := by
  unfold lowAfterTaking; (try dsimp only); (repeat' split) <;> repeat (first | assumption | apply kept_onStore | apply kept_raise)

theorem kept_lowAfterFreeing (hk : Kept u s) : Kept u (lowAfterFreeing s) := by
  unfold lowAfterFreeing; (repeat' split) <;> repeat (first | assumption | apply kept_onStore)

theorem kept_lowAfterSetting (hk : Kept u s) : Kept u (lowAfterSetting s) := by
  unfold lowAfterSetting; (try dsimp only); repeat (first | assumption | apply kept_onStore)

theorem kept_linkBlock {slot b : Nat} (hk : Kept u s) : Kept u (linkBlock slot b s) := by
  unfold linkBlock; (try dsimp only); (repeat' split) <;> repeat (first | assumption | apply kept_onPage | apply kept_onBlock)

theorem kept_allocate {slot : Nat} {t : State} (ht : allocate slot s = some t) (hk : Kept u s) : Kept u t := by
  obtain ⟨_, _, rfl⟩ := Option.map_eq_some_iff.1 ht
  exact kept_lowAfterTaking (kept_linkBlock hk)

theorem kept_freeBlock {b : Nat} (hk : Kept u s) : Kept u (freeBlock b s) := by
  unfold freeBlock; repeat (first | assumption | apply kept_onBlock | apply kept_lowAfterFreeing)

theorem kept_freeBlocksOf {bs : List Nat} (hk : Kept u s) : Kept u (freeBlocksOf bs s) := by
  unfold freeBlocksOf; repeat (first | assumption | apply kept_freeBlock | (apply kept_foldl; intro _ _ hh))

theorem kept_forgetPage {slot : Nat} (hk : Kept u s) : Kept u (forgetPage slot s) := by
  unfold forgetPage; repeat (first | assumption | apply kept_onStore)

theorem kept_erasePage {slot : Nat} (hk : Kept u s) : Kept u (erasePage slot s) := by
  unfold erasePage; (try dsimp only); repeat (first | assumption | apply kept_onDoc | apply kept_onPage | apply kept_freeBlocksOf | apply kept_forgetPage)

theorem kept_discardPage {slot : Nat} (hk : Kept u s) : Kept u (discardPage slot s) := by
  unfold discardPage; (try dsimp only); repeat (first | assumption | (intro _; rfl) | apply kept_onStore | apply kept_erasePage | apply kept_mapJobs | apply kept_onJobs)

theorem kept_removePage {slot : Nat} (hk : Kept u s) : Kept u (removePage slot s) := kept_mapJobs (kept_discardPage hk)

theorem kept_onWriter {n : Nat} {f : Job → Job} (hk : Kept u s) : Kept u (onWriter n f s) := by
  unfold onWriter; (repeat' split) <;> repeat (first | assumption | apply kept_onJob)

theorem kept_dropWaiter {w : Waiter} (hk : Kept u s) : Kept u (dropWaiter w s) := by
  unfold dropWaiter; repeat (first | assumption | apply kept_onStore)

theorem kept_addWaiter {w : Waiter} (hk : Kept u s) : Kept u (addWaiter w s) := by
  unfold addWaiter; repeat (first | assumption | apply kept_onStore)

theorem kept_dropScanHeld (hk : Kept u s) : Kept u (dropScanHeld s) := by
  unfold dropScanHeld; (try dsimp only); repeat (first | assumption | apply kept_onStore | apply kept_dropWaiter)

theorem kept_dropLinkHeld (hk : Kept u s) : Kept u (dropLinkHeld s) := by
  unfold dropLinkHeld; repeat (first | assumption | apply kept_onStore | apply kept_dropWaiter)

theorem kept_freeTaken (hk : Kept u s) : Kept u (freeTaken s) := by
  unfold freeTaken; repeat (first | assumption | apply kept_onScan)

theorem kept_writerLosesPage {slot : Nat} (hk : Kept u s) : Kept u (writerLosesPage slot s) := by
  unfold writerLosesPage; (try dsimp only); (repeat' split) <;> repeat (first | assumption | apply kept_onStore | apply kept_dropLinkHeld | apply kept_dropScanHeld | apply kept_freeTaken)

theorem kept_commitRecord {slot : Nat} {conceals : Bool} (hk : Kept u s) : Kept u (commitRecord slot conceals s) := by
  unfold commitRecord; (try dsimp only); repeat (first | assumption | apply kept_onWriter | apply kept_onPage)

theorem kept_dropPageLine {slot : Nat} (hk : Kept u s) : Kept u (dropPageLine slot s) := by
  unfold dropPageLine; repeat (first | assumption | apply kept_onJob | apply kept_onPage)

theorem kept_dropAtLimit {slot : Nat} (hk : Kept u s) : Kept u (dropAtLimit slot s) := by
  unfold dropAtLimit; repeat (first | assumption | apply kept_dropPageLine | apply kept_onWriter)

theorem kept_endPageNormally {slot : Nat} (hk : Kept u s) : Kept u (endPageNormally slot s) := by
  unfold endPageNormally; repeat (first | assumption | apply kept_onPage)

theorem kept_keepShort {slot : Nat} (hk : Kept u s) : Kept u (keepShort slot s) := by
  unfold keepShort; repeat (first | assumption | apply kept_onPage)

theorem kept_raiseFull {r : FullReason} (hk : Kept u s) : Kept u (raiseFull r s) := by
  unfold raiseFull; (try dsimp only); (repeat' split) <;> repeat (first | assumption | apply kept_raise)

/-! ## Readers.lean -/

theorem kept_onReader {o : Outlet} {f : Reader → Reader} (hk : Kept u s) : Kept u (onReader o f s) := by
  unfold onReader; (repeat' split) <;> repeat (first | assumption | apply kept_onStore)

theorem kept_onReaderJob {o : Outlet} {f : Job → Job} (hk : Kept u s) : Kept u (onReaderJob o f s) := by
  unfold onReaderJob; (repeat' split) <;> repeat (first | assumption | apply kept_onJob)

theorem kept_whitenHistory (hk : Kept u s) : Kept u (whitenHistory s) := by
  unfold whitenHistory; repeat (first | assumption | (intro _; rfl) | apply kept_onEnergy)

theorem kept_whitenFor {o : Outlet} (hk : Kept u s) : Kept u (whitenFor o s) := by
  unfold whitenFor; (repeat' split) <;> repeat (first | assumption | apply kept_whitenHistory)

theorem kept_trimPage {slot lines : Nat} {place : Option Cursor} (hk : Kept u s) : Kept u (trimPage slot lines place s) := by
  unfold trimPage; (try dsimp only); (repeat' split) <;> repeat (first | assumption | apply kept_freeBlocksOf | apply kept_onBlock | apply kept_onPage)

theorem kept_damagePage {slot lines : Nat} {place : Option Cursor} (hk : Kept u s) : Kept u (damagePage slot lines place s) := by
  unfold damagePage; (try dsimp only); (repeat' split) <;> repeat (first | assumption | apply kept_onStore | apply kept_writerLosesPage | apply kept_trimPage)

theorem kept_chainFault {o : Outlet} {slot : Nat} (hk : Kept u s) : Kept u (chainFault o slot s) := by
  unfold chainFault; (try dsimp only); (repeat' split) <;> repeat (first | assumption | apply kept_onReader | apply kept_raise | apply kept_damagePage)

theorem kept_beginPage {o : Outlet} {n index slot : Nat} {freeAsRead : Bool} (hk : Kept u s) : Kept u (beginPage o n index slot freeAsRead s) := by
  unfold beginPage; (try dsimp only); (repeat' split) <;> repeat (first | assumption | apply kept_chainFault | apply kept_whitenFor | apply kept_onPage | apply kept_onReader)

theorem kept_lastReaderLeft {slot : Nat} (hk : Kept u s) : Kept u (lastReaderLeft slot s) := by
  unfold lastReaderLeft; (try dsimp only); (repeat' split) <;> repeat (first | assumption | apply kept_onPage | apply kept_writerLosesPage | apply kept_removePage)

theorem kept_leavePage {o : Outlet} (hk : Kept u s) : Kept u (leavePage o s) := by
  unfold leavePage; (try dsimp only); (repeat' split) <;> repeat (first | assumption | apply kept_lastReaderLeft | apply kept_onPage | apply kept_onReader)

theorem kept_toConsumed {o : Outlet} (hk : Kept u s) : Kept u (toConsumed o s) := by
  unfold toConsumed; repeat (first | assumption | apply kept_onReader | apply kept_whitenFor)

theorem kept_toStart {o : Outlet} (hk : Kept u s) : Kept u (toStart o s) := by
  unfold toStart; (repeat' split) <;> repeat (first | assumption | apply kept_onReader | apply kept_whitenFor | apply kept_toConsumed)

theorem kept_suspectBlocks {bs : List Nat} (hk : Kept u s) : Kept u (suspectBlocks bs s) := by
  unfold suspectBlocks; repeat (first | assumption | apply kept_onBlock | (apply kept_foldl; intro _ _ hh))

theorem kept_handOn {o : Outlet} {image : Line} {record : List Byte} {after : Cursor} (hk : Kept u s) : Kept u (handOn o image record after s) := by
  unfold handOn; repeat (first | assumption | apply kept_onReader)

theorem kept_conceal {o : Outlet} {slot : Nat} {w : PageWidth} {bs : List ChainByte} {failing : List ChainByte} (hk : Kept u s) : Kept u (conceal o slot w bs failing s) := by
  unfold conceal; (try dsimp only); (repeat' split) <;> repeat (first | assumption | apply kept_onReader | apply kept_handOn | apply kept_raise | apply kept_damagePage | apply kept_onReaderJob | apply kept_onPage | apply kept_suspectBlocks)

theorem kept_countRecovered {bs : List ChainByte} (hk : Kept u s) : Kept u (countRecovered bs s) := by
  unfold countRecovered; (repeat' split) <;> repeat (first | assumption | apply kept_onStore)

theorem kept_arriveAt {o : Outlet} {c : Cursor} (hk : Kept u s) : Kept u (arriveAt o c s) := kept_onReader hk

theorem kept_readHere {o : Outlet} {slot : Nat} (hk : Kept u s) : Kept u (readHere o slot s) := by
  unfold readHere; (try dsimp only); (repeat' split) <;> repeat (first | assumption | apply kept_handOn | apply kept_countRecovered | apply kept_conceal | apply kept_chainFault)

theorem kept_readLineOf {o : Outlet} (hk : Kept u s) : Kept u (readLineOf o s) := by
  unfold readLineOf; (try dsimp only); (repeat' split) <;> repeat (first | assumption | apply kept_arriveAt | apply kept_readHere | apply kept_chainFault)

theorem kept_consumeLine {o : Outlet} (hk : Kept u s) : Kept u (consumeLine o s) := by
  unfold consumeLine; (try dsimp only); (repeat' split) <;> repeat (first | assumption | apply kept_onReaderJob | apply kept_onReader)

theorem kept_freeFront {slot next : Nat} (hk : Kept u s) : Kept u (freeFront slot next s) := by
  unfold freeFront; (try dsimp only); repeat (first | assumption | apply kept_freeBlock | apply kept_onStore | apply kept_onPage)

theorem kept_farRule {o : Outlet} {t : State} (ht : farRule o s = some t) (hk : Kept u s) : Kept u t := by
  unfold farRule at ht
  split at ht
  · cases ht
  · obtain ⟨_, _, rfl⟩ := Option.map_eq_some_iff.1 ht
    exact kept_freeFront hk

/-! ## FeedOps.lean -/

theorem kept_enqueue {m : Motor} {e : Entry} (hk : Kept u s) : Kept u (enqueue m e s) := by
  unfold enqueue; repeat (first | assumption | (intro _; rfl) | apply kept_onFeed)

theorem kept_beginCycle (hk : Kept u s) : Kept u (beginCycle s) := by
  unfold beginCycle; repeat (first | assumption | (intro _; rfl) | apply kept_onMech)

/-! ## EnergyOps.lean -/

/-! ## JobOps.lean -/

theorem kept_freeSlots (hk : Kept u s) : Kept u (freeSlots s) := by
  unfold freeSlots; repeat (first | assumption | apply kept_onScan)

theorem kept_discardScanPage (hk : Kept u s) : Kept u (discardScanPage s) := by
  unfold discardScanPage; (try dsimp only); (repeat' split) <;> repeat (first | assumption | apply kept_discardPage | apply kept_onStore | apply kept_dropScanHeld | apply kept_freeSlots)

theorem kept_keepScanPage (hk : Kept u s) : Kept u (keepScanPage s) := by
  unfold keepScanPage; (try dsimp only); (repeat' split) <;> repeat (first | assumption | apply kept_onStore | apply kept_keepShort | apply kept_dropScanHeld | apply kept_freeSlots)

theorem kept_endLinkPage {keep : Bool} (hk : Kept u s) : Kept u (endLinkPage keep s) := by
  unfold endLinkPage; (try dsimp only); (repeat' split) <;> repeat (first | assumption | apply kept_discardPage | apply kept_keepShort | apply kept_dropLinkHeld)

theorem kept_raiseJob {k : Nat} {final : Option FinalStatus} (hk : Kept u s) : Kept u (raiseJob k final s) := by
  unfold raiseJob; (repeat' split) <;> repeat (first | assumption | apply kept_raise)

theorem kept_codeEffect {b : Boundary} (hk : Kept u s) : Kept u (codeEffect b s) := by
  unfold codeEffect; (repeat' split) <;> repeat (first | assumption | apply kept_raiseFull | apply kept_dropWaiter | apply kept_discardScanPage)

theorem kept_enterBoundary {k : Nat} {b : Boundary} (hk : Kept u s) : Kept u (enterBoundary k b s) := by
  unfold enterBoundary; (try dsimp only); repeat (first | assumption | apply kept_onJob | apply kept_raiseJob | apply kept_codeEffect)

theorem kept_enterStopped {k : Nat} {stop : Stop} (hk : Kept u s) : Kept u (enterStopped k stop s) := by
  unfold enterStopped; (repeat' split) <;> repeat (first | assumption | apply kept_enterBoundary | apply kept_onJob)

theorem kept_stopJob {k : Nat} {stop : Stop} (hk : Kept u s) : Kept u (stopJob k stop s) := by
  unfold stopJob; (repeat' split) <;> repeat (first | assumption | apply kept_onJob | apply kept_enterStopped)

theorem kept_onWaits {e : Engine} {f : List Nat → List Nat} (hk : Kept u s) : Kept u (onWaits e f s) := kept_onJobs (fun _ => rfl) hk

theorem kept_joinLists {k : Nat} {kind : JobKind} {yields : Bool} (hk : Kept u s) : Kept u (joinLists k kind yields s) :=
  kept_foldl (fun _ _ ht => kept_onWaits ht) hk

theorem kept_leaveLists {k : Nat} (hk : Kept u s) : Kept u (leaveLists k s) := kept_foldl (fun _ _ ht => kept_onWaits ht) hk

theorem kept_beginWork {e : Engine} (hk : Kept u s) : Kept u (beginWork e s) := by
  unfold beginWork; (repeat' split) <;> repeat (first | assumption | (intro _; rfl) | apply kept_onStore | apply kept_onScan | apply kept_clearSlot | apply kept_mapJobs | apply kept_onJobs)

theorem kept_yieldJob {k : Nat} {j : Job} (hk : Kept u s) : Kept u (yieldJob k j s) := by
  unfold yieldJob; (try dsimp only); (repeat' split) <;> repeat (first | assumption | (intro _; rfl) | apply kept_onScan | apply kept_joinLists | apply kept_setHolder | apply kept_onJob | apply kept_clearSlot | apply kept_mapJobs | apply kept_onJobs | (apply kept_foldl; intro _ _ hh))

theorem kept_endWriting {kind : JobKind} {keep : Bool} (hk : Kept u s) : Kept u (endWriting kind keep s) := by
  unfold endWriting; (repeat' split) <;> repeat (first | assumption | apply kept_endLinkPage | apply kept_discardScanPage | apply kept_keepScanPage)

theorem kept_endReading {kind : JobKind} (hk : Kept u s) : Kept u (endReading kind s) := by
  unfold endReading; (repeat' split) <;> repeat (first | assumption | apply kept_leavePage)

theorem kept_giveUpWriting {n id : Nat} (hk : Kept u s) : Kept u (giveUpWriting n id s) := by
  unfold giveUpWriting; (repeat' split) <;> repeat (first | assumption | apply kept_onDoc)

theorem kept_leaveDocument {j : Job} (hk : Kept u s) : Kept u (leaveDocument j s) := by
  unfold leaveDocument; repeat (first | assumption | apply kept_onDoc | apply kept_giveUpWriting)

theorem kept_feedOnlyQueue {m : Motor} (hk : Kept u s) : Kept u (feedOnlyQueue m s) := by
  unfold feedOnlyQueue; repeat (first | assumption | (intro _; rfl) | apply kept_onFeed)

theorem kept_releaseEngine {e : Engine} (hk : Kept u s) : Kept u (releaseEngine e s) := by
  unfold releaseEngine; (try dsimp only); (repeat' split) <;> repeat (first | assumption | (intro _; rfl) | apply kept_onLink | apply kept_onStore | apply kept_linkFault | apply kept_setHolder | apply kept_onScan | apply kept_feedOnlyQueue | apply kept_dropWaiter | apply kept_clearSlot | apply kept_mapJobs | apply kept_onJobs | (apply kept_foldl; intro _ _ hh))

theorem kept_endJob {k : Nat} {status : FinalStatus} (hk : Kept u s) : Kept u (endJob k status s) := by
  unfold endJob
  split
  · exact hk
  · refine kept_clearSlot (kept_raiseJob (kept_foldl (fun _ _ ht => kept_releaseEngine ht) (kept_leaveDocument ?_)))
    split
    · exact kept_leaveLists hk
    · exact kept_endReading (kept_endWriting hk)

theorem kept_compareAtPageEnd {k : Nat} (hk : Kept u s) : Kept u (compareAtPageEnd k s) := by
  unfold compareAtPageEnd; (repeat' split) <;> repeat (first | assumption | apply kept_onJob | apply kept_yieldJob)

theorem kept_endIfDone {k : Nat} (hk : Kept u s) : Kept u (endIfDone k s) := by
  unfold endIfDone; (repeat' split) <;> repeat (first | assumption | apply kept_endJob | apply kept_onJob)

theorem kept_moveOn {k : Nat} (hk : Kept u s) : Kept u (moveOn k s) := kept_compareAtPageEnd (kept_endIfDone (kept_onJob hk))

/-! ## Boundaries.lean -/

theorem kept_carryNext {k : Nat} (hk : Kept u s) : Kept u (carryNext k s) := by
  unfold carryNext; (repeat' split) <;> repeat (first | assumption | (intro _; rfl) | apply kept_moveOn | apply kept_onScan | apply kept_compareAtPageEnd | apply kept_onJobs)

theorem kept_carryRepeat {k : Nat} (hk : Kept u s) : Kept u (carryRepeat k s) := by
  unfold carryRepeat; (try dsimp only); (repeat' split) <;> repeat (first | assumption | (intro _; rfl) | apply kept_onJob | apply kept_clearSlot | apply kept_mapJobs | apply kept_onJobs)

theorem kept_carryPageEnd {k : Nat} {c : Choice} (hk : Kept u s) : Kept u (carryPageEnd k c s) := by
  unfold carryPageEnd; (repeat' split) <;> repeat (first | assumption | apply kept_endJob | apply kept_carryRepeat | apply kept_carryNext)

theorem kept_meet {k : Nat} {b : Boundary} (hk : Kept u s) : Kept u (meet k b s) := by
  unfold meet; (repeat' split) <;> repeat (first | assumption | apply kept_stopJob | apply kept_carryPageEnd)

/-! ## ScanSide.lean -/

theorem kept_lampOn (hk : Kept u s) : Kept u (lampOn s) := by
  unfold lampOn; repeat (first | assumption | apply kept_onScan)

theorem kept_lampOff (hk : Kept u s) : Kept u (lampOff s) := by
  unfold lampOff; repeat (first | assumption | apply kept_onScan)

theorem kept_raiseDocJam {pick long : Bool} (hk : Kept u s) : Kept u (raiseDocJam pick long s) := by
  unfold raiseDocJam; repeat (first | assumption | apply kept_raise)

theorem kept_setScanPhase {p : ScanPhase} (hk : Kept u s) : Kept u (setScanPhase p s) := by
  unfold setScanPhase; repeat (first | assumption | apply kept_onScan)

theorem kept_acceptStart {k slot : Nat} (hk : Kept u s) : Kept u (acceptStart k slot s) := by
  unfold acceptStart; (try dsimp only); repeat (first | assumption | apply kept_onJob | apply kept_lampOn | apply kept_onScan | apply kept_onStore)

theorem kept_startPage {n : Nat} {r : Resolution} {w : PageWidth} {f : Bool} {v : Nat × State}
    (ht : startPage n r w f s = .ok v) (hk : Kept u s) : Kept u v.2 := by
  unfold startPage at ht
  split at ht
  · cases ht
  split at ht
  · cases ht
  split at ht
  · cases ht
  · cases ht
    dsimp only
    generalize hv : allocate _ _ = v
    cases v with
    | none => exact kept_onDoc (kept_onPage hk)
    | some x => exact kept_allocate hv (kept_onDoc (kept_onPage hk))

theorem kept_scanStart {j : Job} {v : Nat × State} (ht : scanStart s j = .ok v) (hk : Kept u s) : Kept u v.2 := kept_startPage ht hk

theorem kept_requestStart {k : Nat} {j : Job} (hk : Kept u s) : Kept u (requestStart k j s) := by
  unfold requestStart
  split
  · exact kept_acceptStart (kept_scanStart (by assumption) hk)
  · exact kept_onScan (kept_onJob hk)

theorem kept_waitSilently {k : Nat} {atStart : Bool} (hk : Kept u s) : Kept u (waitSilently k atStart s) := by
  unfold waitSilently; (try dsimp only); (repeat' split) <;> repeat (first | assumption | apply kept_dropWaiter | apply kept_addWaiter | apply kept_onJob)

theorem kept_meetFull {k : Nat} {r : FullReason} {mid : Bool} (hk : Kept u s) : Kept u (meetFull k r mid s) := by
  unfold meetFull; (try dsimp only); repeat (first | assumption | apply kept_meet | apply kept_dropWaiter | apply kept_onJob)

theorem kept_noRoom {k : Nat} {j : Job} {r : FullReason} {mid : Bool} {t : State} (ht : noRoom k j r mid s = some t) (hk : Kept u s) : Kept u t := by
  unfold noRoom at ht; (repeat' split at ht) <;>
    first | (cases ht; done) | (cases ht; repeat (first | assumption | apply kept_meetFull | apply kept_waitSilently))

theorem kept_leadingEdge (hk : Kept u s) : Kept u (leadingEdge s) := by
  unfold leadingEdge; (try dsimp only); repeat (first | assumption | apply kept_onScan)

theorem kept_trailingEdge (hk : Kept u s) : Kept u (trailingEdge s) := by
  unfold trailingEdge; (try dsimp only); repeat (first | assumption | apply kept_onScan)

theorem kept_restingEdge (hk : Kept u s) : Kept u (restingEdge s) := kept_onScan hk

theorem kept_edgeStep (hk : Kept u s) : Kept u (edgeStep s) := kept_onScan hk

theorem kept_placeEdge (hk : Kept u s) : Kept u (placeEdge s) := by
  unfold placeEdge; (try dsimp only); (repeat' split) <;> repeat (first | assumption | apply kept_trailingEdge | apply kept_leadingEdge | apply kept_edgeStep)

theorem kept_jamScan {k : Nat} {r : Reason} (hk : Kept u s) : Kept u (jamScan k r s) := by
  unfold jamScan; (try dsimp only); repeat (first | assumption | apply kept_onScan | apply kept_meet | apply kept_raiseDocJam | apply kept_setScanPhase)

theorem kept_endScanPage {k : Nat} {j : Job} (hk : Kept u s) : Kept u (endScanPage k j s) := by
  unfold endScanPage; (try dsimp only); (repeat' split) <;> repeat (first | assumption | apply kept_onJob | apply kept_onScan | apply kept_onStore | apply kept_endPageNormally)

theorem kept_endScanSide {k : Nat} (hk : Kept u s) : Kept u (endScanSide k s) := by
  unfold endScanSide; (repeat' split) <;> repeat (first | assumption | apply kept_giveUpWriting | apply kept_setScanPhase)

theorem kept_admitEjectDue (hk : Kept u s) : Kept u (admitEjectDue s) := kept_enqueue (kept_onScan hk)

theorem kept_ejectOffer {e : Eject} {t : State} (ht : ejectOffer s e = some t) (hk : Kept u s) : Kept u t := by
  unfold ejectOffer at ht; (repeat' split at ht) <;>
    first | (cases ht; done) | (cases ht; repeat (first | assumption | apply kept_admitEjectDue | apply kept_onScan | apply kept_enqueue))

theorem kept_beginEject {a : AfterEject} {countAnew : Bool} (hk : Kept u s) : Kept u (beginEject a countAnew s) := by
  unfold beginEject; (try dsimp only); (repeat' split) <;> repeat (first | assumption | apply kept_onScan)

theorem kept_afterEject {k : Nat} {a : AfterEject} (hk : Kept u s) : Kept u (afterEject k a s) := by
  unfold afterEject; (try dsimp only); (repeat' split) <;> repeat (first | assumption | apply kept_endScanSide | apply kept_endJob | apply kept_onScan)

theorem kept_heldLook {k : Nat} {j : Job} {t : State} (ht : heldLook k j s = some t) (hk : Kept u s) : Kept u t := by
  unfold heldLook at ht; (repeat' split at ht) <;>
    first | (cases ht; done) | (cases ht; repeat (first | assumption | apply kept_onJob))

theorem kept_lookRule {k : Nat} {j : Job} {again : Bool} {t : State} (ht : lookRule k j again s = some t) (hk : Kept u s) : Kept u t := by
  unfold lookRule at ht; (repeat' split at ht) <;>
    first | (cases ht; done) | exact kept_heldLook ht hk | (cases ht; repeat (first | assumption | apply kept_onJob | apply kept_endScanSide | apply kept_requestStart))

theorem kept_warmRule {k : Nat} {j : Job} {t : State} (ht : warmRule k j s = some t) (hk : Kept u s) : Kept u t := by
  unfold warmRule at ht; (try dsimp only at ht); (repeat' split at ht) <;>
    first | (cases ht; done) | (cases ht; repeat (first | assumption | apply kept_onScan | apply kept_jamScan))

theorem kept_admitPick (hk : Kept u s) : Kept u (admitPick s) := by
  unfold admitPick; (try dsimp only); repeat (first | assumption | apply kept_onScan | apply kept_enqueue)

theorem kept_pickRule {k : Nat} {j : Job} {t : State} (ht : pickRule k j s = some t) (hk : Kept u s) : Kept u t := by
  unfold pickRule at ht; (try dsimp only at ht); (repeat' split at ht) <;>
    first | (cases ht; done) | (cases ht; repeat (first | assumption | apply kept_jamScan | apply kept_admitPick | apply kept_restingEdge))

theorem kept_linesRule {k : Nat} {j : Job} {t : State} (ht : linesRule k j s = some t) (hk : Kept u s) : Kept u t := by
  unfold linesRule at ht
  dsimp only at ht
  split at ht
  · cases ht; exact kept_jamScan hk
  split at ht
  · cases ht; exact kept_enqueue (kept_onScan hk)
  split at ht
  · cases ht; exact kept_admitEjectDue hk
  split at ht
  · cases ht; exact kept_endScanPage hk
  split at ht
  · cases ht; split
    · exact kept_onScan hk
    · exact kept_enqueue (kept_onScan hk)
  split at ht
  · cases ht; exact kept_setScanPhase hk
  · cases ht

theorem kept_pageDoneRule {k : Nat} {j : Job} {t : State} (ht : pageDoneRule k j s = some t) (hk : Kept u s) : Kept u t := by
  unfold pageDoneRule at ht; (try dsimp only at ht); (repeat' split at ht) <;>
    first | (cases ht; done) | (cases ht; repeat (first | assumption | apply kept_meet | apply kept_setScanPhase))

theorem kept_ejectRule {k : Nat} {j : Job} {t : State} (ht : ejectRule k j s = some t) (hk : Kept u s) : Kept u t := by
  unfold ejectRule at ht; (repeat' split at ht) <;>
    first | (cases ht; done) | exact kept_ejectOffer ht hk | (cases ht; exact kept_ejectOffer (by assumption) hk) | (cases ht; repeat (first | assumption | apply kept_afterEject | apply kept_jamScan))

/-- R56, R57: of a job that is not RUNNING an eject ends nothing: it admits an entry, or the sheet is found long. -/
theorem ejectRule_stopped {k : Nat} {j : Job} {s t : State} (hj : j.state ≠ .running) (ht : ejectRule k j s = some t) :
    (∃ e, s.scan.eject = some e ∧ ejectOffer s e = some t) ∨ (canMeet j .scJam = true ∧ t = jamScan k .long s) := by
  unfold ejectRule at ht
  split at ht
  · split at ht
    · rename_i h
      simp only [Bool.and_eq_true] at h
      exact .inr ⟨h.2, by simpa using ht.symm⟩
    · split at ht
      · exact .inl ⟨_, by assumption, by simp_all⟩
      · simp [hj] at ht
  · cases ht

theorem kept_midPageRule {k : Nat} {j : Job} {t : State} (ht : midPageRule k j s = some t) (hk : Kept u s) : Kept u t := by
  unfold midPageRule at ht; (repeat' split at ht) <;>
    first | (cases ht; done) | exact kept_noRoom ht hk | (cases ht; repeat (first | assumption | apply kept_onScan | apply kept_onJob))

theorem kept_lostRule {k : Nat} {j : Job} {t : State} (ht : lostRule k j s = some t) (hk : Kept u s) : Kept u t := by
  unfold lostRule at ht; (repeat' split at ht) <;>
    first | (cases ht; done) | (cases ht; repeat (first | assumption | apply kept_onScan | apply kept_meet))

theorem kept_orElse {a b : Option State} {t : State} (ha : a = some t → Kept u t) (hb : b = some t → Kept u t)
    (ht : (a <|> b) = some t) : Kept u t := by
  cases a with
  | none => exact hb ht
  | some x => exact ha ht

theorem kept_heldStartRule {k : Nat} {j : Job} {t : State} (ht : heldStartRule k j s = some t) (hk : Kept u s) : Kept u t := by
  unfold heldStartRule at ht; split at ht
  · cases ht; exact kept_onJob hk
  · cases ht

theorem kept_scanPhaseRule {k : Nat} {j : Job} {t : State} (ht : scanPhaseRule k j s = some t) (hk : Kept u s) : Kept u t := by
  unfold scanPhaseRule at ht; (repeat' split at ht) <;>
    first | exact kept_lookRule ht hk | exact kept_orElse (fun h => kept_noRoom h hk) (fun h => kept_heldStartRule h hk) ht | exact kept_warmRule ht hk | exact kept_pickRule ht hk | exact kept_linesRule ht hk | exact kept_pageDoneRule ht hk | exact kept_ejectRule ht hk | cases ht

theorem kept_scanRule {t : State} (ht : scanRule s = some t) (hk : Kept u s) : Kept u t := by
  unfold scanRule at ht
  split at ht
  · cases ht
  · refine kept_orElse (fun h => kept_lostRule h hk) (kept_orElse (fun h => ?_) (fun h => kept_scanPhaseRule h hk)) ht
    split at h
    · exact kept_midPageRule h hk
    · cases h

theorem kept_docEjectRule {t : State} (ht : docEjectRule s = some t) (hk : Kept u s) : Kept u t := by
  unfold docEjectRule at ht; (repeat' split at ht) <;>
    first | (cases ht; done) | exact kept_ejectOffer ht hk | (cases ht; exact kept_ejectOffer (by assumption) hk) | (cases ht; repeat (first | assumption | apply kept_endOp | apply kept_raiseDone | apply kept_onScan | apply kept_raiseDocJam))

theorem kept_beginCalibration {startUp : Bool} (hk : Kept u s) : Kept u (beginCalibration startUp s) := by
  unfold beginCalibration; repeat (first | assumption | apply kept_onScan)

theorem kept_lampRule {t : State} (ht : lampRule s = some t) (hk : Kept u s) : Kept u t := by
  unfold lampRule at ht; (repeat' split at ht) <;>
    first | (cases ht; done) | (cases ht; repeat (first | assumption | apply kept_lampOff))

/-! ## PrintSide.lean -/

theorem kept_setPrint {f : PrintSide → PrintSide} (hk : Kept u s) : Kept u (setPrint f s) := kept_onJobs (fun _ => rfl) hk

theorem kept_setSend {f : SendSide → SendSide} (hk : Kept u s) : Kept u (setSend f s) := kept_onJobs (fun _ => rfl) hk

theorem kept_starveRead {k : Nat} {b : Bool} (hk : Kept u s) : Kept u (starveRead k b s) := kept_onJob hk

theorem kept_starveReadRule {k : Nat} {j : Job} {b : Bool} {t : State} (ht : starveReadRule k j b s = some t) (hk : Kept u s) : Kept u t := by
  unfold starveReadRule at ht; (repeat' split at ht) <;>
    first | (cases ht; done) | (cases ht; repeat (first | assumption | apply kept_starveRead))

theorem kept_copyEnd {k : Nat} {j : Job} (hk : Kept u s) : Kept u (copyEnd k j s) := by
  unfold copyEnd; (repeat' split) <;> repeat (first | assumption | apply kept_endJob | apply kept_starveRead | apply kept_setPrint | apply kept_onJob)

theorem kept_waitingRule {k : Nat} {j : Job} {t : State} (ht : waitingRule k j s = some t) (hk : Kept u s) : Kept u t := by
  unfold waitingRule at ht; exact kept_starveReadRule ht hk

theorem kept_needPageRule {k : Nat} {j : Job} {t : State} (ht : needPageRule k j s = some t) (hk : Kept u s) : Kept u t := by
  unfold needPageRule at ht; (try dsimp only at ht); (repeat' split at ht) <;>
    first | (cases ht; done) | exact kept_waitingRule ht hk | exact kept_starveReadRule ht hk | (cases ht; repeat (first | assumption | apply kept_beginPage | apply kept_starveRead | apply kept_setPrint | apply kept_onJob | apply kept_copyEnd))

theorem kept_printingRule {k : Nat} {j : Job} {t : State} (ht : printingRule k j s = some t) (hk : Kept u s) : Kept u t := by
  unfold printingRule at ht; (repeat' split at ht) <;>
    first | (cases ht; done) | exact kept_starveReadRule ht hk | (cases ht; repeat (first | assumption | apply kept_starveRead | apply kept_setPrint))

theorem kept_readDoneRule {t : State} (ht : readDoneRule s = some t) (hk : Kept u s) : Kept u t := by
  unfold readDoneRule at ht; (try dsimp only at ht); (repeat' split at ht) <;>
    first | (cases ht; done) | (cases ht; repeat (first | assumption | apply kept_leavePage | apply kept_setPrint | apply kept_onPage))

theorem kept_cuttingRule {j : Job} {t : State} (ht : cuttingRule j s = some t) (hk : Kept u s) : Kept u t := by
  unfold cuttingRule at ht; (repeat' split at ht) <;>
    first | (cases ht; done) | (cases ht; repeat (first | assumption | apply kept_beginCycle | apply kept_enqueue | apply kept_setPrint))

theorem kept_pageCutRule {k : Nat} {j : Job} {t : State} (ht : pageCutRule k j s = some t) (hk : Kept u s) : Kept u t := by
  unfold pageCutRule at ht; (try dsimp only at ht); (repeat' split at ht) <;>
    first | (cases ht; done) | (cases ht; repeat (first | assumption | apply kept_meet | apply kept_setPrint | apply kept_onJob))

theorem kept_printRule {t : State} (ht : printRule s = some t) (hk : Kept u s) : Kept u t := by
  unfold printRule at ht; (repeat' split at ht) <;>
    first | (cases ht; done) | exact kept_starveReadRule ht hk | exact kept_needPageRule ht hk | exact kept_printingRule ht hk | exact kept_readDoneRule ht hk | exact kept_cuttingRule ht hk | exact kept_pageCutRule ht hk | (cases ht; repeat (first | assumption | apply kept_meet))

theorem kept_cutSucceeded {k : Nat} (hk : Kept u s) : Kept u (cutSucceeded k s) := by
  unfold cutSucceeded; repeat (first | assumption | apply kept_setPrint | apply kept_onJob)

theorem kept_nextLine (hk : Kept u s) : Kept u (nextLine s) := by
  unfold nextLine; (try dsimp only); (repeat' split) <;> repeat (first | assumption | apply kept_setPrint | apply kept_readLineOf)

theorem kept_countClamped {l : StoredLine} {n : Nat} (hk : Kept u s) : Kept u (countClamped l n s) := by
  unfold countClamped; (repeat' split) <;> repeat (first | assumption | apply kept_onPage)

theorem kept_admitLine {l : StoredLine} (hk : Kept u s) : Kept u (admitLine l s) := by
  unfold admitLine; (try dsimp only); (repeat' split) <;> repeat (first | assumption | (intro _; rfl) | apply kept_setPrint | apply kept_onEnergy | apply kept_enqueue | apply kept_countClamped)

theorem kept_printToConsumed (hk : Kept u s) : Kept u (printToConsumed s) := by
  unfold printToConsumed; repeat (first | assumption | apply kept_toConsumed | apply kept_setPrint)

theorem kept_backToConsumed (hk : Kept u s) : Kept u (backToConsumed s) := by
  unfold backToConsumed; (repeat' split) <;> repeat (first | assumption | apply kept_printToConsumed | apply kept_setPrint)

theorem kept_closeFrame {k : Nat} {pageEnd : Bool} (hk : Kept u s) : Kept u (closeFrame k pageEnd s) := by
  unfold closeFrame; (try dsimp only); repeat (first | assumption | (intro _; rfl) | apply kept_setSend | apply kept_beginSending | apply kept_onLink)

theorem kept_placeRecord {k : Nat} {j : Job} {l : ReadLine} {t : State} (ht : placeRecord k j l s = some t) (hk : Kept u s) : Kept u t := by
  unfold placeRecord at ht; (try dsimp only at ht); (repeat' split at ht) <;>
    first | (cases ht; done) | (cases ht; repeat (first | assumption | apply kept_setSend | apply kept_onJob | apply kept_closeFrame))

theorem kept_noCreditRule {k : Nat} {t : State} (ht : noCreditRule k s = some t) (hk : Kept u s) : Kept u t := by
  unfold noCreditRule at ht; (repeat' split at ht) <;>
    first | (cases ht; done) | (cases ht; repeat (first | assumption | apply kept_closeFrame))

theorem kept_sendingRule {k : Nat} {j : Job} {t : State} (ht : sendingRule k j s = some t) (hk : Kept u s) : Kept u t := by
  unfold sendingRule at ht
  dsimp only at ht
  split at ht
  · cases ht; exact kept_setSend hk
  split at ht
  · split at ht
    · exact kept_noCreditRule ht hk
    · exact kept_placeRecord ht hk
  split at ht
  · split at ht
    · cases ht; exact kept_starveRead hk
    split at ht
    · exact kept_noCreditRule ht hk
    · cases ht
      split
      · exact kept_setSend (kept_readLineOf hk)
      · exact kept_readLineOf hk
  · split at ht
    · cases ht; exact kept_starveRead hk
    split at ht
    · cases ht; exact kept_closeFrame hk
    · cases ht
  · split at ht
    · cases ht; exact kept_closeFrame hk
    · cases ht; exact kept_closeFrame (kept_setSend (kept_starveRead hk))

theorem kept_sendNeedPageRule {k : Nat} {j : Job} {t : State} (ht : sendNeedPageRule k j s = some t) (hk : Kept u s) : Kept u t := by
  unfold sendNeedPageRule at ht; (try dsimp only at ht); (repeat' split at ht) <;>
    first | (cases ht; done) | exact kept_waitingRule ht hk | exact kept_starveReadRule ht hk | (cases ht; repeat (first | assumption | apply kept_beginPage | apply kept_starveRead | apply kept_setSend | apply kept_onJob | apply kept_endJob))

theorem kept_sendRule {t : State} (ht : sendRule s = some t) (hk : Kept u s) : Kept u t := by
  unfold sendRule at ht; (try dsimp only at ht); (repeat' split at ht) <;>
    first | (cases ht; done) | exact kept_sendNeedPageRule ht hk | exact kept_sendingRule ht hk | (cases ht; repeat (first | assumption | apply kept_starveRead | apply kept_onJob | apply kept_meet | apply kept_closeFrame))

theorem kept_consumeLines {o : Outlet} {n : Nat} (hk : Kept u s) : Kept u (consumeLines o n s) := by
  induction n generalizing s with
  | zero => exact hk
  | succ n ih => exact ih (kept_consumeLine hk)

theorem kept_frameSent {o : OutFrame} (hk : Kept u s) : Kept u (frameSent o s) := by
  unfold frameSent
  split
  · exact kept_endOp hk
  · dsimp only
    split
    · exact kept_setSend (kept_onJob (kept_leavePage (kept_consumeLines hk)))
    · exact kept_consumeLines hk

/-! ## Advance.lean -/

theorem kept_putBytes {slot : Nat} {bs : List Byte} (hk : Kept u s) : Kept u (putBytes slot bs s).1 := kept_onPage (kept_storeBytes hk)

theorem kept_serveScan {t : State} (ht : serveScan s = some t) (hk : Kept u s) : Kept u t := by
  unfold serveScan at ht
  split at ht
  · obtain ⟨_, h, rfl⟩ := Option.map_eq_some_iff.1 ht
    exact kept_freeTaken (kept_dropScanHeld (kept_commitRecord (kept_putBytes (kept_allocate h hk))))
  · cases ht

theorem kept_serveLink {t : State} (ht : serveLink s = some t) (hk : Kept u s) : Kept u t := by
  unfold serveLink at ht
  split at ht
  · obtain ⟨_, h, rfl⟩ := Option.map_eq_some_iff.1 ht
    exact kept_onStore (kept_dropLinkHeld (kept_commitRecord (kept_putBytes (kept_allocate h hk))))
  · cases ht

theorem kept_serveStart {t : State} (ht : serveStart s = some t) (hk : Kept u s) : Kept u t := by
  unfold serveStart at ht
  split at ht
  · cases ht
  split at ht
  · split at ht
    · cases ht; exact kept_acceptStart (kept_dropWaiter (kept_scanStart (by assumption) hk))
    · cases ht
  · cases ht

theorem kept_serveRule {t : State} (ht : serveRule s = some t) (hk : Kept u s) : Kept u t := by
  obtain ⟨w, -, hw⟩ := List.exists_of_findSome?_eq_some ht
  cases w
  · exact kept_serveScan hw hk
  · exact kept_serveLink hw hk
  · exact kept_serveStart hw hk

theorem kept_holdingRule {t : State} (ht : holdingRule s = some t) (hk : Kept u s) : Kept u t := by
  obtain ⟨k, -, hw⟩ := List.exists_of_findSome?_eq_some ht
  split at hw
  · split at hw
    · cases hw; exact kept_enterStopped hk
    · cases hw
  · cases hw

theorem kept_internalRule {t : State} (ht : internalRule s = some t) (hk : Kept u s) : Kept u t := by
  unfold internalRule at ht; (repeat' split at ht) <;>
    first | (cases ht; done) | (cases ht; repeat (first | assumption | apply kept_raiseDone | apply kept_endOp))

theorem kept_driveOff (hk : Kept u s) : Kept u (driveOff s) := by
  unfold driveOff; (repeat' split) <;> repeat (first | assumption | (intro _; rfl) | apply kept_onMech)

theorem kept_haltScan (hk : Kept u s) : Kept u (haltScan s) := by
  unfold haltScan; repeat (first | assumption | apply kept_onScan)

theorem kept_haltPrint (hk : Kept u s) : Kept u (haltPrint s) := by
  unfold haltPrint; (try dsimp only); (repeat' split) <;> repeat (first | assumption | apply kept_setPrint | apply kept_backToConsumed)

theorem kept_emergencyJob {cause : Reason} {lost : Bool} {k : Nat} (hk : Kept u s) : Kept u (emergencyJob cause lost k s) := by
  unfold emergencyJob; (try dsimp only); (repeat' split) <;> repeat (first | assumption | apply kept_onScan | apply kept_enterBoundary)

theorem kept_emergencyOps {o : DoneOutcome} (hk : Kept u s) : Kept u (emergencyOps o s) := by
  unfold emergencyOps; (try dsimp only); (repeat' split) <;> repeat (first | assumption | apply kept_onScan | apply kept_endOp | apply kept_raiseDone)

/-- A rule other than the grant of an engine (R54) keeps all of it; the grant moves one job, may bring ACTIVE
(R146) and sets the idle count to 0 with the SCANNER or the PRINTER (R147). -/
theorem kept_nextRule {t : State} (ht : nextRule s = some t) : Kept s t ∨ grantRule s = some t := by
  by_cases hg : grantRule s = some t
  · exact .inr hg
  · refine .inl (kept_orElse (fun h => kept_lampRule h (Kept.refl s)) (kept_orElse (fun h => kept_farRule h (Kept.refl s)) (kept_orElse (fun h => kept_farRule h (Kept.refl s))
      (kept_orElse (fun h => kept_serveRule h (Kept.refl s)) (kept_orElse (fun h => kept_scanRule h (Kept.refl s))
      (kept_orElse (fun h => kept_docEjectRule h (Kept.refl s)) (kept_orElse (fun h => kept_printRule h (Kept.refl s))
      (kept_orElse (fun h => kept_sendRule h (Kept.refl s)) (kept_orElse (fun h => kept_holdingRule h (Kept.refl s))
      (kept_orElse (fun h => kept_internalRule h (Kept.refl s)) (fun h => absurd h hg)))))))))) ht)

/-- What every rule keeps, `advance` keeps. -/
theorem advanceBy_induction {P : State → Prop} (hP : ∀ s t, nextRule s = some t → P s → P t) (fuel : Nat) (h : P s) :
    P (advanceBy fuel s) := by
  induction fuel generalizing s with
  | zero => exact h
  | succ n ih =>
    unfold advanceBy
    split
    · exact ih (hP _ _ (by assumption) h)
    · exact h

/-- What is kept by what keeps the machinery's frame and by a grant, `advance` keeps. -/
theorem advance_induction {P : State → Prop} (hk : ∀ s t, Kept s t → P s → P t)
    (hg : ∀ s k kind, P s → P (grantJob k kind s)) (h : P s) : P (advance s) := by
  refine advanceBy_induction (fun s t ht hs => ?_) _ h
  rcases kept_nextRule ht with h | h
  · exact hk _ _ h hs
  · obtain ⟨p, -, rfl⟩ := Option.map_eq_some_iff.1 h
    exact hg _ _ _ hs

end Sys2Proof.Machine
end

