-- ==== Sys2Proof/Laws/PerInstr.lean ====
section
/-! SUPPORT. The command frame of every step of the opcode table, one lemma for each. -/

namespace Sys2Proof.Laws

/-- A command's frame begins with its code, carries at most 8 parameter bytes and is well formed; a step that is no command has no code
and no parameters (R205). -/
def CommandWire.Statement (i : Instr) : Prop :=
  match commandCode i with
  | some c => encodeCommand i = BitVec.ofNat 8 c :: commandParams i ∧ (commandParams i).length ≤ 8 ∧ i.asSent.wf = true
  | none => commandParams i = []

theorem CommandWire.ping (b0 b1 b2 b3 : Byte) : CommandWire.Statement (.ping b0 b1 b2 b3) :=
  ⟨rfl, Nat.le_of_ble_eq_true rfl, rfl⟩

theorem CommandWire.getEvents (includeMasked : Byte) : CommandWire.Statement (.getEvents includeMasked) :=
  ⟨rfl, Nat.le_of_ble_eq_true rfl, rfl⟩

theorem CommandWire.eventMask (masks : BitVec 16) : CommandWire.Statement (.eventMask masks) :=
  ⟨rfl, Nat.le_of_ble_eq_true rfl, rfl⟩

theorem CommandWire.docCreate (origin resolution width : Byte) : CommandWire.Statement (.docCreate origin resolution width) :=
  ⟨rfl, Nat.le_of_ble_eq_true rfl, rfl⟩

theorem CommandWire.docClose (document : Byte) : CommandWire.Statement (.docClose document) :=
  ⟨rfl, Nat.le_of_ble_eq_true rfl, rfl⟩

theorem CommandWire.docDelete (document : Byte) : CommandWire.Statement (.docDelete document) :=
  ⟨rfl, Nat.le_of_ble_eq_true rfl, rfl⟩

theorem CommandWire.docInfo (document : Byte) : CommandWire.Statement (.docInfo document) :=
  ⟨rfl, Nat.le_of_ble_eq_true rfl, rfl⟩

theorem CommandWire.docList : CommandWire.Statement (.docList) :=
  ⟨rfl, Nat.le_of_ble_eq_true rfl, rfl⟩

theorem CommandWire.pageInfo (document index : Byte) : CommandWire.Statement (.pageInfo document index) :=
  ⟨rfl, Nat.le_of_ble_eq_true rfl, rfl⟩

theorem CommandWire.pageDrop (document index : Byte) : CommandWire.Statement (.pageDrop document index) :=
  ⟨rfl, Nat.le_of_ble_eq_true rfl, rfl⟩

theorem CommandWire.storeStatus : CommandWire.Statement (.storeStatus) :=
  ⟨rfl, Nat.le_of_ble_eq_true rfl, rfl⟩

theorem CommandWire.jobStart (kind document priority options scanMode firstPage lastPage copies : Byte) : CommandWire.Statement (.jobStart kind document priority options scanMode firstPage lastPage copies) :=
  ⟨rfl, Nat.le_of_ble_eq_true rfl, rfl⟩

theorem CommandWire.jobAnswer (job choice : Byte) : CommandWire.Statement (.jobAnswer job choice) :=
  ⟨rfl, Nat.le_of_ble_eq_true rfl, rfl⟩

theorem CommandWire.jobHold (job : Byte) : CommandWire.Statement (.jobHold job) :=
  ⟨rfl, Nat.le_of_ble_eq_true rfl, rfl⟩

theorem CommandWire.jobResume (job : Byte) : CommandWire.Statement (.jobResume job) :=
  ⟨rfl, Nat.le_of_ble_eq_true rfl, rfl⟩

theorem CommandWire.jobAbort (job : Byte) : CommandWire.Statement (.jobAbort job) :=
  ⟨rfl, Nat.le_of_ble_eq_true rfl, rfl⟩

theorem CommandWire.jobStatus (job : Byte) : CommandWire.Statement (.jobStatus job) :=
  ⟨rfl, Nat.le_of_ble_eq_true rfl, rfl⟩

theorem CommandWire.sendCredit (job : Byte) (count : CreditGrant) :
    CommandWire.Statement (.sendCredit job count) :=
  ⟨rfl, Nat.le_of_ble_eq_true rfl, rfl⟩

theorem CommandWire.scanCalibrate : CommandWire.Statement (.scanCalibrate) :=
  ⟨rfl, Nat.le_of_ble_eq_true rfl, rfl⟩

theorem CommandWire.docEject : CommandWire.Statement (.docEject) :=
  ⟨rfl, Nat.le_of_ble_eq_true rfl, rfl⟩

theorem CommandWire.paperAdvance (steps : BitVec 16) : CommandWire.Statement (.paperAdvance steps) :=
  ⟨rfl, Nat.le_of_ble_eq_true rfl, rfl⟩

theorem CommandWire.cut : CommandWire.Statement (.cut) :=
  ⟨rfl, Nat.le_of_ble_eq_true rfl, rfl⟩

theorem CommandWire.sensorRead : CommandWire.Statement (.sensorRead) :=
  ⟨rfl, Nat.le_of_ble_eq_true rfl, rfl⟩

theorem CommandWire.modeSet (mode : Byte) : CommandWire.Statement (.modeSet mode) :=
  ⟨rfl, Nat.le_of_ble_eq_true rfl, rfl⟩

theorem CommandWire.alarmSet (seconds : BitVec 24) : CommandWire.Statement (.alarmSet seconds) :=
  ⟨rfl, Nat.le_of_ble_eq_true rfl, rfl⟩

theorem CommandWire.alarmRead : CommandWire.Statement (.alarmRead) :=
  ⟨rfl, Nat.le_of_ble_eq_true rfl, rfl⟩

theorem CommandWire.settingGet (id : Byte) : CommandWire.Statement (.settingGet id) :=
  ⟨rfl, Nat.le_of_ble_eq_true rfl, rfl⟩

theorem CommandWire.settingSet (id : Byte) (value : BitVec 16) : CommandWire.Statement (.settingSet id value) :=
  ⟨rfl, Nat.le_of_ble_eq_true rfl, rfl⟩

theorem CommandWire.settingsStore : CommandWire.Statement (.settingsStore) :=
  ⟨rfl, Nat.le_of_ble_eq_true rfl, rfl⟩

theorem CommandWire.settingsDefault (option : Byte) : CommandWire.Statement (.settingsDefault option) :=
  ⟨rfl, Nat.le_of_ble_eq_true rfl, rfl⟩

theorem CommandWire.settingsProtect : CommandWire.Statement (.settingsProtect) :=
  ⟨rfl, Nat.le_of_ble_eq_true rfl, rfl⟩

theorem CommandWire.bootReport : CommandWire.Statement (.bootReport) :=
  ⟨rfl, Nat.le_of_ble_eq_true rfl, rfl⟩

theorem CommandWire.clearCauses : CommandWire.Statement (.clearCauses) :=
  ⟨rfl, Nat.le_of_ble_eq_true rfl, rfl⟩

theorem CommandWire.restart : CommandWire.Statement (.restart) :=
  ⟨rfl, Nat.le_of_ble_eq_true rfl, rfl⟩

theorem CommandWire.unknownCommand (payload : List Byte) : CommandWire.Statement (.unknownCommand payload) := rfl

theorem CommandWire.frameReceived : CommandWire.Statement (.frameReceived) := rfl

theorem CommandWire.frameGapTimeout : CommandWire.Statement (.frameGapTimeout) := rfl

theorem CommandWire.dataInRouting : CommandWire.Statement (.dataInRouting) := rfl

theorem CommandWire.receivedLineRecord : CommandWire.Statement (.receivedLineRecord) := rfl

theorem CommandWire.receivedPageBegin : CommandWire.Statement (.receivedPageBegin) := rfl

theorem CommandWire.receivedPageEnd : CommandWire.Statement (.receivedPageEnd) := rfl

theorem CommandWire.undelimitableItem : CommandWire.Statement (.undelimitableItem) := rfl

theorem CommandWire.replySent : CommandWire.Statement (.replySent) := rfl

theorem CommandWire.dataOutSent (faults : ParityFaults) : CommandWire.Statement (.dataOutSent faults) := rfl

theorem CommandWire.scanLineEntryAdmit : CommandWire.Statement (.scanLineEntryAdmit) := rfl

theorem CommandWire.scanLineCaptured (raw : List Byte) : CommandWire.Statement (.scanLineCaptured raw) := rfl

theorem CommandWire.spanCodeLine : CommandWire.Statement (.spanCodeLine) := rfl

theorem CommandWire.scanInTakeRecord : CommandWire.Statement (.scanInTakeRecord) := rfl

theorem CommandWire.lampWarm : CommandWire.Statement (.lampWarm) := rfl

theorem CommandWire.calibrationCaptureEnd (raw : List Byte) : CommandWire.Statement (.calibrationCaptureEnd raw) := rfl

theorem CommandWire.motionBegin (motor : Motor) : CommandWire.Statement (.motionBegin motor) := rfl

theorem CommandWire.feedStep (motor : Motor) : CommandWire.Statement (.feedStep motor) := rfl

theorem CommandWire.motorRest (motor : Motor) : CommandWire.Statement (.motorRest motor) := rfl

theorem CommandWire.energizingEnd (motor : Motor) : CommandWire.Statement (.energizingEnd motor) := rfl

theorem CommandWire.holdDelayExpiry (motor : Motor) : CommandWire.Statement (.holdDelayExpiry motor) := rfl

theorem CommandWire.offDelayExpiry (motor : Motor) : CommandWire.Statement (.offDelayExpiry motor) := rfl

theorem CommandWire.pwmPeriodEnd (generator : Pwm) : CommandWire.Statement (.pwmPeriodEnd generator) := rfl

theorem CommandWire.docEntryChange (sheet : Bool) : CommandWire.Statement (.docEntryChange sheet) := rfl

theorem CommandWire.docReadChange (sheet : Bool) : CommandWire.Statement (.docReadChange sheet) := rfl

theorem CommandWire.paperChange (present : Bool) : CommandWire.Statement (.paperChange present) := rfl

theorem CommandWire.coverChange (opened : Bool) : CommandWire.Statement (.coverChange opened) := rfl

theorem CommandWire.cutterHomeChange (home : Bool) : CommandWire.Statement (.cutterHomeChange home) := rfl

theorem CommandWire.wakeKeyChange (pressed : Bool) : CommandWire.Statement (.wakeKeyChange pressed) := rfl

theorem CommandWire.cutterTimeout : CommandWire.Statement (.cutterTimeout) := rfl

theorem CommandWire.printLineOffer (thermistor supply : Byte) (faults : ParityFaults) : CommandWire.Statement (.printLineOffer thermistor supply faults) := rfl

theorem CommandWire.strobeSubpulseEnd : CommandWire.Statement (.strobeSubpulseEnd) := rfl

theorem CommandWire.headTimerLimit : CommandWire.Statement (.headTimerLimit) := rfl

theorem CommandWire.headReady : CommandWire.Statement (.headReady) := rfl

theorem CommandWire.converterTimedSample (thermistor supply : Byte) : CommandWire.Statement (.converterTimedSample thermistor supply) := rfl

theorem CommandWire.idleCountExpiry : CommandWire.Statement (.idleCountExpiry) := rfl

theorem CommandWire.dozeCountExpiry : CommandWire.Statement (.dozeCountExpiry) := rfl

theorem CommandWire.linkReceiveEdge : CommandWire.Statement (.linkReceiveEdge) := rfl

theorem CommandWire.wakingEnd : CommandWire.Statement (.wakingEnd) := rfl

theorem CommandWire.ringPulse : CommandWire.Statement (.ringPulse) := rfl

theorem CommandWire.ringBurstEnd : CommandWire.Statement (.ringBurstEnd) := rfl

theorem CommandWire.ringGapExpiry : CommandWire.Statement (.ringGapExpiry) := rfl

theorem CommandWire.alarmExpiry : CommandWire.Statement (.alarmExpiry) := rfl

theorem CommandWire.silenceFirstExpiry : CommandWire.Statement (.silenceFirstExpiry) := rfl

theorem CommandWire.silenceSecondExpiry : CommandWire.Statement (.silenceSecondExpiry) := rfl

theorem CommandWire.hostrstPulseEnd : CommandWire.Statement (.hostrstPulseEnd) := rfl

theorem CommandWire.batteryCheck (low : Bool) : CommandWire.Statement (.batteryCheck low) := rfl

theorem CommandWire.powerOnReset : CommandWire.Statement (.powerOnReset) := rfl

theorem CommandWire.supplyDropReset : CommandWire.Statement (.supplyDropReset) := rfl

theorem CommandWire.supplyBelowPowerOff : CommandWire.Statement (.supplyBelowPowerOff) := rfl

theorem CommandWire.pinReset : CommandWire.Statement (.pinReset) := rfl

theorem CommandWire.resetEnd (batteryLow sramHeld firstStrap secondStrap : Bool) : CommandWire.Statement (.resetEnd batteryLow sramHeld firstStrap secondStrap) := rfl

theorem CommandWire.settingsPhaseEnd (answers : Bool) : CommandWire.Statement (.settingsPhaseEnd answers) := rfl

theorem CommandWire.memoryPhaseEnd (block0 block512 : TagRead) (failing : List Nat) (faults : ParityFaults) : CommandWire.Statement (.memoryPhaseEnd block0 block512 failing faults) := rfl

theorem CommandWire.mechanismPhaseEnd : CommandWire.Statement (.mechanismPhaseEnd) := rfl

theorem CommandWire.settingsStoreEnd (result : StoreResult) : CommandWire.Statement (.settingsStoreEnd result) := rfl

theorem CommandWire.linkByteReceived (byte : Byte) (framingFault : Bool) : CommandWire.Statement (.linkByteReceived byte framingFault) := rfl

theorem CommandWire.mechanismLevelsTaken (levels : Levels) : CommandWire.Statement (.mechanismLevelsTaken levels) := rfl

end Sys2Proof.Laws
end

