-- ==== Sys2Proof/Laws/Readers.lean ====
section
/-! SUPPORT. What the readers' shared operations do to the page table and the readers: the cut of a page, the chain fault, the
concealment of a line (R19 to R21). -/

namespace Sys2Proof.Machine

/-- The same page table, readers and recovered count. -/
structure PagesKept (s t : State) : Prop where
  pages : t.store.pages = s.store.pages
  printOut : t.store.printOut = s.store.printOut
  linkOut : t.store.linkOut = s.store.linkOut
  recovered : t.store.recovered = s.store.recovered

theorem PagesKept.refl (s : State) : PagesKept s s := ⟨rfl, rfl, rfl, rfl⟩

theorem PagesKept.trans {s t u : State} (a : PagesKept s t) (b : PagesKept t u) : PagesKept s u :=
  ⟨b.pages.trans a.pages, b.printOut.trans a.printOut, b.linkOut.trans a.linkOut, b.recovered.trans a.recovered⟩

theorem PagesKept.of_store {s t : State} (h : t.store = s.store) : PagesKept s t :=
  ⟨by rw [h], by rw [h], by rw [h], by rw [h]⟩

theorem PagesKept.pageOf_eq {s t : State} (h : PagesKept s t) (slot : Nat) : pageOf t slot = pageOf s slot := by
  simp [pageOf, h.pages]

theorem PagesKept.readerOf_eq {s t : State} (h : PagesKept s t) (o : Outlet) : readerOf t o = readerOf s o := by
  cases o <;> simp [readerOf, h.printOut, h.linkOut]

theorem pagesKept_foldl {α : Type} {g : State → α → State} (hg : ∀ s x, PagesKept s (g s x)) :
    ∀ (l : List α) (s : State), PagesKept s (l.foldl g s)
  | [], s => .refl s
  | x :: l, s => (hg s x).trans (pagesKept_foldl hg l _)

@[simp] theorem raise_store (n : Nat) (d : Detail) (s : State) : (raise n d s).store = s.store := by unfold raise; split <;> rfl

@[simp] theorem onReaderJob_store (o : Outlet) (f : Job → Job) (s : State) : (onReaderJob o f s).store = s.store := by
  unfold onReaderJob; split <;> rfl

@[simp] theorem readerOf_onReader (o : Outlet) (f : Reader → Reader) (s : State) :
    readerOf (onReader o f s) o = f (readerOf s o) := by cases o <;> rfl

@[simp] theorem pageOf_onReader (o : Outlet) (f : Reader → Reader) (slot : Nat) (s : State) :
    pageOf (onReader o f s) slot = pageOf s slot := by cases o <;> rfl

@[simp] theorem blockOf_onReader (o : Outlet) (f : Reader → Reader) (b : Nat) (s : State) :
    blockOf (onReader o f s) b = blockOf s b := by cases o <;> rfl

theorem getD_modifyAt {α : Type} {i : Nat} {l : List α} (f : α → α) (d : α) (h : i < l.length) :
    (modifyAt i f l).getD i d = f (l.getD i d) := by simp [List.getD, getElem?_modifyAt, h]

theorem pageOf_onPage {slot : Nat} {s : State} (f : Page → Page) (h : slot < s.store.pages.length) :
    pageOf (onPage slot f s) slot = f (pageOf s slot) := getD_modifyAt f .blank h

theorem pagesKept_onBlock (b : Nat) (f : Block → Block) (s : State) : PagesKept s (onBlock b f s) := ⟨rfl, rfl, rfl, rfl⟩

theorem pagesKept_freeBlock (b : Nat) (s : State) : PagesKept s (freeBlock b s) := by
  unfold freeBlock lowAfterFreeing; split <;> exact ⟨rfl, rfl, rfl, rfl⟩

theorem pagesKept_freeBlocksOf (bs : List Nat) (s : State) : PagesKept s (freeBlocksOf bs s) :=
  pagesKept_foldl (fun s b => pagesKept_freeBlock b s) bs s

theorem pagesKept_suspectBlocks (bs : List Nat) (s : State) : PagesKept s (suspectBlocks bs s) :=
  pagesKept_foldl (fun s b => pagesKept_onBlock b _ s) bs s

theorem pagesKept_writerLosesPage (slot : Nat) (s : State) : PagesKept s (writerLosesPage slot s) := by
  unfold writerLosesPage dropScanHeld dropLinkHeld dropWaiter freeTaken
  dsimp only
  split <;> split <;> exact ⟨rfl, rfl, rfl, rfl⟩

/-- R20: of the USED and SUSPECT blocks, those listed become SUSPECT and no other changes its state. -/
theorem suspectBlocks_state {b : Nat} : ∀ (bs : List Nat) (s : State), b < s.store.blocks.length →
    (blockOf s b).state = .used ∨ (blockOf s b).state = .suspect →
    (blockOf (suspectBlocks bs s) b).state = if b ∈ bs then .suspect else (blockOf s b).state
  | [], s, _, _ => by simp [suspectBlocks]
  | c :: bs, s, hb, hu => by
    let f : Block → Block := fun x => if x.state = .used then { x with state := .suspect } else x
    have hlen : b < (onBlock c f s).store.blocks.length := by simp [onBlock, length_modifyAt, hb]
    have hone : blockOf (onBlock c f s) b = if c = b then f (blockOf s b) else blockOf s b := by
      simp only [blockOf, onBlock, State.onStore, List.getD, getElem?_modifyAt]
      by_cases e : c = b
      · subst e; simp [hb]
      · have e' : ¬b = c := fun h => e h.symm
        simp [e, e']
    have hf : (f (blockOf s b)).state = .suspect := by rcases hu with h | h <;> simp [f, h]
    have ih := suspectBlocks_state bs (onBlock c f s) hlen (by rw [hone]; split <;> simp [hf, hu])
    show (blockOf (suspectBlocks bs (onBlock c f s)) b).state = _
    rw [ih, hone]
    by_cases e : c = b
    · subst e; simp [hf]
    · have e' : ¬b = c := fun h => e h.symm
      simp [e, e']

/-- R20, R21: the record of a page cut at a place after `lines` whole lines. -/
def Page.cutAt (lines : Nat) (place : Option Cursor) (blocks : Nat) (p : Page) : Page :=
  { p with
    state := .damaged, committed := lines, blockCount := blocks, part := 0
    lastBlock := (match place with | some c => c.block | none => p.lastBlock)
    bytesUsed := (match place with | some c => c.offset | none => 0) }

/-- The blocks a page keeps that is cut at a place. -/
def keptBlocks (slot : Nat) (place : Option Cursor) (s : State) : Nat :=
  match place with | some c => (chainTo s c.block s.store.blocks.length (pageOf s slot).firstBlock).length | none => 0

/-- R20, R21: what the cut of a page does to the page table and the readers. -/
theorem damagePage_pages (slot lines : Nat) (place : Option Cursor) (s : State) :
    PagesKept ((onPage slot (Page.cutAt lines place (keptBlocks slot place s)) s).onStore (fun st => { st with
      printOut := st.printOut.cutShort slot lines, linkOut := st.linkOut.cutShort slot lines })) (damagePage slot lines place s) := by
  have trimmed : PagesKept (onPage slot (Page.cutAt lines place (keptBlocks slot place s)) s) (trimPage slot lines place s) := by
    unfold trimPage
    refine PagesKept.trans ?_ (pagesKept_freeBlocksOf _ _)
    cases place with
    | none => exact .refl _
    | some c => exact pagesKept_onBlock _ _ _
  unfold damagePage
  dsimp only
  split
  · have h := trimmed.trans (pagesKept_writerLosesPage slot _)
    exact ⟨h.pages, by simp [h.printOut], by simp [h.linkOut], h.recovered⟩
  · exact ⟨trimmed.pages, by simp [trimmed.printOut], by simp [trimmed.linkOut], trimmed.recovered⟩

/-- R21: a chain fault cuts the page behind the last line read whole, and ends the reader's page. -/
theorem chainFault_does {o : Outlet} {slot : Nat} {s : State} (h : slot < s.store.pages.length) :
    let r := readerOf s o
    let place := if r.readAt.unchecked then none else some r.readAt
    pageOf (chainFault o slot s) slot = Page.cutAt r.readLine place (keptBlocks slot place s) (pageOf s slot) ∧
      (readerOf (chainFault o slot s) o).ended = true ∧ (chainFault o slot s).store.recovered = s.store.recovered := by
  intro r place
  have cut := damagePage_pages slot r.readLine place s
  unfold chainFault
  refine ⟨?_, by simp, ?_⟩
  · rw [pageOf_onReader]
    exact ((cut.trans (.of_store (raise_store _ _ _))).pageOf_eq slot).trans (pageOf_onPage _ h)
  · have keeps : ∀ (f : Reader → Reader) (u : State), (onReader o f u).store.recovered = u.store.recovered := by
      intro f u; cases o <;> rfl
    rw [keeps, raise_store]
    exact cut.recovered

/-- R20: a concealment: the page's count, the line handed on in place of the one that failed, and the blocks; where the record's length is
lost the page is cut behind that line and ended, otherwise page and reader go on. -/
theorem conceal_does {o : Outlet} {slot : Nat} {w : PageWidth} {bs failing : List ChainByte} {s : State}
    (h : slot < s.store.pages.length) :
    let r := readerOf s o
    let t := conceal o slot w bs failing s
    let image := if r.readLine = 0 then blankLine w else r.lastRead
    let record : List Byte := if r.readLine = 0 then [headWhite] else [headRepeat]
    let cut := failing.any (fun b => decide (some b.address = bs.head?.map ChainByte.address)) ||
      decide (bs.head?.map ChainByte.value = some headRuns)
    let after := if cut then r.readAt else placeAfter r.readAt bs
    (pageOf t slot).concealed = satAdd 65535 (pageOf s slot).concealed 1 ∧
    readerOf t o = { r with
      readLine := r.readLine + 1, readAt := after, lastRead := image, ended := cut || r.ended
      inFlight := r.inFlight ++ [⟨r.readLine, image, record, after⟩] } ∧
    (cut = true → (pageOf t slot).state = .damaged ∧ (pageOf t slot).committed = r.readLine + 1) ∧
    (cut = false → pageOf t slot = { pageOf s slot with concealed := satAdd 65535 (pageOf s slot).concealed 1 } ∧
      ∀ b, blockOf t b = blockOf (suspectBlocks ((failing.map (fun x => x.place.block)).dedup) s) b) := by
  intro r t image record cut after
  let s₁ := suspectBlocks ((failing.map (fun b => b.place.block)).dedup) s
  let s₂ := onReaderJob o (fun j => { j with concealed := satAdd 65535 j.concealed 1 })
    (onPage slot (fun p => { p with concealed := satAdd 65535 p.concealed 1 }) s₁)
  have kept : PagesKept s s₁ := pagesKept_suspectBlocks _ _
  have inRange : slot < s₁.store.pages.length := by rw [kept.pages]; exact h
  have counted : PagesKept (onPage slot (fun p => { p with concealed := satAdd 65535 p.concealed 1 }) s₁) s₂ :=
    .of_store (onReaderJob_store _ _ _)
  have page : pageOf s₂ slot = { pageOf s slot with concealed := satAdd 65535 (pageOf s slot).concealed 1 } := by
    rw [counted.pageOf_eq, pageOf_onPage _ inRange, kept.pageOf_eq]
  have reader : readerOf s₂ o = r := by
    rw [counted.readerOf_eq, show r = readerOf s₁ o from (kept.readerOf_eq o).symm]; cases o <;> rfl
  have blocks : ∀ b, blockOf s₂ b = blockOf s₁ b := fun b => by simp only [blockOf, s₂, onReaderJob_store]; rfl
  by_cases hc : cut = true
  · have eq : ∃ d, t = onReader o (fun r => { r with ended := true }) (handOn o image record r.readAt
        (raise 8 d (damagePage slot (r.readLine + 1) (some r.readAt) s₂))) := by
      show ∃ d, conceal o slot w bs failing s = _
      unfold conceal
      simp only [show (failing.any (fun b => decide (some b.address = bs.head?.map ChainByte.address)) ||
        decide (bs.head?.map ChainByte.value = some headRuns)) = true from hc, if_true]
      exact ⟨_, rfl⟩
    obtain ⟨d, eq⟩ := eq
    have damaged := (damagePage_pages slot (r.readLine + 1) (some r.readAt) s₂).trans (.of_store (raise_store 8 d _))
    have inRange₂ : slot < s₂.store.pages.length := by rw [counted.pages]; simpa [onPage, length_modifyAt] using inRange
    have cutPage : pageOf t slot = Page.cutAt (r.readLine + 1) (some r.readAt) (keptBlocks slot (some r.readAt) s₂) (pageOf s₂ slot) := by
      rw [eq, pageOf_onReader]; unfold handOn
      rw [pageOf_onReader, damaged.pageOf_eq]
      exact pageOf_onPage _ inRange₂
    have here : readerOf (raise 8 d (damagePage slot (r.readLine + 1) (some r.readAt) s₂)) o = r := by
      rw [damaged.readerOf_eq]
      have short : (readerOf s₂ o).cutShort slot (r.readLine + 1) = r := by rw [reader]; simp [Reader.cutShort]
      exact Eq.trans (by cases o <;> rfl) short
    refine ⟨by rw [cutPage, page]; rfl, ?_, fun _ => by rw [cutPage]; exact ⟨rfl, rfl⟩, fun hn => absurd (hn.symm.trans hc) (by decide)⟩
    rw [eq, readerOf_onReader]; unfold handOn
    rw [readerOf_onReader, here]; simp [after, hc]
  · have hc' : cut = false := by simpa using hc
    have eq : ∃ d, t = handOn o image record (placeAfter r.readAt bs) (raise 8 d s₂) := by
      show ∃ d, conceal o slot w bs failing s = _
      unfold conceal
      simp only [show (failing.any (fun b => decide (some b.address = bs.head?.map ChainByte.address)) ||
        decide (bs.head?.map ChainByte.value = some headRuns)) = false from hc', if_false, Bool.false_eq_true]
      exact ⟨_, rfl⟩
    obtain ⟨d, eq⟩ := eq
    have whole : pageOf t slot = pageOf s₂ slot := by
      rw [eq]; unfold handOn; rw [pageOf_onReader]; simp [pageOf]
    refine ⟨by rw [whole, page], ?_, fun hn => absurd hn hc, fun _ => ⟨by rw [whole, page], fun b => ?_⟩⟩
    · rw [eq]; unfold handOn
      rw [readerOf_onReader, (PagesKept.of_store (raise_store 8 d s₂)).readerOf_eq o, reader]; simp [after, hc']
    · rw [eq]; unfold handOn
      rw [blockOf_onReader]
      exact (by simp [blockOf] : blockOf (raise 8 d s₂) b = blockOf s₂ b).trans (blocks b)

/-- R19: only the recovered count changes. -/
theorem countRecovered_store (bs : List ChainByte) (s : State) :
    (countRecovered bs s).store = { s.store with
      recovered := if recoveredRead s.dramFaults bs then min 65535 (s.store.recovered + 1) else s.store.recovered } := by
  unfold countRecovered; split <;> rfl

end Sys2Proof.Machine
end

