-- ==== Sys2Proof/Tests/Slice0.lean ====
section
/-! SUPPORT. The author's own checks: ill-formed steps refused, the worked examples of the manual, and for every claim that has
hypotheses states and operands that meet them. -/

namespace Sys2Proof.Tests

open Sys2Proof.Machine

-- One theorem at a time: each waits for the kernel, and as many waiting at once would need a thread each.
set_option Elab.async false

/-! ## Ill-formed steps (WellFormed.lean) -/

theorem test_wf_refuses_spelled_command : Instr.wf (.unknownCommand [0x14]) = false := by decide
theorem test_wf_refuses_long_payload : Instr.wf (.unknownCommand (List.replicate 1025 0xFF)) = false := by decide +kernel
theorem test_wf_refuses_short_line : Instr.wf (.scanLineCaptured (List.replicate 1727 0)) = false := by decide +kernel
theorem test_wf_refuses_short_calibration : Instr.wf (.calibrationCaptureEnd []) = false := by decide +kernel
theorem test_wf_refuses_fault_outside : Instr.wf (.dataOutSent ⟨[4194304], []⟩) = false := by decide +kernel
theorem test_wf_refuses_reread_outside : Instr.wf (.printLineOffer 0 0 ⟨[], [4194304]⟩) = false := by decide +kernel
theorem test_wf_refuses_block_outside : Instr.wf (.memoryPhaseEnd .tag0 .tag512 [2048] ⟨[], []⟩) = false := by decide +kernel
theorem test_wf_refuses_short_image : Instr.wf (.settingsStoreEnd (.failed [0])) = false := by decide +kernel
theorem test_wf_takes_good : Instr.wf (.dataOutSent ⟨[4194303], []⟩) = true := by decide +kernel

/-! ## States -/

/-- A released part in STANDBY. -/
def ready : State :=
  { State.reset with
    start := { StartUp.firstPower with phase := .ready, marker := true }
    link := { Link.afterReset 0 false with hold := false } }

/-- The same in ACTIVE, the head READY. -/
def active : State :=
  { ready with
    power := { Power.afterReset with mode := .active, headSince := some 0 }
    energy := { Energy.afterReset with ready := true, lastTimed := some 0 } }

def dozing : State := { ready with power := { Power.afterReset with mode := .doze } }
def waking : State := { ready with power := { Power.afterReset with mode := .waking } }

/-- The part at a stage of its start-up (8.3). -/
def starting (p : StartPhase) : State := { State.reset with start := { StartUp.firstPower with phase := p } }

def later (n : Nat) (s : State) : State := { s with now := n }

/-- The COMMAND frame of a step, alone in the inbound buffer. -/
def sent (i : Instr) (s : State) : State :=
  s.onLink (fun l => { l with inbound := [⟨true, encodeCommand i, (encodeCommand i).length + 6⟩] })

/-- Document 1 OPEN. -/
def withDoc (s : State) : State := onDoc 1 (fun _ => { Document.blank with state := .opened }) s

/-- A page of document 1 in slot 0, with block 0. -/
def withPage (st : PageState) (s : State) : State :=
  let s := onPage 0 (fun _ => { Page.started 1 .fine .w1728 false with state := st, blockCount := 1 }) (withDoc s)
  let s := onBlock 0 (fun _ => ⟨.used, none, 0⟩) s
  onDoc 1 (fun d => { d with pages := [0] }) s

/-- A job of a kind on document 1, with id 7. -/
def jobOf (kind : JobKind) (state : JobState) : Job :=
  { newJob ⟨kind.code, 1, 0, 0, 0, 1, 0, 1⟩ kind ready with state := state, id := 7 }

/-- The job in slot 0, holding its engines. -/
def withJob (j : Job) (s : State) : State :=
  let s := s.onJobs (fun w => { w with slots := [some j, none, none, none] })
  j.kind.engines.foldl (fun s e => setHolder e (.job 0) s) s

def onFeeds (f : Feed → Feed) (s : State) : State := onFeed .print f (onFeed .scan f s)

/-- What a step comes to. -/
def after (r : Result) : State := match r with | .next t => t | _ => State.reset


/-! ## Worked examples of the manual -/

def runs (l : List (Nat × Bool)) : Line := l.flatMap (fun p => List.replicate p.1 p.2)

/-- 2.2.1, line a. -/
def lineA : Line := runs [(100, false), (20, true), (1000, false), (8, true), (600, false)]

theorem test_runs_line_a : runsRecord lineA = [0x02, 100, 20, 0x83, 0xE8, 8, 0x82, 0x58] := by decide +kernel
theorem test_runs_line_b : runsRecord (runs [(50, true), (1678, false)]) = [0x02, 0, 50, 0x86, 0x8E] := by decide +kernel
theorem test_runs_line_c : runsRecord (runs [(1700, false), (28, true)]) = [0x02, 0x86, 0xA4, 28] := by decide +kernel

/-- 2.4.1: lines 0 to 2 are WHITE, RUNS of 8 bytes and REPEAT; lines 3 and 4 take 217 and 216 bytes. -/
theorem test_coder_choices :
    codeLine .w1728 (blankLine .w1728) (blankLine .w1728) = [0x00] ∧
    (codeLine .w1728 (blankLine .w1728) lineA).length = 8 ∧ codeLine .w1728 lineA lineA = [0x01] ∧
    (codeLine .w1728 lineA ((List.range 1728).map (fun i => decide (i / 8 % 2 = 1)))).head? = some 0x03 ∧
    (codeLine .w1728 lineA ((List.range 1728).map (fun i => decide (i / 8 % 2 = 1 ∧ i < 1712)))).length = 216 ∧
    codeLine .w1728 (blankLine .w1728) (blankLine .w1728) = [0x00] := by decide +kernel

/-- R45: black source dots 3 and 6 give black head dots 2, 3 and 5. -/
theorem test_head_line_example :
    (headLine .w2048 ((List.range 2048).map (fun i => decide (i = 3 ∨ i = 6)))).take 7 =
      [false, false, true, true, false, true, false] ∧
    coveredFrom 1727 = 2046 ∧ coveredTo 1727 = 2047 := by decide +kernel

/-- The example after R89. -/
theorem test_corrected_pixels :
    corrected 112 12 212 = 127 ∧ corrected 10 12 212 = 0 ∧ corrected 230 12 212 = 255 ∧ corrected 48 40 50 = 127 := by decide

/-- The example after R91. -/
theorem test_background_and_dither :
    nextBackground 255 [240] = 251 ∧ nextBackground 251 [236] = 247 ∧ nextBackground 247 [90] = 207 ∧
    nextBackground 207 [238] = 214 ∧ 251 * 60 / 100 = 150 ∧ ditherThreshold 5 10 = 232 ∧ ditherThreshold 8 0 = 8 := by decide

/-- The line of 5.9: new dots in head block 2 only. -/
def workedLine : Line :=
  runs [(216, false), (120, true), (96, false), (200, true), (16, false), (60, true), (156 + 432, false), (180, true), (36, false),
    (10, true), (206, false)]
def workedHistory : Line := runs [(216, false), (120, true), (96, false), (150, true), (66, false), (60, true), (156 + 432, false),
  (180, true), (36, false), (10, true), (206, false)]

/-- 5.9: phases A and B with their widths, I_req 1395 and target level 6. -/
theorem test_worked_line :
    (planLine ready.settings workedLine workedHistory 100 190 2).phases =
      [⟨[1, 2, 3], 380, 50, 1227, 410, true⟩, ⟨[6, 7], 190, 0, 1112, 371, false⟩] ∧
    (planLine ready.settings workedLine workedHistory 100 190 2).ireq = 1395 ∧
    targetLevel ready.settings .print 1395 = 6 := by decide +kernel

/-- 5.10: a white line, and the largest product. -/
theorem test_limit_lines :
    (planLine ready.settings (blankLine .w1728) (blankLine .w1728) 100 200 2).ireq = 110 ∧
    supplyWidth 4000 121 105 = 5311 ∧ loadWidth 5311 1728 255 = 41020 ∧ supplyWidth 1200 200 150 = 1567 ∧
    supplyWidth 1200 200 240 = 948 := by decide +kernel

/-- 6.2, the print ramp: the allowances of L1 to L4. -/
theorem test_ramp_allowances : allowances [15, 15, 15, 15, 6, 6, 6, 6] = [7, 6, 5, 4, 3, 2, 1, 0] := by decide

/-- 6.2: before s5 the queue holds L3, L4, L5 and the level is 3. -/
def rampFeed : Feed :=
  { Feed.afterReset with
    moving := true, level := 3, lastTarget := 15
    queue := List.replicate 3 ⟨.run .advance, 2, 2, 1395, 6, false⟩ }

theorem test_ramp_replanned : rampFeed.allowances = [5, 4, 3, 2, 1, 0] ∧ rampFeed.nextLevel = 4 := by decide
theorem test_print_ramp_times : (List.range 5).map (ready.settings.ramp .print) = [4000, 3200, 2600, 2200, 1900] := by decide +kernel

/-- 9.2, the clamped changes. -/
theorem test_clamped_changes :
    (let s1 := ready.settings.put 22 192
     let s2 := s1.put 21 (clampSet s1 21 180)
     let s3 := s2.put 22 (clampSet s2 22 170)
     (clampSet s1 21 180, clampSet s2 22 170, clampSet s3 21 180, clampSet s3 67 5)) = (200, 170, 180, 30) := by decide +kernel

/-- The check value of this CRC over the digits 1 to 9, a published figure of the generator and preset of R191. -/
theorem test_crc_check_value : crc [0x31, 0x32, 0x33, 0x34, 0x35, 0x36, 0x37, 0x38, 0x39] = 0x29B1 := by decide +kernel

/-- 11.1: a DOC-LIST command frame. -/
theorem test_frame_layout : (frame kindCommand [0x14]).take 5 = [0xA5, 0x10, 0x00, 0x01, 0x14] := by decide +kernel

/-! ## Witnesses: for every claim with hypotheses, states and operands that meet them, clause by clause -/

theorem witness_StepRunsFrontOrTicks :
    ({ ready with pending := [.docList] } : State).pending = .docList :: [] ∧ ready.pending = [] ∧
    (commandCode .docList).isSome = true ∧ intakeOpen State.reset = false := by decide +kernel

/-- A motor in a motion, its level at the top of the rule's bound, and one at rest. -/
theorem witness_MotionLevelsKept :
    (active.onMech (fun x => { x with printFeed := { rampFeed with current := .run, level := 6 } })).levelsSound ∧
    step active = .next (later 1 active) := by
  refine ⟨⟨⟨?_, ?_, ?_⟩, ⟨?_, ?_, ?_⟩⟩, rfl⟩ <;> decide +kernel

theorem witness_CommandsDecodeAndEncode :
    (commandCode .docList).isSome = true ∧ (∃ p, Instr.unknownCommand [] = .unknownCommand p ∧ Instr.wf (.unknownCommand []) = true) ∧
    Instr.wf (.unknownCommand [0xFF]) = true ∧ Instr.wf (.unknownCommand [0x14, 0]) = true :=
  ⟨by decide, ⟨[], rfl, by decide⟩, by decide, by decide⟩

/-- A buffer with `n` free bytes. -/
def withRoom (n : Nat) (s : State) : State := s.onLink (fun l => { l with inbound := [⟨true, [], 4096 - n⟩] })

/-- Both kinds, the shortest and the longest payload, with exactly the room they need. -/
theorem witness_FrameReceivedByteByByte :
    receiverRuns ready = true ∧ ready.link.receiver = .hunt ∧
    ([] : List Byte).length + 6 + (if kindCommand = kindCommand then 0 else 64) ≤ freeBytes (withRoom 6 ready) ∧
    (List.replicate 1024 (0 : Byte)).length ≤ 1024 ∧
    (List.replicate 1024 (0 : Byte)).length + 6 + (if kindDataIn = kindCommand then 0 else 64) ≤ freeBytes (withRoom 1094 ready) := by
  decide +kernel

/-- The receiver inside a frame. -/
def inFrame (st : RxState) (bs : List Byte) (s : State) : State := s.onLink (fun l => { l with receiver := ⟨st, bs, s.now⟩ })

theorem witness_ByteTakenByReceiverState :
    receiverRuns ready = true ∧ ready.link.receiver.state = .hunt ∧ freeBytes (withRoom 1 ready) ≠ 0 ∧
    freeBytes (withRoom 0 ready) = 0 ∧ (0xA4 : Byte) ≠ 0xA5 ∧
    (let s := later 20000 (inFrame .header [0xA5] ready)
     s.link.receiver.state ≠ .hunt ∧ frameComplete s = false ∧ s.now ≤ s.link.receiver.lastAt + 20000 ∧ 64 < freeBytes s) ∧
    (let s := inFrame .header [0xA5] (withRoom 1 ready)
     s.link.receiver.state ≠ .hunt ∧ frameComplete s = false ∧ freeBytes s = 0) ∧
    (let s := inFrame .header [0xA5] (withRoom 65 ready); freeBytes s = 64 ∧ (0x11 : Byte) ≠ 0x10) ∧
    (let s := inFrame .header [0xA5, 0x10, 0x04] (withRoom 4 ready)
     freeBytes s = 1 ∧ (s.link.receiver.bytes ++ [0x01]).length = 4 ∧ 1024 < num2 0x04 0x01 ∧ ¬1024 < num2 0x04 0x00) := by decide +kernel

/-- A complete frame of a kind, empty, with a check. -/
def judged (kind : Byte) (check : List Byte) : State := inFrame .check (0xA5 :: kind :: be2 0 ++ [] ++ check) ready

theorem witness_FrameIsJudgedOrLate :
    receiverRuns (judged 0x10 [0, 0]) = true ∧
    (judged 0x10 [0, 0]).link.receiver = ⟨.check, 0xA5 :: 0x10 :: be2 ([] : List Byte).length ++ [] ++ [0, 0], 0⟩ ∧
    [0, 0] ≠ field2 (crc (0x10 :: be2 0 ++ [])) ∧ (field2 (crc (0x10 :: be2 0 ++ []))).length = 2 ∧
    ((0x90 : Byte) ≠ 0x10 ∧ (0x90 : Byte) ≠ 0x11) ∧
    (let s := later 20001 (inFrame .header [0xA5] ready)
     receiverRuns s = true ∧ s.link.receiver.state ≠ .hunt ∧ frameComplete s = false ∧ s.link.receiver.lastAt + 20000 < s.now) := by
  decide +kernel

/-- A DATA-IN frame at the front of the buffer. -/
def dataAtFront (payload : List Byte) (s : State) : State :=
  s.onLink (fun l => { l with inbound := [⟨false, payload, payload.length + 6⟩] })

/-- A RECEIVE job on an OPEN document 1, its channel in a state on slot 0 with a queue. -/
def receiving (st : JobState) (r : Reception) (q : List ChannelFrame) : State :=
  let s := withJob (jobOf .receive st) (withPage .filling active)
  s.onStore (fun x => { x with linkIn := some ⟨r, .w1728, if r = .noPage then none else some 0, none, q⟩ })

theorem witness_DataInIsRouted :
    (let s := dataAtFront [] ready
     receiverRuns s = true ∧ s.link.inbound = ⟨false, [], 6⟩ :: [] ∧ receiveJob s = none) ∧
    (sent .docList ready).link.inbound = ⟨true, [0x14], 7⟩ :: [] ∧
    (let s := dataAtFront [] (receiving .held .noPage [])
     receiveJob s = some (0, jobOf .receive .held) ∧ (jobOf .receive .held).state ≠ .running) ∧
    (let s := dataAtFront [0] (receiving .running .noPage [])
     receiveJob s = some (0, jobOf .receive .running) ∧ s.store.linkIn = some ⟨.noPage, .w1728, none, none, []⟩) := by decide +kernel

theorem witness_EveryCommandIsAnswered :
    takes .docList (sent .docList ready) = true ∧
    takes (.unknownCommand []) (sent (.unknownCommand []) ready) = true ∧
    takes (.unknownCommand [0x14, 0]) (sent (.unknownCommand [0x14, 0]) ready) = true ∧ (0x14 : Byte).toNat ∈ commandCodes ∧
    takes (.unknownCommand [0xFF]) (sent (.unknownCommand [0xFF]) ready) = true ∧ (0xFF : Byte).toNat ∉ commandCodes := by decide +kernel

theorem witness_ReportsChangeNothing :
    takes (.ping 1 2 3 4) (sent (.ping 1 2 3 4) ready) = true ∧
    (let s := sent (.docInfo 1) (withDoc ready); takes (.docInfo 1) s = true ∧ docExists s 1 = true) ∧
    takes .docList (sent .docList ready) = true ∧
    (let s := sent (.pageInfo 1 1) (withPage .complete ready); takes (.pageInfo 1 1) s = true ∧ namedPage s 1 1 = some 0) ∧
    takes .storeStatus (sent .storeStatus ready) = true ∧
    (let s := sent (.jobStatus 7) (withJob (jobOf .print .held) (withDoc active))
     takes (.jobStatus 7) s = true ∧ namedJob s 7 = some (0, jobOf .print .held)) ∧
    takes .sensorRead (sent .sensorRead ready) = true ∧ takes .alarmRead (sent .alarmRead ready) = true ∧
    (takes (.settingGet 0x20) (sent (.settingGet 0x20) ready) = true ∧ itemPlace (0x20 : Byte).toNat = some 16) ∧
    takes .bootReport (sent .bootReport ready) = true := by decide +kernel

theorem witness_EventRecordsAndFaultCounts :
    (0 < ready.events.pending.length ∧ 15 < ready.events.pending.length ∧ ready.events.pending[15]? = some none) ∧
    State.reset.start.phase ≠ .ready ∧ ready.start.phase = .ready ∧
    (raise 15 (.silence 1 2 3) ready).events.pending[15]? = some (some ⟨1, .silence 1 2 3⟩) := by decide +kernel

theorem witness_SideLinesKept : ready.events.atn = atnDue ready ∧ ready.link.hold = holdDue ready ∧ step ready = .next (later 1 ready) := by
  refine ⟨by decide +kernel, by decide +kernel, rfl⟩

theorem witness_EventsCollectedAndMasked :
    takes (.getEvents 0) (sent (.getEvents 0) ready) = true ∧ takes (.getEvents 1) (sent (.getEvents 1) ready) = true ∧
    takes (.getEvents 2) (sent (.getEvents 2) ready) = true ∧
    takes (.eventMask 0xFFFF) (sent (.eventMask 0xFFFF) ready) = true := by decide +kernel

def replying (doze restart : Bool) : State :=
  ready.onLink (fun l => { l with reply := some [0, 0], sending := some .reply, dozeAccepted := doze, restartAccepted := restart })

theorem witness_ReplySentWhole :
    receiverRuns (replying false false) = true ∧ (replying false false).link.sending = some .reply ∧
    (replying false true).link.restartAccepted = true ∧ (replying true false).link.dozeAccepted = true ∧
    receiverRuns (replying true false) = true := by decide +kernel

/-- Every block of the store in one state. -/
def allBlocks (st : BlockState) (s : State) : State :=
  s.onStore (fun x => { x with blocks := x.blocks.map (fun b => { b with state := st }) })

theorem witness_BlocksTakenAndFreed :
    (∀ b ∈ (allBlocks .used ready).store.blocks, b.state ≠ .free) ∧
    (let s := withPage .filling ready
     0 < s.store.pages.length ∧ (blockOf s 1).state = .free ∧ 1 < s.store.blocks.length ∧ (∀ c, c < 1 → (blockOf s c).state ≠ .free) ∧
     (pageOf s 0).lastBlock ≠ 1 ∧ (pageOf s 0).blockCount ≠ 0 ∧ (pageOf s 0).lastBlock < s.store.blocks.length) ∧
    (let s := ready
     255 < s.store.pages.length ∧ (blockOf s 0).state = .free ∧ (pageOf s 255).blockCount = 0 ∧ ∀ c, c < 0 → (blockOf s c).state ≠ .free) := by
  decide +kernel

/-- Document 1 with `n` pages. -/
def withPages (n : Nat) (s : State) : State := onDoc 1 (fun d => { d with pages := List.range n }) (withDoc s)

theorem witness_PageStartChecks :
    64 ≤ (docOf (withPages 64 ready) 1).pages.length ∧
    (let s := (withPages 63 ready).onStore (fun x => { x with pages := x.pages.map (fun p => { p with state := .complete }) })
     (docOf s 1).pages.length < 64 ∧ ∀ p ∈ s.store.pages, p.state ≠ .empty) ∧
    (let s := withPages 63 (allBlocks .used ready)
     (docOf s 1).pages.length < 64 ∧ lowestEmptyPage s = some 0 ∧ lowestFree s = none) ∧
    (let s := withPages 63 ready
     lowestEmptyPage s = some 0 ∧ lowestFree s = some 0 ∧ 1 ≤ s.store.documents.length) := by decide +kernel

theorem witness_DramReadsBack : ready.dramWf ∧ (storeBytes 0 [0, 0xFF, 1] ready).dram = [(0, 0), (2, 1)] :=
  ⟨show Memory.wf _ = true by decide, by decide +kernel⟩

theorem witness_DramWfKept : (storeBytes 5 [1] ready).dramWf ∧ step (storeBytes 5 [1] ready) = .next (later 1 (storeBytes 5 [1] ready)) :=
  ⟨show Memory.wf _ = true by decide +kernel, rfl⟩

theorem witness_DocumentCommandsAct :
    (let s := sent (.docCreate 0 1 0) ready
     takes (.docCreate 0 1 0) s = true ∧ Origin.ofCode 0 = some .scan ∧ Resolution.ofCode 1 = some .fine ∧
     PageWidth.ofCode 0 = some .w1728 ∧ lowestEmptyDocument s = some 1) ∧
    (let s := sent (.docClose 1) (withDoc ready)
     takes (.docClose 1) s = true ∧ docExists s 1 = true ∧ (docOf s 1).writer = none) ∧
    (let s := sent (.docDelete 1) (withPage .complete ready)
     takes (.docDelete 1) s = true ∧ docExists s 1 = true ∧ (docOf s 1).users = 0 ∧
     (∀ p ∈ (docOf s 1).pages, (pageOf s p).state ≠ .filling)) ∧
    (let s := sent (.pageDrop 1 1) (withPage .complete ready)
     takes (.pageDrop 1 1) s = true ∧ namedPage s 1 1 = some 0 ∧ (docOf s 1).users = 0 ∧
     (∀ p ∈ (docOf s 1).pages, (pageOf s p).state ≠ .filling)) := by decide +kernel

/-- The checks that fail: a bad width, a full directory, document 33, an OPEN document with a writer, and one with a FILLING page. -/
theorem witness_DocumentCommandsAct_refusals :
    takes (.docCreate 2 2 2) (sent (.docCreate 2 2 2) ready) = true ∧
    (let s := sent (.docCreate 2 2 1) (ready.onStore (fun x => { x with documents := x.documents.map (fun d => { d with state := .closed }) }))
     takes (.docCreate 2 2 1) s = true ∧ ∀ d ∈ s.store.documents, d.state ≠ .empty) ∧
    (takes (.docClose 33) (sent (.docClose 33) ready) = true ∧ takes (.docDelete 0) (sent (.docDelete 0) ready) = true ∧
     takes (.docInfo 32) (sent (.docInfo 32) ready) = true ∧ (docOf ready 32).state = .empty ∧
     takes (.pageInfo 1 2) (sent (.pageInfo 1 2) (withPage .filling ready)) = true ∧
     takes (.pageDrop 1 2) (sent (.pageDrop 1 2) (withPage .filling ready)) = true ∧ (docOf (withPage .filling ready) 1).pages = [0]) ∧
    (let s := sent (.docClose 1) (onDoc 1 (fun d => { d with writer := some 7 }) (withDoc ready))
     takes (.docClose 1) s = true ∧ (docOf s 1).state = .opened ∧ (docOf s 1).writer.isSome = true) ∧
    (let s := sent (.docDelete 1) (withPage .filling ready)
     takes (.docDelete 1) s = true ∧ ∃ p ∈ (docOf s 1).pages, (pageOf s p).state = .filling) ∧
    takes (.pageDrop 1 1) (sent (.pageDrop 1 1) (withPage .filling ready)) = true := by decide +kernel

theorem witness_CodedLineExpands : lineA.length = PageWidth.w1728.dots := by decide +kernel

theorem witness_HeadLineByRule : (0 < 1728) ∧ (1727 < 1728) ∧ coveredTo 1727 < 2048 := by decide

/-- LINK-IN receiving a line into the page of slot 0, with `used` bytes in its block and `committed` lines. -/
def receivingAt (used committed : Nat) (payload : List Byte) : State :=
  onPage 0 (fun p => { p with bytesUsed := used, committed := committed }) (receiving .running .receiving [⟨payload, 7⟩])

theorem witness_ReceivedItemsTaken :
    (let s := receivingAt 2047 8191 [0x00]
     channelTakes s = true ∧ (reception s).isSome = true ∧ headItem s = some (.usable [0x00] []) ∧
     (pageOf s 0).committed < s.settings.pageLineLimit ∧ ([0x00] : List Byte).drop (2048 - (pageOf s 0).bytesUsed) = []) ∧
    headItem (receivingAt 0 0 (0x02 :: [0x83, 0x84, 0x83, 0x85])) = some (.unusable []) ∧
    headItem (receivingAt 0 0 [0x07, 0x00]) = some (.lost true) ∧ headItem (receivingAt 0 0 [0xF0, 0x03]) = some (.lost false) ∧
    (let s := receivingAt 2048 0 [0x00]
     ([0x00] : List Byte).drop (2048 - (pageOf s 0).bytesUsed) ≠ [] ∧ (allocate 0 (putBytes 0 [0x00] (takeItem [] s)).1).isSome = true) ∧
    (let s := allBlocks .used (receivingAt 2048 0 [0x00])
     channelTakes s = true ∧ headItem s = some (.usable [0x00] []) ∧ (allocate 0 (putBytes 0 [0x00] (takeItem [] s)).1).isNone = true) ∧
    (let s := receivingAt 0 8192 [0x00]
     headItem s = some (.usable [0x00] []) ∧ s.settings.pageLineLimit ≤ (pageOf s 0).committed) ∧
    (let s := receiving .running .noPage [⟨[0x00], 7⟩]
     channelTakes s = true ∧ headItem s = some (.usable [0x00] [])) ∧
    (let s := receiving .running .discarding [⟨[0x00], 7⟩]
     channelTakes s = true ∧ headItem s = some (.usable [0x00] [])) ∧
    (let s := receiving .running .receiving [⟨[0xF1], 7⟩]
     channelTakes s = true ∧ headItem s = some (.pageEnd []) ∧ (pageOf s 0).state = .filling) ∧
    (let s := receiving .running .noPage [⟨[0xF0, 0x01], 7⟩]
     channelTakes s = true ∧ headItem s = some (.pageBegin .fine .w1728 []) ∧
     (startPage 1 .fine .w1728 false s).toOption.isSome = true) ∧
    (let s := allBlocks .used (receiving .running .receiving [⟨[0xF0, 0x01], 7⟩])
     channelTakes s = true ∧ headItem s = some (.pageBegin .fine .w1728 []) ∧
     (startPage 1 .fine .w1728 false s).toOption.isNone = true) := by decide +kernel

theorem witness_JobStartTakesSlot :
    (let s := sent (.jobStart 0 1 0 0 0 0 0 0) (withDoc ready)
     let p : StartParams := ⟨0, 1, 0, 0, 0, 0, 0, 0⟩
     takes (.jobStart 0 1 0 0 0 0 0 0) s = true ∧ JobKind.ofCode p.kind = some .scan ∧ p.badParam .scan = false ∧
     (startChecks p .scan s).toOption = some 0 ∧ s.jobs.slots.length = 4) := by decide +kernel

/-- Each check of R51 fails in turn, those before it passed; and none fails, at the ends of the page range. -/
theorem witness_JobStartTakesSlot_refusals :
    takes (.jobStart 5 1 0 0 0 0 0 0) (sent (.jobStart 5 1 0 0 0 0 0 0) ready) = true ∧
    (takes (.jobStart 4 1 0 2 1 0 0 2) (sent (.jobStart 4 1 0 2 1 0 0 2) (withDoc ready)) = true ∧ 1 < (2 : Byte).toNat) ∧
    (let s := sent (.jobStart 0 1 3 1 1 0 0 0) (ready.onJobs (fun w => { w with slots := List.replicate 4 (some (jobOf .send .held)) }))
     takes (.jobStart 0 1 3 1 1 0 0 0) s = true ∧ ∀ x ∈ s.jobs.slots, x.isSome = true) ∧
    (takes (.jobStart 0 33 3 1 1 0 0 0) (sent (.jobStart 0 33 3 1 1 0 0 0) ready) = true ∧ none ∈ ready.jobs.slots) ∧
    (let s := sent (.jobStart 4 1 0 2 1 0 0 1) (withPage .complete ready)
     takes (.jobStart 4 1 0 2 1 0 0 1) s = true ∧ (docOf s 1).state = .opened ∧ (docOf s 1).writer.isSome = false ∧ (docOf s 1).pages ≠ []) ∧
    (let s := sent (.jobStart 4 1 0 2 1 0 0 1) (allBlocks .used (withDoc ready))
     takes (.jobStart 4 1 0 2 1 0 0 1) s = true ∧ (docOf s 1).pages = [] ∧ freeBlocks s < 4) ∧
    (let s := sent (.jobStart 3 1 0 3 2 2 0 0) (onDoc 1 (fun d => { d with state := .closed }) (withPage .complete ready))
     takes (.jobStart 3 1 0 3 2 2 0 0) s = true ∧ (docOf s 1).state = .closed ∧ (docOf s 1).pages.length < 2) ∧
    takes (.jobStart 1 1 3 3 2 64 64 1) (sent (.jobStart 1 1 3 3 2 64 64 1) (withDoc ready)) = true := by decide +kernel

/-- A job at a boundary. -/
def atBoundary (kind : JobKind) (c : BoundaryCode) : Job := { jobOf kind .boundary with boundary := some ⟨c, none, none⟩ }

theorem witness_JobCommandsAct :
    (let s := sent (.jobHold 7) (withJob (jobOf .print .running) (withDoc active))
     takes (.jobHold 7) s = true ∧ namedJob s (7 : Byte).toNat = some (0, jobOf .print .running)) ∧
    (let s := sent (.jobResume 7) (withJob (jobOf .print .held) (withDoc active))
     takes (.jobResume 7) s = true ∧ namedJob s (7 : Byte).toNat = some (0, jobOf .print .held) ∧ (jobOf .print .held).compareDue = false) ∧
    (let due := fun k => { jobOf k .held with compareDue := true }
     takes (.jobResume 7) (sent (.jobResume 7) (withJob (due .scan) (withDoc active))) = true ∧
     namedJob (withJob (due .print) (withDoc active)) (7 : Byte).toNat = some (0, due .print)) ∧
    takes (.jobAbort 7) (sent (.jobAbort 7) (withJob (jobOf .print .held) (withDoc active))) = true ∧
    (let i := Instr.sendCredit 7 ⟨0xFFFF, ⟨[0], [0]⟩⟩
     let s := sent i (withJob (jobOf .send .running) (withDoc active))
     takes i s = true ∧ namedJob s (7 : Byte).toNat = some (0, jobOf .send .running)) ∧
    (let s := sent (.jobAnswer 7 1) (withJob (atBoundary .print .prMore) (withDoc active))
     takes (.jobAnswer 7 1) s = true ∧ namedJob s (7 : Byte).toNat = some (0, atBoundary .print .prMore) ∧
     Choice.ofCode (1 : Byte).toNat = some .finish ∧ badChoice (atBoundary .print .prMore) ⟨.prMore, none, none⟩ .finish = false ∧
     s.levels.coverOpen = false) ∧
    (let s := (withJob (atBoundary .print .prMore) (withPage .complete active)).onLevels (fun l => { l with coverOpen := true })
     choiceMoves s 0 (atBoundary .print .prMore) ⟨.prMore, none, none⟩ .repeatPage = true ∧ s.levels.coverOpen = true ∧
     badChoice (atBoundary .print .prMore) ⟨.prMore, none, none⟩ .repeatPage = false ∧
     choiceMoves s 0 (atBoundary .print .prMore) ⟨.prMore, none, none⟩ .finish = false) ∧
    (takes (.jobAnswer 7 1) (sent (.jobAnswer 7 1) (withJob (jobOf .receive .running) (withDoc active))) = true ∧
     (jobOf .receive .running).kind = .receive) ∧
    (badChoice (atBoundary .scan .scJam) ⟨.scJam, none, none⟩ .retry = false ∧ active.levels.docEntry = false) := by decide +kernel

/-- The commands on no job, on a job in another state or of another kind, and choices that R64 refuses. -/
theorem witness_JobCommandsAct_refusals :
    (namedJob ready (0 : Byte).toNat = none ∧ takes (.jobHold 0) (sent (.jobHold 0) ready) = true ∧
     takes (.jobResume 0) (sent (.jobResume 0) ready) = true ∧ takes (.jobAbort 0) (sent (.jobAbort 0) ready) = true ∧
     takes (.jobAnswer 0 1) (sent (.jobAnswer 0 1) ready) = true ∧ takes (.jobStatus 0) (sent (.jobStatus 0) ready) = true ∧
     takes (.sendCredit 0 ⟨1, ⟨[], []⟩⟩) (sent (.sendCredit 0 ⟨1, ⟨[], []⟩⟩) ready) = true) ∧
    (let s := withJob (atBoundary .print .prMore) (withDoc active)
     namedJob s (7 : Byte).toNat = some (0, atBoundary .print .prMore) ∧ takes (.jobHold 7) (sent (.jobHold 7) s) = true ∧
     takes (.jobResume 7) (sent (.jobResume 7) s) = true ∧ takes (.jobAnswer 7 7) (sent (.jobAnswer 7 7) s) = true ∧
     takes (.sendCredit 7 ⟨1, ⟨[], []⟩⟩) (sent (.sendCredit 7 ⟨1, ⟨[], []⟩⟩) s) = true ∧
     Choice.ofCode 6 = some .drop ∧ Choice.drop ∉ BoundaryCode.prMore.choices) ∧
    (let s := withJob (jobOf .print .running) (withDoc active)
     takes (.jobAnswer 7 0) (sent (.jobAnswer 7 0) s) = true ∧ (jobOf .print .running).state ≠ .boundary) := by decide +kernel

/-- A DATA-OUT frame being sent. -/
def sendingOut (job : Option Nat) (pageEnd : Bool) : State :=
  (withJob (jobOf .send .running) (withDoc active)).onLink
    (fun l => { l with dataOut := some ⟨[0xF1], [], pageEnd, job⟩, sending := some .dataOut })

theorem witness_DataOutFrameSent :
    receiverRuns (sendingOut none false) = true ∧ (sendingOut none false).link.sending = some .dataOut ∧
    (sendingOut none false).link.dataOut = some ⟨[0xF1], [], false, none⟩ ∧
    (sendingOut (some 0) false).link.dataOut = some ⟨[0xF1], [], false, some 0⟩ ∧
    (sendingOut (some 0) true).link.dataOut = some ⟨[0xF1], [], true, some 0⟩ := by decide +kernel

/-- A SCAN job in its page, the lamp warm. -/
def scanning (f : ScanPath → ScanPath) : State :=
  let s := withJob (jobOf .scan .running) (withPage .filling active)
  let s := s.onStore (fun x => { x with scanIn := ⟨some 0, none⟩ })
  s.onScan (fun x => f { x with
    phase := .lines, lamp := ⟨some 0, true⟩, background := some 255, coder := some ⟨blankLine .w1728, 0⟩
    sheet := { Sheet.none with sinceEdge := some 96, offset := some 96, readOffset := 96, longCount := some 96 } })

theorem witness_ScanLineGoesThrough :
    lineEntryDue (scanning id) = true ∧
    (let s := later 1808 (scanning (fun x => { x with capture := some ⟨0, 0⟩ }))
     s.scan.capture = some ⟨0, 0⟩ ∧ (0 : Nat) + scanTime (scanPageOf s).width ≤ s.now) ∧
    codable (scanning (fun x => { x with slots := [.captured 0 lineA] })) = some (⟨blankLine .w1728, 0⟩, lineA) ∧
    (let s := scanning (fun x => { x with slots := [.coded 0 [0x00] false] })
     takeable s = some (0, [0x00]) ∧ s.store.scanIn.slot = some 0 ∧ (pageOf s 0).state = .filling ∧
     (pageOf s 0).committed < s.settings.pageLineLimit ∧ (pageOf s 0).bytesUsed + 1 ≤ 2048) ∧
    (let s := onPage 0 (fun p => { p with committed := 8192 }) (scanning (fun x => { x with slots := [.coded 0 [0x00] false] }))
     takeable s = some (0, [0x00]) ∧ (pageOf s 0).state = .filling ∧ s.settings.pageLineLimit ≤ (pageOf s 0).committed) := by
  decide +kernel

/-- A record of two bytes to take, the page with `used` bytes in its block. -/
def recordAt (used : Nat) : State :=
  onPage 0 (fun p => { p with bytesUsed := used }) (scanning (fun x => { x with slots := [.coded 0 [0x02, 0xFF] false] }))

/-- A record of a SCAN in the channel, waiting for a block. -/
def waitingRecord : State := (scanning id).onStore (fun x => { x with scanIn := ⟨some 0, some ⟨[0xFF], false⟩⟩ })

theorem witness_ScanLineStoredOverBlocks :
    (∀ s ∈ [recordAt 2047, recordAt 2048, allBlocks .used (recordAt 2047)],
      takeable s = some (0, [0x02, 0xFF]) ∧ s.store.scanIn.slot = some 0 ∧ (pageOf s 0).state = .filling ∧
      (pageOf s 0).committed < s.settings.pageLineLimit ∧
      ([0x02, 0xFF] : List Byte).drop (2048 - (pageOf s 0).bytesUsed) ≠ []) ∧
    (allocate 0 (putBytes 0 [0x02, 0xFF] (recordAt 2047)).1).isSome = true ∧
    (allocate 0 (putBytes 0 [0x02, 0xFF] (recordAt 2048)).1).isSome = true ∧
    (allocate 0 (putBytes 0 [0x02, 0xFF] (allBlocks .used (recordAt 2047))).1).isNone = true ∧
    (scanJob waitingRecord = some (0, jobOf .scan .running) ∧ waitingRecord.store.scanIn.held.isSome = true ∧
      waitingRecord.scan.waitAnswered = false ∧ jobRests waitingRecord 0 = true ∧
      jobRests (onFeed .scan (fun f => { f with moving := true }) waitingRecord) 0 = false) ∧
    (let s := onPage 0 (fun p => { p with state := .damaged }) (recordAt 0)
     takeable s = some (0, [0x02, 0xFF]) ∧ (pageOf s 0).committed < s.settings.pageLineLimit ∧ (pageOf s 0).state ≠ .filling) := by
  decide +kernel

/-- A calibration at a stage. -/
def calibrating (stage : CalStage) (lines : Nat) (s : State) : State :=
  s.onScan (fun x => { x with
    calibration := some ⟨stage, lines, List.replicate 1728 0, List.replicate 1728 0, 0, false⟩ })

theorem witness_LampAndCalibration :
    (let s := later 100000 (active.onScan (fun x => { x with lamp := ⟨some 0, false⟩ }))
     s.scan.lamp = ⟨some 0, false⟩ ∧ 0 + 100000 ≤ s.now ∧ s.scan.calibration = none) ∧
    ((calibrating .warming 0 active).scan.calibration.map Calibration.stage) = some .warming ∧
    (let s := sent .scanCalibrate active
     takes .scanCalibrate s = true ∧ s.jobs.holders.scanner = .free ∧ s.levels.docRead = false ∧ s.power.mode = .active) ∧
    (let s := sent .scanCalibrate ready; takes .scanCalibrate s = true ∧ s.power.mode = .standby ∧ s.power.headSince = none) ∧
    (let s := later 1808 (calibrating .dark 6 active)
     s.scan.calibration.isSome = true ∧ 0 + 1808 ≤ s.now ∧ s.scan.lamp = ⟨none, false⟩) ∧
    (later 1808 (calibrating .dark 7 active)).scan.lamp = ⟨none, false⟩ ∧
    ((later 1808 (calibrating .white 7 active)).scan.calibration.map Calibration.stage) = some .white := by decide +kernel

theorem witness_LampAndCalibration_refusals :
    (let s := sent .scanCalibrate (setHolder .scanner (.internal [.eject]) active)
     takes .scanCalibrate s = true ∧ s.jobs.holders.scanner ≠ .free) ∧
    (let s := sent .scanCalibrate (active.onLevels (fun l => { l with docRead := true }))
     takes .scanCalibrate s = true ∧ s.levels.docRead = true) := by decide +kernel

theorem witness_LinePlanHolds :
    workedLine.length = 1728 ∧ workedHistory.length = 1728 ∧ 216 ≤ ready.settings.dotLimit ∧ ready.settings.historyH ≤ 16 ∧ 0 < 1 := by
  decide +kernel

/-- A PRINT job in its page, with a physical line to offer. -/
def printing : State :=
  let s := withJob (jobOf .print .running) (withPage .complete active)
  s.onJobs (fun w => { w with print := ⟨.printing, some ⟨0, false, 0, lineA, 1, 2⟩, .start⟩ })

/-- A line being fired, at a stage of its first phase. -/
def firing (phases : List Phase) (stage : FireStage) : State :=
  active.onEnergy (fun e => { e with firing := some ⟨⟨0, 0, true⟩, lineA, lineA, phases, stage, 0⟩ })

theorem witness_HeadEventsAct :
    (let s := later 50000 (active.onEnergy (fun e => { e with ready := false }))
     s.energy.ready = false ∧ s.power.headSince = some 0 ∧ 0 + 50000 ≤ s.now) ∧
    (let s := later 10000 active
     s.power.mode = .active ∧ s.energy.lastTimed = some 0 ∧ 0 + 10000 ≤ s.now ∧ s.energy.ready = true) ∧
    (offerDue printing = true ∧ printing.jobs.print.line = some ⟨0, false, 0, lineA, 1, 2⟩) ∧
    (let p : Phase := ⟨[1], 1, 1, 1227, 410, true⟩
     (later 1227 (firing [p] .s1)).energy.firing = some ⟨⟨0, 0, true⟩, lineA, lineA, [p], .s1, 0⟩ ∧
     0 + p.s1 ≤ (later 1227 (firing [p] .s1)).now ∧ 0 + p.s2 ≤ (later 410 (firing [p] .s2)).now ∧
     0 + 4000 ≤ (later 4000 (firing [p] .s2)).now ∧
     (later 410 (firing [p] .s2)).energy.firing = some ⟨⟨0, 0, true⟩, lineA, lineA, [p], .s2, 0⟩ ∧
     (later 20 (firing [p, p] .gap)).energy.firing = some ⟨⟨0, 0, true⟩, lineA, lineA, [p, p], .gap, 0⟩ ∧
     0 + 20 ≤ (later 20 (firing [p] .gap)).now) := by decide +kernel

/-- PRINT-OUT on the page of slot 0 with two lines, at a place, the first bytes of block 0 given. -/
def reading (place : Cursor) (bytes : List Byte) (faults : ParityFaults) : State :=
  let s := onPage 0 (fun p => { p with committed := 2, bytesUsed := 2048 }) (withJob (jobOf .print .running) (withPage .complete active))
  let s := (storeBytes 0 bytes s).onJobs (fun w => { w with print := ⟨.printing, none, .start⟩ })
  (s.onStore (fun x => { x with printOut := { Reader.idle with
    document := 1, pageIndex := 1, slot := some 0, ended := false, readAt := place } })).onFaults (fun _ => faults)

/-- What the reader finds at block 0: a record or not, its length, how many of its bytes fail twice, and whether one recovers. -/
def found (s : State) : Bool × Nat × Nat × Bool :=
  let d := delimit s 0 .w1728 ⟨0, 0, false⟩
  ((match d with | .record _ => true | .malformed _ => false), d.bytes.length, (twiceFailing s.dramFaults d.bytes).length,
    recoveredRead s.dramFaults d.bytes)

theorem witness_RecordsRead :
    (let s := reading ⟨0, 0, false⟩ [0x00] ⟨[], []⟩
     offerDue s = true ∧ s.jobs.print.line = none ∧ (readerOf s .print).slot = some 0 ∧ 0 < s.store.pages.length ∧
     (readLineOf .print s).store.printOut.readLine = s.store.printOut.readLine + 1 ∧
     (readLineOf .print s).store.printOut.inFlight.getLast?.isSome = true ∧ found s = (true, 1, 0, false)) ∧
    (let s := reading ⟨0, 0, false⟩ [0xFF] ⟨[], []⟩
     offerDue s = true ∧ (readLineOf .print s).store.printOut.readLine ≠ s.store.printOut.readLine + 1 ∧ found s = (false, 1, 0, false)) ∧
    (let s := reading ⟨0, 2048, false⟩ [] ⟨[], []⟩
     (readerOf s .print).readAt.offset = 2048 ∧ followed s 0 0 = none ∧
     followed (onBlock 1 (fun _ => ⟨.used, none, 0⟩) (onBlock 0 (fun b => { b with next := some 1 }) s)) 0 0 = some 1) ∧
    (blockGood (reading ⟨5, 0, true⟩ [] ⟨[], []⟩) 0 5 = false ∧ blockGood (reading ⟨0, 0, true⟩ [0x00] ⟨[], []⟩) 0 0 = true) ∧
    found (reading ⟨0, 0, false⟩ [0x00] ⟨[0], []⟩) = (true, 1, 0, true) ∧
    found (reading ⟨0, 0, false⟩ [0x00] ⟨[0], [0]⟩) = (true, 1, 1, false) ∧
    found (reading ⟨0, 0, false⟩ [0x03] ⟨[1], [1]⟩) = (true, 217, 1, false) ∧
    found (reading ⟨0, 0, false⟩ [0x02, 0x86, 0xC0] ⟨[2], [2]⟩) = (true, 3, 1, false) := by decide +kernel

/-- R114: in S1 the black dots of the phase's head blocks, in S2 the new ones among them, in the gap none. -/
theorem test_energized_dots :
    (let f := fun st => (Firing.energized ⟨⟨0, 0, true⟩, runs [(1728, true)], runs [(217, false), (1511, true)],
       [⟨[1], 216, 215, 1227, 410, true⟩], st, 0⟩)
     (f .s1).count true = 216 ∧ (f .s1)[216]? = some true ∧ (f .s2).count true = 215 ∧ (f .s2)[216]? = some false ∧
     (f .gap).count true = 0) := by decide +kernel

theorem witness_AllowancesHold :
    0 < [15].length ∧ (∀ i, i < 2 → [1, 0].getD i 0 ≤ [15, 6].getD i 0) ∧ (∀ i, i < 1 → [1, 0].getD i 0 ≤ [1, 0].getD (i + 1) 0 + 1) ∧
    [1, 0].getLast? = some 0 ∧ rampFeed.moving = true ∧ rampFeed.queue ≠ [] ∧ (∀ e ∈ rampFeed.queue, 0 < e.left ∧ e.left ≤ e.steps) ∧
    rampFeed.level ≤ rampFeed.allowances.headD 0 + 1 := by decide

theorem witness_MechanismCommandsAct :
    (active.levels.coverOpen = false ∧ active.power.mode = .active ∧ active.jobs.holders.scanner = .free ∧
      active.jobs.holders.printer = .free) ∧
    (ready.levels.coverOpen = false ∧ ready.power.mode = .standby ∧ ready.power.headSince = none ∧
      takes .docEject (sent .docEject ready) = true ∧ takes .cut (sent .cut ready) = true) ∧
    takes .docEject (sent .docEject active) = true ∧ takes (.paperAdvance 1) (sent (.paperAdvance 1) active) = true ∧
    takes (.paperAdvance 0xFFFF) (sent (.paperAdvance 0xFFFF) active) = true ∧ takes .cut (sent .cut active) = true := by decide +kernel

theorem witness_MechanismCommandsAct_refusals :
    (let s := setHolder .printer (.internal [.cut]) (active.onLevels (fun l => { l with coverOpen := true }))
     takes .docEject (sent .docEject s) = true ∧ takes .cut (sent .cut s) = true ∧ s.levels.coverOpen = true ∧
     s.jobs.holders.printer ≠ .free ∧ takes (.paperAdvance 0) (sent (.paperAdvance 0) s) = true ∧
     takes (.paperAdvance 1) (sent (.paperAdvance 1) s) = true) := by decide +kernel

/-- Both feeds with one RUN entry, or with none. -/
def feeding (c : MotorState) (moving : Bool) (q : List Entry) : State :=
  onFeeds (fun f => { f with current := c, moving := moving, queue := q }) active

theorem witness_MotionsRun :
    (let s := feeding .off false [runEntry .advance 8]
     motionDue s .print = true ∧ motionDue s .scan = true ∧ lineUnderWay s .print = false ∧ (feedOf s .print).current = .off) ∧
    (let s := feeding .hold false [runEntry .advance 8]
     motionDue s .print = true ∧ lineUnderWay s .print = false ∧ (feedOf s .print).current = .hold) ∧
    (let s := feeding .run false [runEntry .advance 8]
     motionDue s .print = true ∧ lineUnderWay s .print = false ∧ (feedOf s .print).current = .run) ∧
    (let s := (feeding .run true [⟨.printLine ⟨0, 0, true⟩ lineA lineA [], 2, 1, 110, 15, true⟩]).onEnergy
       (fun e => { e with firing := some ⟨⟨0, 0, true⟩, lineA, lineA, [⟨[0], 1, 1, 500, 500, true⟩], .s1, 0⟩ })
     (feedOf s .print).atFirstStep = false ∧ lineUnderWay s .print = true) ∧
    (let s := (feeding .run true [runEntry .pick 8]).onScan
       (fun x => { x with phase := .pick, sheet := { x.sheet with edgePending := true } })
     s.mech.scanFeed.queue ≠ [] ∧ s.scan.phase = .pick ∧ s.scan.sheet.edgePending = true) ∧
    (let s := restingEdge ((feeding .run false [runEntry .offset 96]).onScan
       (fun x => { x with phase := .pick, sheet := { x.sheet with edgePending := true } }))
     s.mech.scanFeed.queue ≠ [] ∧ s.scan.phase = .lines ∧ s.scan.sheet.edgePending = true) ∧
    (let s := (scanning (fun x => { x with sheet := { x.sheet with trailingPending := true } }))
     s.scan.phase = .lines ∧ s.scan.sheet.edgePending = false ∧ s.scan.sheet.sinceEdge = some 96 ∧ s.scan.sheet.trailing = none) ∧
    (let s := later 10000 (feeding .energizing true [runEntry .advance 8])
     (feedOf s .print).current = .energizing ∧ (feedOf s .print).since + 10000 ≤ s.now) ∧
    (let s := later 3200 (feeding .run true [⟨.run .advance, 8, 7, 0, 15, false⟩])
     (feedOf s .print).moving = true ∧ (feedOf s .print).current = .run ∧ (feedOf s .print).queue ≠ [] ∧
     (feedOf s .print).lastAt + nextInterval s .print ≤ s.now) ∧
    (let s := later 4000 (feeding .run true [])
     (feedOf s .print).moving = true ∧ (feedOf s .print).current = .run ∧ (feedOf s .print).queue = [] ∧
     (feedOf s .print).lastAt + max (s.settings.ramp .print 0) (feedOf s .print).lastIreq ≤ s.now) := by decide +kernel

/-- A LINE entry of the scan feed, or of the print feed, at `left` of its two steps. -/
def scanEntryAt (left : Nat) (due : Bool) (f : Sheet → Sheet) : State :=
  onFeed .scan (fun x => { x with queue := [⟨.scanLine 0, 2, left, 0, 15, due⟩] })
    (scanning (fun x => { x with sheet := f x.sheet, slots := [.reserved 0] }))
def printEntryAt (left : Nat) (due : Bool) (plan : List Phase) (paper : Bool) : State :=
  let s := onFeed .print (fun x => { x with moving := true, queue := [⟨.printLine ⟨0, 0, true⟩ lineA lineA plan, 2, left, 110, 15, due⟩] })
    (printing.onLevels (fun l => { l with paper := paper }))
  s.onStore (fun x => { x with printOut := { x.printOut with slot := some 0, inFlight := [⟨0, lineA, [0x00], ⟨0, 1, false⟩⟩] } })

/-- R88, R114, R116: the first step of a LINE entry: its capture or its firing begins; a step that is not the first begins neither. -/
theorem test_first_step_of_line :
    (takeStep .scan 0 (scanEntryAt 2 true id)).scan.capture = some ⟨0, 0⟩ ∧
    (takeStep .scan 0 (scanEntryAt 2 false id)).scan.slots = [.free] ∧
    (takeStep .print 0 (printEntryAt 2 true [⟨[0], 1, 1, 500, 500, true⟩] true)).energy.firing.isSome = true ∧
    (takeStep .print 0 (printEntryAt 1 true [⟨[0], 1, 1, 500, 500, true⟩] true)).energy.firing = none := by decide +kernel

theorem witness_LineEntriesStep :
    (let v := scanCounts (onFeed .scan (Feed.stepped 0 0) (scanEntryAt 2 true id)); isPageLine v 0 = true) ∧
    (let v := scanCounts (onFeed .scan (Feed.stepped 0 0) (scanEntryAt 2 true (fun x => { x with trailing := some 0 })))
     isPageLine v 0 = false) ∧
    (let s := printEntryAt 2 true [] true
     s.levels.paper = true ∧ s.store.printOut.inFlight = [⟨0, lineA, [0x00], ⟨0, 1, false⟩⟩] ∧
     s.mech.printFeed.queue = [⟨.printLine ⟨0, 0, true⟩ lineA lineA [], 2, 2, 110, 15, true⟩]) ∧
    (let s := printEntryAt 2 true [] false
     s.levels.paper = false ∧ printJob s = some (0, jobOf .print .running) ∧ s.mech.printFeed.moving = true) := by decide +kernel

theorem witness_CurrentsAndPwm :
    (let s := later 50000 (feeding .run false [runEntry .pick 8])
     (feedOf s .scan).current = .run ∧ (feedOf s .scan).moving = false ∧
     (feedOf s .scan).since + s.settings.holdDelay * 1000 ≤ s.now) ∧
    (let s := later 2000000 (feeding .hold false [])
     (feedOf s .scan).current = .hold ∧ s.settings.offDelay ≠ 0 ∧ (feedOf s .scan).since + s.settings.offDelay * 1000 ≤ s.now) ∧
    generatorsRun ready = true ∧ generatorsRun (starting .levels) = true := by decide +kernel

def withLevels (f : Levels → Levels) (s : State) : State := s.onLevels f
def withCutter (c : CutterState) (s : State) : State := s.onMech (fun x => { x with cutter := ⟨c, 0⟩ })

theorem witness_LevelChangesAct :
    (ready.start.phase = .ready ∧ (ready.power.mode = .active ∨ ready.power.mode = .standby)) ∧
    (ready.levels.docEntry ≠ true ∧ ready.levels.paper ≠ false ∧ ready.levels.wakeKey ≠ true ∧ ready.levels.docRead ≠ true ∧
      ready.scan.phase ≠ .pick ∧ ready.scan.phase ≠ .lines ∧ ready.scan.calibration = none ∧ ready.scan.sheet.edgePending = false) ∧
    (let s := (feeding .run true []).onScan (fun x => { x with phase := .pick, sheet := { x.sheet with pickLimit := 48 } })
     s.levels.docRead = false ∧ s.scan.phase = .pick ∧ pickTaken s = false ∧ s.scan.calibration = none ∧ s.mech.scanFeed.moving = true ∧
     s.mech.scanFeed.current = .run ∧ s.start.phase = .ready ∧ s.power.mode = .active) ∧
    (let s := active.onScan (fun x => { x with phase := .pick, sheet := { x.sheet with pickLimit := 48 } })
     s.levels.docRead = false ∧ s.scan.phase = .pick ∧ pickTaken s = false ∧ s.mech.scanFeed.moving = false) ∧
    (let s := (feeding .run true []).onScan (fun x => { x with
       phase := .pick, sheet := { x.sheet with pickLimit := 48, pickAdmitted := 48 } })
     s.levels.docRead = false ∧ s.scan.phase = .pick ∧ pickTaken s = true ∧ s.scan.calibration = none) ∧
    (let s := withLevels (fun l => { l with docRead := true }) (scanning id)
     s.levels.docRead = true ∧ s.scan.phase = .lines ∧ s.scan.sheet.trailing = none ∧ s.mech.scanFeed.moving = false) ∧
    (let s := calibrating .white 3 active
     s.levels.docRead = false ∧ s.scan.phase ≠ .pick ∧ (s.scan.calibration.map Calibration.startUp) = some false) ∧
    (ready.levels.coverOpen = false ∧ ready.mech.scanFeed.current = .off ∧ ready.mech.printFeed.current = .off ∧
      ready.power.headSince = none) ∧
    (active.levels.coverOpen = false ∧ active.power.headSince.isSome = true) ∧
    (withLevels (fun l => { l with coverOpen := true }) ready).levels.coverOpen = true ∧
    (let s := withLevels (fun l => { l with coverOpen := true }) (active.onPower (fun p => { p with headSince := none }))
     s.levels.coverOpen = true ∧ s.power.mode = .active ∧ s.power.headSince = none) ∧
    (let s := withCutter .leaving active; s.levels.cutterHome = true ∧ s.mech.cutter.state = .leaving) ∧
    (active.levels.cutterHome ≠ false ∧ active.mech.cutter.state = .idle) ∧
    (let s := withLevels (fun l => { l with cutterHome := false }) (withCutter .returning active)
     s.levels.cutterHome = false ∧ s.mech.cutter.state = .returning) ∧
    (let s := later 1000000 (withCutter .returning active)
     s.mech.cutter.state = .returning ∧ s.mech.cutter.since + 1000000 ≤ s.now ∧ s.events.pending[2]? = some none) := by decide +kernel

/-- A cover open over a PRINT job that moves. -/
theorem witness_EmergencyStopHalts :
    (withLevels (fun l => { l with coverOpen := true }) printing).levels.coverOpen = true ∧
    jobHolding printing .printer = some 0 ∧ jobIn printing 0 = some (jobOf .print .running) ∧
    ((jobIn (emergencyStop .cover printing) 0).map Job.state) = some .boundary := by decide +kernel

theorem witness_PowerSafeKept : active.powerSafe ∧ dozing.powerSafe ∧ step active = .next (later 1 active) := by
  refine ⟨⟨?_, ?_, ?_, ?_, ?_, ?_, ?_, ?_⟩, ⟨?_, ?_, ?_, ?_, ?_, ?_, ?_, ?_⟩, rfl⟩ <;> decide +kernel

theorem witness_ModeSetModes :
    takes (.modeSet 0) (sent (.modeSet 0) active) = true ∧ takes (.modeSet 0) (sent (.modeSet 0) ready) = true ∧
    (ready.power.mode = .standby ∧ ready.levels.coverOpen = false ∧ ready.power.headSince = none) ∧
    (takes (.modeSet 1) (sent (.modeSet 1) active) = true ∧ holderOf active .scanner = .free ∧ holderOf active .printer = .free) ∧
    (takes (.modeSet 3) (sent (.modeSet 3) ready) = true ∧ usedSlots ready = [] ∧ ready.settings.writing = none) ∧
    takes (.modeSet 4) (sent (.modeSet 4) ready) = true ∧
    (takes (.modeSet 2) (sent (.modeSet 2) ready) = true ∧ (2 : Byte) ∉ [0, 1, 3, 4]) := by decide +kernel

theorem witness_ModeSetModes_refusals :
    (let s := sent (.modeSet 1) (setHolder .printer (.internal [.cut]) active)
     takes (.modeSet 1) s = true ∧ s.power.mode = .active ∧ holderOf s .printer ≠ .free) ∧
    (takes (.modeSet 3) (sent (.modeSet 3) active) = true ∧ active.power.mode = .active) ∧
    (let s := sent (.modeSet 3) (ready.onSettings (fun g => { g with writing := some ⟨.store, []⟩ }))
     takes (.modeSet 3) s = true ∧ s.settings.writing.isSome = true) := by decide +kernel

theorem witness_ModesEnteredByCounts :
    (let s := later 30000000 (active.onPower (fun p => { p with idleFrom := some 0 }))
     idleRuns s = true ∧ s.power.idleFrom = some 0 ∧ 0 + s.settings.idleTimeout * 1000000 ≤ s.now) ∧
    (let s := later 300000000 (ready.onPower (fun p => { p with dozeFrom := some 0 }))
     dozeRuns s = true ∧ s.power.dozeFrom = some 0 ∧ 0 + s.settings.dozeDelay * 60 * 1000000 ≤ s.now) := by decide +kernel

theorem witness_WakeCausesWake :
    dozing.power.mode = .doze ∧ waking.power.mode = .waking ∧ dozing.start.phase = .ready ∧
    (dozing.levels.docEntry ≠ true ∧ dozing.levels.coverOpen ≠ true ∧ dozing.mech.scanFeed.current = .off ∧
      dozing.mech.printFeed.current = .off ∧ dozing.power.headSince = none ∧ dozing.levels.paper ≠ false ∧
      dozing.levels.wakeKey = false ∧ waking.levels.wakeKey = false) ∧
    (withLevels (fun l => { l with wakeKey := true }) dozing).levels.wakeKey = true ∧
    (let s := later 10000 waking
     s.power.wakingAt + 10000 ≤ s.now ∧ s.start.phase = .ready ∧ s.events.pending[11]? = some none) := by decide +kernel

def ringing (st : RingState) (first latest count : Nat) (s : State) : State := s.onRing (fun _ => ⟨st, first, latest, count⟩)

theorem witness_RingsAreJudged :
    (ready.start.phase ≠ .inReset ∧ ready.ring.state = .idle) ∧
    (let s := later 8000000 (ringing .gap 0 0 1 ready); s.ring.state = .gap ∧ s.now ≤ s.ring.latest + s.settings.gapMax * 1000) ∧
    (let s := later 14000 (ringing .inBurst 0 0 0 ready)
     s.ring.state = .inBurst ∧ s.ring.latest + s.settings.ringPeriodMin * 1000 ≤ s.now ∧
     s.now ≤ s.ring.latest + s.settings.ringPeriodMax * 1000) ∧
    (let s := later 13999 (ringing .inBurst 0 0 0 ready)
     s.ring.latest ≤ s.now ∧ s.now < s.ring.latest + s.settings.ringPeriodMin * 1000) ∧
    (let s := later 470000 (ringing .inBurst 0 400000 0 ready)
     s.ring.latest + s.settings.ringPeriodMax * 1000 ≤ s.now ∧ s.ring.first + s.settings.burstMin * 1000 ≤ s.ring.latest ∧
     s.ring.latest ≤ s.ring.first + s.settings.burstMax * 1000 ∧ s.ring.first ≤ s.ring.latest ∧ s.power.mode = .standby) ∧
    (let s := later 470000 (ringing .inBurst 0 400000 254 dozing)
     s.power.mode = .doze ∧ s.settings.ringWakeCount ≤ min 255 (s.ring.count + 1)) ∧
    (let s := later 470000 (ringing .inBurst 0 400000 0 waking)
     s.power.mode = .waking ∧ min 255 (s.ring.count + 1) < s.settings.ringWakeCount) ∧
    (later 470000 (ringing .inBurst 0 400000 254 waking)).power.mode = .waking ∧
    (let s := later 3070000 (ringing .inBurst 0 3000000 0 dozing)
     s.power.mode = .doze ∧ s.ring.latest ≤ s.ring.first + s.settings.burstMax * 1000 ∧
     min 255 (s.ring.count + 1) < s.settings.ringWakeCount) ∧
    (let s := later 469999 (ringing .inBurst 0 399999 0 ready)
     s.ring.latest + s.settings.ringPeriodMax * 1000 ≤ s.now ∧ s.ring.latest - s.ring.first < s.settings.burstMin * 1000) ∧
    (let s := later 3070001 (ringing .inBurst 0 3000001 0 ready)
     s.ring.latest + s.settings.ringPeriodMax * 1000 ≤ s.now ∧ s.settings.burstMax * 1000 < s.ring.latest - s.ring.first) ∧
    (let s := later 8000000 (ringing .gap 0 0 1 ready)
     s.ring.state = .gap ∧ s.ring.latest + s.settings.gapMax * 1000 ≤ s.now ∧ s.ring.count ≠ 0 ∧ s.power.mode ≠ .doze) ∧
    (later 8000000 (ringing .gap 0 0 0 ready)).ring.count = 0 := by decide +kernel

def alarmed (s : State) : State := later 262143000000 { s with wake := ⟨true, 262143, 0, false⟩ }

theorem witness_AlarmRunsAndExpires :
    takes (.alarmSet 0) (sent (.alarmSet 0) ready) = true ∧
    (takes (.alarmSet 262143) (sent (.alarmSet 262143) ready) = true ∧ (262143 : BitVec 24) ≠ 0 ∧ (262143 : BitVec 24).toNat ≤ 262143) ∧
    (takes (.alarmSet 262144) (sent (.alarmSet 262144) ready) = true ∧ 262143 < (262144 : BitVec 24).toNat) ∧
    ((alarmed ready).wake.running = true ∧ (alarmed ready).wake.since + (alarmed ready).wake.given * 1000000 ≤ (alarmed ready).now ∧
      (alarmed ready).start.phase = .ready) ∧
    (alarmed State.reset).start.phase ≠ .ready := by decide +kernel

/-- A silent host while a PRINT job runs. -/
def silent (first : Bool) : State := later 10000000 { printing with silence := ⟨some 0, first, 0, none⟩ }

theorem witness_SilenceExpiresAndHostResets :
    (silenceRuns (silent false) = true ∧ (silent false).silence.since = some 0 ∧
      0 + (silent false).settings.silenceLimit * 1000000 ≤ (silent false).now ∧ (silent false).silence.firstStage = false) ∧
    (let s := silent false
     jobIn s 0 = some (jobOf .print .running) ∧ jobHolding s .printer = some 0 ∧ jobRests s 0 = true ∧
     jobRests (onFeed .print (fun f => { f with moving := true }) s) 0 = false ∧ s.start.phase = .ready ∧ s.events.pending.length = 16) ∧
    jobIn (withJob (jobOf .print .held) (silent false)) 0 = some (jobOf .print .held) ∧
    (silenceRuns (silent true) = true ∧ (silent true).silence.firstStage = true ∧ (silent true).jobs.slots.length = 4) ∧
    (let s := later 100000 { ready with silence := ⟨none, false, 1, some 0⟩ }; s.silence.pulse = some 0 ∧ 0 + 100000 ≤ s.now) := by
  decide +kernel

theorem witness_BatteryIsRead :
    (later 60000000 ready).start.phase = .ready ∧ (later 60000000 ready).power.mode = .standby ∧
    (later 60000000 ready).start.lastBattery + 60000000 ≤ (later 60000000 ready).now ∧ ready.start.batteryLow = false := by decide +kernel

theorem witness_ResetsBegin :
    (ready.start.batteryOnly = false ∧ ready.start.phase ≠ .inReset) ∧
    (ready.onStart (fun x => { x with batteryOnly := true })).start.batteryOnly = true ∧
    (takes .restart (sent .restart ready) = true ∧ ready.settings.writing = none) ∧
    (let s := sent .restart (ready.onSettings (fun g => { g with writing := some ⟨.store, []⟩ }))
     takes .restart s = true ∧ s.settings.writing.isSome = true) := by decide +kernel

theorem witness_ResetEndJudges :
    (let s := resetBlocks .restart ready; s.start.phase = .inReset ∧ s.start.marker = true ∧ s.start.kind ≠ .powerOn) ∧
    (State.reset.start.phase = .inReset ∧ State.reset.start.marker = false) ∧
    (let s := resetBlocks .powerOn ready; s.start.kind = .powerOn ∧ s.start.marker = true) := by decide +kernel

theorem witness_SettingsPhaseLoads :
    (starting .settings).start.phase = .settings ∧
    imageGood (imageOf defaultValues true) = true ∧ imageGood (List.replicate 512 0xFF) = false ∧
    (starting .settings).settings.eeprom = .bytes (List.replicate 512 0xFF) := by decide +kernel

theorem witness_MemoryPhaseBuilds :
    ((starting .memory).start.phase = .memory ∧ (starting .memory).start.domainLost = true) ∧
    (let s := (withPage .filling (starting .memory)).onStart (fun x => { x with domainLost := false })
     s.start.phase = .memory ∧ s.start.domainLost = false ∧ s.store.scanIn = ⟨none, none⟩ ∧ s.store.linkIn = none ∧
     s.scan.slots = List.replicate 16 .free ∧ s.jobs.slots = [none, none, none, none] ∧ s.store.printOut.slot = none ∧
     s.store.linkOut.slot = none ∧ ∀ d ∈ s.store.documents, d.state = .empty → d.pages = []) := by decide +kernel

theorem witness_LevelsTakenAtStart : (starting .levels).start.phase = .levels := by decide

def endingStart : State := (starting .mechanism).onStart (fun x => { x with homing := some .home, calOutcome := some .good })

theorem witness_ReleaseEndsStartUp :
    endingStart.start.phase = .mechanism ∧ endingStart.start.homing = some .home ∧ endingStart.start.calOutcome = some .good ∧
    endingStart.power.mode = .standby ∧ endingStart.events = ⟨List.replicate 16 none, List.replicate 16 false, false⟩ ∧
    endingStart.link.inbound = [] ∧ endingStart.store.linkIn = none := by decide +kernel

theorem witness_ClearCausesClears : takes .clearCauses (sent .clearCauses ready) = true := by decide +kernel

theorem witness_SettingSetClampsLegally :
    ready.settingsLegal ∧ (0 < 80 ∧ 79 < 80) ∧ (ready.onSettings (Settings.put 79 15)).settingsLegal := by
  refine ⟨⟨?_, ?_⟩, ?_, ⟨?_, ?_⟩⟩ <;> decide +kernel

theorem witness_LoadedSettingsClampLegally :
    defaultValues.length = 80 ∧ (List.replicate 80 0).length = 80 ∧
    (ready.onSettings (fun g => { g with values := defaultValues })).settingsLegal := by
  refine ⟨?_, ?_, ⟨?_, ?_⟩⟩ <;> decide +kernel

theorem witness_SettingsLegalKept : ready.settingsLegal ∧ step ready = .next (later 1 ready) :=
  ⟨witness_SettingSetClampsLegally.1, rfl⟩

theorem witness_ImageLoadsBack : ready.settingsLegal := witness_SettingSetClampsLegally.1

theorem witness_SettingSetTakes :
    takes (.settingSet 0x20 0xFFFF) (sent (.settingSet 0x20 0xFFFF) ready) = true ∧ itemPlace (0x20 : Byte).toNat = some 16 ∧
    ready.settings.writing = none ∧ ready.settings.protect = false ∧ rampMotor 16 = none ∧ rampMotor 24 = some .print ∧
    (feedOf ready .print).current = .off ∧ (feedOf ready .print).queue = [] := by decide +kernel

theorem witness_SettingSetTakes_refusals :
    (itemPlace (0 : Byte).toNat = none ∧ takes (.settingGet 0) (sent (.settingGet 0) ready) = true ∧
     takes (.settingSet 0 0) (sent (.settingSet 0 0) ready) = true) ∧
    takes (.settingSet 0x20 1) (sent (.settingSet 0x20 1) (ready.onSettings (fun g => { g with writing := some ⟨.store, []⟩ }))) = true ∧
    takes (.settingSet 0x20 1) (sent (.settingSet 0x20 1) (ready.onSettings (fun g => { g with protect := true }))) = true ∧
    (let s := onFeed .print (fun f => { f with current := .hold }) active
     takes (.settingSet 0x30 1) (sent (.settingSet 0x30 1) s) = true ∧ (itemPlace (0x30 : Byte).toNat).bind rampMotor = some .print ∧
     (feedOf s .print).current ≠ .off) := by decide +kernel

theorem witness_StoresBeginAndEnd_refusals :
    (let s := ready.onSettings (fun g => { g with writing := some ⟨.store, []⟩, protect := true })
     takes .settingsStore (sent .settingsStore s) = true ∧ takes .settingsProtect (sent .settingsProtect s) = true ∧
     takes (.settingsDefault 0) (sent (.settingsDefault 0) s) = true ∧ takes (.settingsDefault 1) (sent (.settingsDefault 1) s) = true ∧
     takes (.settingsDefault 2) (sent (.settingsDefault 2) s) = true) ∧
    (let s := ready.onSettings (fun g => { g with protect := true })
     takes .settingsStore (sent .settingsStore s) = true ∧ takes (.settingsDefault 0) (sent (.settingsDefault 0) s) = true ∧
     (feedOf s .scan).current = .off ∧ (feedOf s .print).current = .off ∧ (feedOf s .scan).queue = [] ∧ (feedOf s .print).queue = []) ∧
    (let s := onFeed .print (fun f => { f with current := .hold }) active
     takes (.settingsDefault 1) (sent (.settingsDefault 1) s) = true ∧ (feedOf s .print).current ≠ .off) := by decide +kernel

theorem witness_StoresBeginAndEnd :
    ready.settings.writing = none ∧ ready.settings.protect = false ∧ motorsIdle ready = true ∧
    takes .settingsStore (sent .settingsStore ready) = true ∧ takes .settingsProtect (sent .settingsProtect ready) = true ∧
    takes (.settingsDefault 0) (sent (.settingsDefault 0) ready) = true ∧
    takes (.settingsDefault 1) (sent (.settingsDefault 1) ready) = true ∧
    (ready.onSettings (fun g => { g with writing := some ⟨.store, []⟩ })).settings.writing = some ⟨.store, []⟩ := by decide +kernel

/-- A page list names pages of documents 1 to 32 alone. -/
theorem noPagesBeyond (s : State) (n : Nat) (h : s.store.documents.length = 32) (hn : 33 ≤ n) : (docOf s n).pages = [] := by
  have : s.store.documents[n - 1]? = none := List.getElem?_eq_none (by omega)
  simp [docOf, List.getD, this, Document.blank]

/-- A FILLING page of one line in one byte, LINK-IN's channel on it, its job the document's one user. -/
def storing : State :=
  onDoc 1 (fun d => { d with users := 1, writer := some 7 })
    (onPage 0 (fun p => { p with committed := 1, bytesUsed := 1 }) (receiving .running .receiving []))

theorem witness_StoreSoundKept_lists : storing.listsSound := by
  have beyond : ∀ n, ¬n < 33 → docOf storing n = .blank := fun n hn => by
    have : storing.store.documents[n - 1]? = none := List.getElem?_eq_none (by
      have : storing.store.documents.length = 32 := by decide +kernel
      omega)
    simp [docOf, List.getD, this]
  have outside : ∀ p, ¬p < 256 → pageOf storing p = .blank := fun p hp => by
    have : storing.store.pages[p]? = none := List.getElem?_eq_none (by
      have : storing.store.pages.length = 256 := by decide +kernel
      omega)
    simp [pageOf, List.getD, this]
  refine ⟨fun p h => ?_, fun n => ?_, fun n h => ?_, fun k j h => ?_, fun n => ?_, fun p h => ?_, fun p h => ?_⟩
  · by_cases hp : p < 256
    · exact (show ∀ p < 256, (pageOf storing p).state ≠ .empty → p ∈ (docOf storing (pageOf storing p).document).pages by
        decide +kernel) p hp h
    · exact absurd (by rw [outside p hp]; rfl) h
  · by_cases hn : n < 33
    · exact (show ∀ n < 33, (docOf storing n).pages.Nodup by decide +kernel) n hn
    · rw [beyond n hn]; exact List.nodup_nil
  · by_cases hn : n < 33
    · exact (show ∀ n < 33, (docOf storing n).state = .empty → (docOf storing n).pages = [] by decide +kernel) n hn h
    · rw [beyond n hn]; rfl
  · by_cases hk : k < 4
    · exact (show ∀ k < 4, ∀ j ∈ jobIn storing k, (docOf storing j.document).state ≠ .empty by decide +kernel) k hk j h
    · have hl : storing.jobs.slots.length = 4 := by decide +kernel
      have : storing.jobs.slots[k]? = none := List.getElem?_eq_none (by omega)
      simp [jobIn, this] at h
  · by_cases hn : n < 33
    · exact (show ∀ n < 33, (storing.jobs.slots.filter (fun j => decide (j.map Job.document = some n))).length ≤
        (docOf storing n).users by decide +kernel) n hn
    · have : storing.jobs.slots.filter (fun j => decide (j.map Job.document = some n)) = [] := by
        have hs : storing.jobs.slots.map (Option.map Job.document) = [some 1, none, none, none] := by decide +kernel
        refine List.filter_eq_nil_iff.2 (fun j hj => ?_)
        have : j.map Job.document ∈ [some 1, none, none, none] := hs ▸ List.mem_map_of_mem hj
        have hne : ¬n = 1 := by omega
        simp only [List.mem_cons, List.not_mem_nil, or_false] at this
        rcases this with h | h | h | h <;> simp [h, Ne.symm hne]
      rw [this]; exact Nat.zero_le _
  · exact absurd h (by simp [show storing.store.printOut.slot = none by decide +kernel])
  · exact absurd h (by simp [show storing.store.linkOut.slot = none by decide +kernel])

theorem witness_StoreSoundKept : storing.storeSound ∧ storing.start.phase ≠ .memory ∧ step storing = .next (later 1 storing) := by
  refine ⟨⟨by decide +kernel, ?_, ?_, ?_, ?_, ?_, ?_, ?_⟩, by decide, rfl⟩
  · intro n p hp
    by_cases hn : n < 33
    · exact (show ∀ n < 33, ∀ p ∈ (docOf storing n).pages, (pageOf storing p).state ≠ .empty ∧ (pageOf storing p).document = n by
        decide +kernel) n hn p hp
    · rw [noPagesBeyond storing n (by decide +kernel) (by omega)] at hp
      cases hp
  · exact show ∀ p ∈ storing.store.pages, ((p.state = .filling ∨ p.state = .complete ∨ p.state = .truncated) ∧ p.frontFreed = false) →
        1 ≤ p.blockCount ∧ p.bytesUsed ≤ Config.blockBytes ∧ p.part ≤ p.bytesUsed ∧ p.committed ≤ p.committedBytes by
      decide +kernel
  · intro p hp; exact absurd hp (by simp [show storing.store.scanIn.slot = none by decide +kernel])
  · intro p hp
    obtain rfl : 0 = p := by simpa [show storing.store.linkIn.bind LinkIn.slot = some 0 by decide +kernel] using hp
    decide +kernel
  · intro n r t h
    have : storing.scan.slots = List.replicate 16 .free := by decide +kernel
    simp [this] at h
  · intro h hh; exact absurd hh (by simp [show storing.store.scanIn.held = none by decide +kernel])
  · intro h hh; exact absurd hh (by simp [show storing.store.linkIn.bind LinkIn.held = none by decide +kernel])

/-- A PRINT job that is HELD, its feed at rest. -/
def heldPrint : State := withJob (jobOf .print .held) (withDoc active)

theorem witness_JobsSoundKept :
    heldPrint.jobsSound ∧ step heldPrint = .next (later 1 heldPrint) ∧ jobIn heldPrint 0 = some (jobOf .print .held) ∧
    holderOf heldPrint (motorEngine .print) = .job 0 := by
  have hj : ∀ k j, jobIn heldPrint k = some j → k = 0 ∧ j = jobOf .print .held := by
    intro k j h
    by_cases hk : k < 4
    · exact (show ∀ k < 4, ∀ j ∈ jobIn heldPrint k, k = 0 ∧ j = jobOf .print .held by decide +kernel) k hk j h
    · have hl : heldPrint.jobs.slots.length = 4 := by decide +kernel
      have : heldPrint.jobs.slots[k]? = none := List.getElem?_eq_none (by omega)
      simp [jobIn, this] at h
  refine ⟨⟨?_, ?_, ?_, ?_, ?_⟩, rfl, by decide +kernel, by decide +kernel⟩
  · intro k j h e
    obtain ⟨rfl, rfl⟩ := hj k j h
    cases e <;> decide +kernel
  · intro e k h
    have : k = 0 := by
      cases e <;> simp [show heldPrint.jobs.holders = ⟨.free, .job 0, .free, .free⟩ by decide +kernel, holderOf, Engines.at] at h
      exact h.symm
    subst this; decide +kernel
  · intro e k h
    have : heldPrint.jobs.waits = ⟨[], [], [], []⟩ := by decide +kernel
    cases e <;> simp [this, Engines.at] at h
  · intro k j h _
    obtain ⟨rfl, rfl⟩ := hj k j h
    decide +kernel
  · intro m; cases m <;> decide +kernel

/-! ## Single steps, their results from the manual -/

/-- R203, R205: the reply of a PING in STANDBY at the strap's first rate: 4 bytes echoed, mode 1, rate 0, eight totals of 0, 4096 free
bytes. -/
theorem test_ping_reply :
    (after (exec (.ping 1 2 3 4) (sent (.ping 1 2 3 4) ready))).link.reply =
      some ([0x01, 0, 1, 2, 3, 4, 1, 0] ++ List.replicate 16 0 ++ [0x10, 0x00]) := by decide +kernel

/-- R24: the lowest EMPTY slot, in the reply and OPEN. -/
theorem test_doc_create :
    (let t := after (exec (.docCreate 1 2 1) (sent (.docCreate 1 2 1) (withDoc ready)))
     t.link.reply = some [0x10, 0, 2] ∧ (docOf t 2).state = .opened ∧ (docOf t 2).origin = .receive ∧
     (docOf t 2).resolution = .superfine ∧ (docOf t 2).width = .w2048) := by decide +kernel

/-- 6.2: s5 is taken at level 4, and the next level is 4. -/
theorem test_feed_step_follows_plan :
    (let s := later 1900 (active.onMech (fun x => { x with printFeed := { rampFeed with current := .run } }))
     let t := after (exec (.feedStep .print) s)
     t.mech.printFeed.level = 4 ∧ t.mech.printFeed.stepCount = 1 ∧ t.mech.printFeed.nextLevel = 4) := by decide +kernel

/-- 2.5.1, item 4: RUNS 900, 900 is stored as a REPEAT of one byte and concealed. -/
theorem test_received_overshoot :
    (let t := after (exec .receivedLineRecord (receiving .running .receiving [⟨[0x02, 0x83, 0x84, 0x83, 0x84], 11⟩]))
     (pageOf t 0).committed = 1 ∧ (pageOf t 0).bytesUsed = 1 ∧ (pageOf t 0).concealed = 1) := by decide +kernel

/-- R135, R137: the cover opened in ACTIVE: EMERGENCY, HEADPWR off and off until it is closed. -/
theorem test_cover_opened :
    (let t := after (exec (.coverChange true) active)
     t.power.headSince = none ∧ t.energy.ready = false ∧ (t.events.pending[1]?).isSome = true ∧ t.events.atn = true) := by decide +kernel

/-- R151: WAKE-KEY pressed in DOZE wakes the part; released, it does not. -/
theorem test_wake_key :
    (after (exec (.wakeKeyChange true) dozing)).power.mode = .waking ∧
    (after (exec (.wakeKeyChange false) (withLevels (fun l => { l with wakeKey := true }) dozing))).power.mode = .doze := by decide +kernel

/-- R157: a burst that brings the count to RING-WAKE-COUNT in DOZE raises RING and wakes the part; in WAKING it joins the causes. -/
theorem test_ring_wakes :
    (let t := after (exec .ringBurstEnd (later 470000 (ringing .inBurst 0 400000 254 dozing)))
     t.power.mode = .waking ∧ t.power.causes.ring = true ∧ (t.events.pending[9]?.join).isSome = true) ∧
    (after (exec .ringBurstEnd (later 470000 (ringing .inBurst 0 400000 254 waking)))).power.causes.ring = true := by decide +kernel

/-- R205, R207: a JOB record of a code with no place gives 0xFF for it. -/
theorem test_job_record_place :
    (JobDetail.bytes (jobDetail (jobOf .print .boundary) none (some ⟨.prMore, none, none⟩)))[5]? = some 0xFF ∧
    (JobDetail.bytes (jobDetail (jobOf .print .boundary) (some .completed) none))[5]? = some 0xFF := by decide +kernel

/-- R11, R68: a discarded page leaves the range of a PRINT of pages 1 to 3 as it was; a removed free-as-read page lowers it. -/
theorem test_range_at_discard_and_removal :
    (let s := withJob { jobOf .print .running with lastPage := 3 } (withPage .filling active)
     (jobIn (discardPage 0 s) 0).map Job.lastPage = some 3 ∧ (jobIn (removePage 0 s) 0).map Job.lastPage = some 2) := by decide +kernel

/-- R55, R69: at the end of copy 1 of 2 the page to begin next is the first page of copy 2. -/
theorem test_position_at_copy_end :
    (let s := withJob { jobOf .print .running with lastPage := 1, copies := 2 } (withPage .complete active)
     let j := jobIn (moveOn 0 s) 0
     j.map Job.currentCopy = some 2 ∧ j.map Job.currentPage = some 1) := by decide +kernel

/-- R85: an edge shown at rest with no pick step queued: an offset entry of O steps, and the edge is step 0 at the first of them. -/
theorem test_edge_at_rest :
    (let s := advance ((withJob (jobOf .scan .running) (withPage .filling active)).onScan (fun x => { x with
       phase := .pick, sheet := { Sheet.none with pickLimit := 48, pickAdmitted := 8, edgePending := true } }))
     s.mech.scanFeed.queue = [runEntry .offset s.settings.readOffset] ∧ s.scan.sheet.offset = some s.settings.readOffset ∧
     (takeStep .scan 0 s).scan.sheet.sinceEdge = some 0) := by decide +kernel

/-- R73: a cutter jam while a COPY ejects a page that has ended: PR-CUT, and the eject's steps left are kept. -/
theorem test_cutter_jam_keeps_eject :
    (let s := (withJob (jobOf .copy .running) (withPage .complete active)).onScan (fun x => { x with
       phase := .lines, sheet := { Sheet.none with offset := some 96, trailing := some 0, pageEnded := true, ejectAdmitted := true } })
     let t := emergencyStop .cutter (onFeed .scan (fun f => { f with queue := [⟨.run .eject, 500, 123, 0, 15, false⟩] }) s)
     t.scan.sheet.ejectDue = 123 ∧ (jobIn t 0).map Job.boundary = some (some ⟨.prCut, some .cutter, none⟩)) := by decide +kernel

/-- R83: the SCANNER granted again in the step in which it falls free: the lamp has gone off. -/
theorem test_lamp_off_between_jobs :
    (let s := (withJob (jobOf .scan .running) (withPage .filling active)).onScan (fun x => { x with phase := .pick, lamp := ⟨some 0, true⟩ })
     (advance (endJob 0 .aborted s)).scan.lamp = ⟨none, false⟩ ∧
     (lampRule (endJob 0 .aborted s)).isSome = true) := by decide +kernel

/-- R64, R68: at PR-MORE a NEXT with its page only yet to come steps no motor; with the page there it does. -/
theorem test_next_moves_when_printing :
    (let j := { atBoundary .print .prMore with currentPage := 0 }
     choiceMoves (withJob j (withDoc active)) 0 j ⟨.prMore, none, none⟩ .next = false ∧
     choiceMoves (withJob j (withPage .complete active)) 0 j ⟨.prMore, none, none⟩ .next = true) := by decide +kernel

/-- R64: at SC-MORE a NEXT whose page start is refused steps no motor, nor does RESUME at PR-PAPER with no line to print. -/
theorem test_refused_starts_step_nothing :
    (let j := atBoundary .scan .scMore
     let s := (withJob j (withPage .complete active)).onLevels (fun l => { l with docEntry := true })
     choiceMoves s 0 j ⟨.scMore, none, none⟩ .next = true ∧ choiceMoves (allBlocks .used s) 0 j ⟨.scMore, none, none⟩ .next = false) ∧
    (let j := atBoundary .print .prPaper
     let s := onPage 0 (fun p => { p with state := .filling, committed := 0 })
       (withJob j (reading ⟨0, 0, false⟩ [] ⟨[], []⟩))
     choiceMoves s 0 j ⟨.prPaper, some .cover, none⟩ .resume = false) := by decide +kernel

/-- R64: at PR-PAPER of a COPY whose page is done, NEXT steps the scan feed where the next sheet lies at DOC-ENTRY, and not without
one; and a last page without a line, FILLING still, is no page to print though copies are left. -/
theorem test_choice_moves_in_prospect :
    (let j := { atBoundary .copy .prPaper with currentPage := 2 }
     let s := fun sheet => ((withJob j (withPage .complete active)).onScan (fun x => { x with phase := .pageDone })).onLevels
       (fun l => { l with docEntry := sheet })
     choiceMoves (s true) 0 j ⟨.prPaper, some .cover, none⟩ .next = true ∧
     choiceMoves (s false) 0 j ⟨.prPaper, some .cover, none⟩ .next = false) ∧
    (let j := { atBoundary .print .prMore with currentPage := 0, lastPage := 1, copies := 2 }
     choiceMoves (withJob j (withPage .filling active)) 0 j ⟨.prMore, none, none⟩ .next = false) := by decide +kernel

/-- R99, R100: with 16 steps of an eject in one entry no further entry is admitted; with 8 left one is. -/
theorem test_eject_sixteen_ahead :
    (let s := fun left => (onFeed .scan (fun f => { f with queue := [⟨.run .eject, 16, left, 0, 15, false⟩] })
       (withJob (jobOf .copy .running) (withPage .complete active))).onLevels (fun l => { l with docRead := true })
     (ejectOffer (s 16) ⟨false, false⟩).isNone = true ∧ (ejectOffer (s 9) ⟨false, false⟩).isNone = true ∧
     (ejectOffer (s 8) ⟨false, false⟩).isSome = true) := by decide +kernel

/-- R168, R187: a reset during a store cuts it off. -/
theorem test_reset_cuts_store :
    (let s := resetBlocks .pin (ready.onSettings (fun g => { g with writing := some ⟨.store, []⟩ }))
     s.settings.writing = none ∧ s.settings.eeprom = .partlyWritten) := by decide +kernel

/-- R73: during the eject after a COPY's FINISH at PR-PAPER the print side stands still on its page; RETRY at an SC-JAM met in that eject
lets it go on, and FINISH ends the job. -/
theorem test_finish_then_retry_prints :
    (let j := atBoundary .copy .prPaper
     let s := ((withJob j (withPage .complete active)).onScan (fun x => { x with phase := .pick })).onStore
       (fun x => { x with printOut := { x.printOut with slot := some 0, document := 1, pageIndex := 1 } })
     let s := s.onJobs (fun w => { w with print := ⟨.printing, none, .start⟩ })
     let t := carryChoice 0 j ⟨.prPaper, some .paper, none⟩ .finish s
     let u := carryChoice 0 j ⟨.scJam, some .long, none⟩ .retry t
     printEnds t = true ∧ t.store.printOut.slot = some 0 ∧ (printRule t).isNone = true ∧ lineToOffer t = false ∧
     printEnds u = false ∧ u.jobs.print.phase = .printing ∧ u.scan.phase = .look ∧
     (jobIn (carryChoice 0 j ⟨.scJam, some .long, none⟩ .finish t) 0).isNone = true) := by decide +kernel

/-- R48: after a page that was kept short, the scan page of a COPY names the page begun next; after a page removed under its writer it
stays. -/
theorem test_scan_page_names_page :
    (let j := jobOf .copy .running
     let t := requestStart 0 j (withJob j (withPage .truncated active))
     (jobIn t 0).map Job.scanPage = some 2 ∧ (docOf t 1).pages = [0, 1]) ∧
    (let j := jobOf .copy .running
     (jobIn (endScanPage 0 j (withJob j (withDoc active))) 0).map Job.scanPage = some 1 ∧
     (jobIn (endScanPage 0 j (withJob j (withPage .filling active))) 0).map Job.scanPage = some 2) := by decide +kernel

/-- R30, R71: PRINT-OUT is STARVED on a page and for a page to come, and IDLE while a COPY waits for LEAD-LINES. -/
theorem test_outlet_states :
    (let j := { jobOf .copy .running with starvedRead := true, currentPage := 1 }
     outletState (withJob j (withPage .filling active)) .print = 0 ∧ outletState (withJob j (withDoc active)) .print = 3) := by
  decide +kernel

/-- R56: a COPY STARVED for LEAD-LINES is STARVED no more once FINISH at PR-PAPER has kept its FILLING page. -/
theorem test_finish_ends_starved :
    (let j := { atBoundary .copy .prPaper with starvedRead := true, currentPage := 1 }
     let s := (withJob j (withPage .filling active)).onScan (fun x => { x with phase := .warming })
     let s := s.onStore (fun x => { x with scanIn := ⟨some 0, none⟩ })
     let s := s.onJobs (fun w => { w with print := ⟨.needPage, none, .start⟩ })
     let t := advance (carryChoice 0 j ⟨.prPaper, some .cover, none⟩ .finish (onJob 0 (fun x => { x with state := .running }) s))
     pageAhead s j = .toCome ∧ printEnds t = true ∧ (pageOf t 0).state = .truncated ∧
     (jobIn t 0).map Job.starvedRead = some false ∧ t.jobs.print.phase = .needPage ∧ (stopCauses t .print).starved = false) := by
  decide +kernel

/-- R82, R84: a sheet shown after the last pick step, before the motor rests, is no edge of the page. -/
theorem test_edge_after_pick :
    (let s := fun admitted => ((withJob (atBoundary .copy .prPaper) (withPage .filling active)).onScan (fun x => { x with
       phase := .pick, sheet := { Sheet.none with pickLimit := 48, pickAdmitted := admitted } })).onMech (fun x => { x with
         scanFeed := { x.scanFeed with moving := true, current := .run } })
     (sheetArrives (s 48)).scan.phase = .pick ∧ (sheetArrives (s 40)).scan.phase = .lines) := by decide +kernel

/-- R56: at SC-JAM a SCAN's wait for room, in mid-page or at a page start, is over. -/
theorem test_jam_ends_wait :
    (let j := { jobOf .scan .running with starvedWrite := true }
     let s := addWaiter .scanRecord ((withJob j (withPage .filling active)).onStore (fun x => { x with
       scanIn := ⟨some 0, some ⟨[0xFF], false⟩⟩ }))
     let s := s.onScan (fun x => { x with phase := .lines, waitAnswered := true })
     let t := advance (emergencyStop .cover s)
     (jobIn s 0).map Job.starvedWrite = some true ∧ (jobIn t 0).map Job.state = some .boundary ∧
     (jobIn t 0).map Job.starvedWrite = some false ∧ t.scan.waitAnswered = false) ∧
    (let j := { jobOf .scan .running with starvedWrite := true }
     let s := addWaiter .pageStart ((withJob j (withDoc active)).onScan (fun x => { x with
       phase := .startWait .blocks, waitAnswered := true }))
     let t := advance (emergencyStop .cover s)
     (jobIn t 0).map Job.starvedWrite = some false ∧ t.store.waiters = []) := by decide +kernel

/-- R147: a DOC-EJECT that ends within its step, with no sheet and EJECT-STEPS 0, sets the idle count to 0. -/
theorem test_eject_restarts_idle_count :
    (let s := sent .docEject (later 5000000 (active.onPower (fun p => { p with idleFrom := some 0 })))
     let s := s.onSettings (fun g => { g with values := g.values.set 65 0 })
     idleRuns s = true ∧ s.power.idleFrom = some 0 ∧ s.settings.ejectSteps = 0 ∧
     holderOf (after (exec .docEject s)) .scanner = .free ∧
     (after (exec .docEject s)).power.idleFrom = some s.now) := by decide +kernel

/-- R100: SHEET shown again after the last eject entry is no long sheet. -/
theorem test_eject_final_is_not_long :
    (let j := jobOf .copy .running
     let s := fun final => ((withJob j (withPage .complete active)).onScan (fun x => { x with
       phase := .eject, eject := some ⟨final, false⟩, after := some .endScanSide
       sheet := { Sheet.none with longCount := some 20000 } })).onLevels (fun l => { l with docRead := true })
     (ejectRule 0 j (s false)).map (fun t => t.scan.phase) = some .jammed ∧
     (ejectRule 0 j (s true)).map (fun t => t.scan.phase) ≠ some .jammed) := by decide +kernel

/-- R56, R57, R59: an eject after DROP that has been carried out ends no COPY that is stopped: one HOLDING for a code or for HOLD enters
BOUNDARY or HELD, one at PR-PAPER stays there when DOC-READ turns NONE, and the job ends DROPPED when it is RUNNING again. -/
theorem test_stopped_job_outlives_eject :
    (let s := fun (final : Bool) (j : Job) => ((withJob j (withPage .complete active)).onScan (fun x => { x with
       phase := .eject, eject := some ⟨final, false⟩, after := some .endDropped })).onSettings
         (fun g => { g with values := g.values.set 65 0 })
     let paper : Boundary := ⟨.prPaper, some .paper, none⟩
     let holding := fun stop => advance (s true { jobOf .copy .holding with pendingStop := some stop })
     let atPaper := { atBoundary .copy .prPaper with boundary := some paper }
     ((jobIn (holding (.code paper)) 0).map Job.state = some .boundary ∧ (jobIn (holding .hold) 0).map Job.state = some .held) ∧
     (jobIn (advance (s false atPaper)) 0).map Job.state = some .boundary ∧
     (jobIn (advance (resumed 0 (jobOf .copy .held) (s true (jobOf .copy .held)))) 0).isNone = true ∧
     (jobIn (takeAnswer 0 atPaper paper .resume (s false atPaper)) 0).isNone = true) := by decide +kernel

/-- R73: FINISH at PR-PAPER lets the eject under way go on, and ends the job at once where that eject has been carried out. -/
theorem test_finish_in_eject :
    (let j := atBoundary .copy .prPaper
     let s := fun final => (withJob j (withPage .complete active)).onScan (fun x => { x with
       phase := .eject, eject := some ⟨final, false⟩, after := some .endScanSide })
     let t := takeAnswer 0 j ⟨.prPaper, some .paper, none⟩ .finish (s false)
     t.mech.scanFeed.queue = [runEntry .eject t.settings.ejectSteps] ∧ t.scan.after = some .endCompleted ∧
     (jobIn (takeAnswer 0 j ⟨.prPaper, some .paper, none⟩ .finish (s true)) 0).isNone = true) := by decide +kernel

end Sys2Proof.Tests
end

section
/-! The lookups of the store and of the jobs after an update of one entry (R1, R4, R6, R48). -/

namespace Sys2Proof.Machine

-- One theorem at a time, as in the tests: a thread for each would exceed the memory allowed.
set_option Elab.async false

/-! ## One entry of a list -/

theorem getD_modifyAt_ite {α : Type} (f : α → α) (i k : Nat) (l : List α) (d : α) :
    (modifyAt i f l).getD k d = if k = i ∧ i < l.length then f (l.getD i d) else l.getD k d := by
  simp only [List.getD, getElem?_modifyAt]
  by_cases h : k = i
  · subst h
    by_cases hl : k < l.length <;> simp [hl]
  · simp [h]

/-! ## Pages, blocks and documents -/

variable {s : State}

theorem pageOf_onPage_ite (f : Page → Page) (slot p : Nat) (s : State) :
    pageOf (onPage slot f s) p = if p = slot ∧ slot < s.store.pages.length then f (pageOf s slot) else pageOf s p :=
  getD_modifyAt_ite f slot p s.store.pages .blank

theorem pageOf_onPage_ne {f : Page → Page} {slot p : Nat} (h : p ≠ slot) : pageOf (onPage slot f s) p = pageOf s p := by
  simp [pageOf_onPage_ite, h]

theorem blockOf_onBlock_ite (f : Block → Block) (c b : Nat) (s : State) :
    blockOf (onBlock c f s) b = if b = c ∧ c < s.store.blocks.length then f (blockOf s c) else blockOf s b :=
  getD_modifyAt_ite f c b s.store.blocks .blank

theorem docOf_onDoc_ite (f : Document → Document) (n m : Nat) (s : State) :
    docOf (onDoc n f s) m = if m = n ∧ 1 ≤ n ∧ n ≤ s.store.documents.length then f (docOf s n) else docOf s m := by
  unfold onDoc
  by_cases hn : n = 0
  · simp [hn]
  by_cases hm : m = 0
  · simp only [hn, if_false, docOf, hm, if_true]
    rw [if_neg (by omega)]
  · simp only [hn, if_false, docOf, hm]
    show (modifyAt (n - 1) f s.store.documents).getD (m - 1) .blank = _
    rw [getD_modifyAt_ite]
    refine if_congr ?_ rfl rfl
    omega

@[simp] theorem pageOf_onBlock (c : Nat) (f : Block → Block) (s : State) (p : Nat) : pageOf (onBlock c f s) p = pageOf s p := rfl
@[simp] theorem docOf_onBlock (c : Nat) (f : Block → Block) (s : State) (n : Nat) : docOf (onBlock c f s) n = docOf s n := rfl
@[simp] theorem blockOf_onPage (slot : Nat) (f : Page → Page) (s : State) (b : Nat) : blockOf (onPage slot f s) b = blockOf s b := rfl
@[simp] theorem docOf_onPage (slot : Nat) (f : Page → Page) (s : State) (n : Nat) : docOf (onPage slot f s) n = docOf s n := rfl

@[simp] theorem pageOf_onDoc (n : Nat) (f : Document → Document) (s : State) (p : Nat) : pageOf (onDoc n f s) p = pageOf s p := by
  unfold onDoc; split <;> rfl

@[simp] theorem blockOf_onDoc (n : Nat) (f : Document → Document) (s : State) (b : Nat) : blockOf (onDoc n f s) b = blockOf s b := by
  unfold onDoc; split <;> rfl

theorem pageOf_out_of_range {slot : Nat} (h : s.store.pages.length ≤ slot) : pageOf s slot = .blank := by
  simp [pageOf, List.getD, h]

theorem pageOf_in_range {slot : Nat} (h : (pageOf s slot).state ≠ .empty) : slot < s.store.pages.length := by
  by_contra hge
  exact h (by rw [pageOf_out_of_range (by omega)]; rfl)

/-- A number whose document is not EMPTY names a directory slot. -/
theorem docOf_in_range {n : Nat} (h : (docOf s n).state ≠ .empty) : 1 ≤ n ∧ n ≤ s.store.documents.length := by
  unfold docOf at h
  split at h
  · exact absurd rfl h
  · next hn =>
    by_contra hge
    exact h (by rw [List.getD_eq_default _ _ (by omega)]; rfl)

theorem pageOf_mem {p : Page} (h : p ∈ s.store.pages) : ∃ slot, slot < s.store.pages.length ∧ pageOf s slot = p := by
  obtain ⟨slot, hs, rfl⟩ := List.mem_iff_getElem.1 h
  exact ⟨slot, hs, by simp [pageOf, hs]⟩

theorem mem_pageOf {slot : Nat} (h : slot < s.store.pages.length) : pageOf s slot ∈ s.store.pages := by
  simp [pageOf, h]

theorem blockOf_mem {b : Block} (h : b ∈ s.store.blocks) : ∃ n, n < s.store.blocks.length ∧ blockOf s n = b := by
  obtain ⟨n, hn, rfl⟩ := List.mem_iff_getElem.1 h
  exact ⟨n, hn, by simp [blockOf, hn]⟩

theorem blockOf_out_of_range {b : Nat} (h : s.store.blocks.length ≤ b) : blockOf s b = .blank := by
  simp [blockOf, List.getD, h]

theorem mem_blockOf {b : Nat} (h : b < s.store.blocks.length) : blockOf s b ∈ s.store.blocks := by
  simp [blockOf, h]

/-! ## Jobs -/

theorem jobIn_onJob (k i : Nat) (f : Job → Job) (s : State) :
    jobIn (onJob k f s) i = if i = k then (jobIn s i).map f else jobIn s i := by
  show ((modifyAt k (Option.map f) s.jobs.slots)[i]?).join = _
  rw [getElem?_modifyAt]
  unfold jobIn
  split
  · cases s.jobs.slots[i]? <;> rfl
  · rfl

theorem jobIn_slot {k : Nat} {j : Job} : jobIn s k = some j ↔ s.jobs.slots[k]? = some (some j) := by
  unfold jobIn
  cases s.jobs.slots[k]? <;> simp [Option.join]

theorem map_modifyAt_eq {α β : Type} {g : α → β} {f : α → α} (h : ∀ x, g (f x) = g x) (i : Nat) (l : List α) :
    (modifyAt i f l).map g = l.map g := by
  induction l generalizing i with
  | nil => cases i <;> rfl
  | cons x xs ih => cases i <;> simp [modifyAt, h, ih]

end Sys2Proof.Machine
end

section
/-! What an operation keeps of the page DRAM, the store's records and the lists (R1, R5, R6, R8, R13, section 1.2): the relation `Keeps`, the
shape of a change that weakens no record, and the updates of the blocks of the state. -/

namespace Sys2Proof.Machine

-- One theorem at a time, as in the tests: a thread for each would exceed the memory allowed.
set_option Elab.async false

variable {s t u : State}

/-- R1: the block belongs to a page. -/
def Block.inUse (b : Block) : Prop := b.state = .used ∨ b.state = .suspect

/-- R8, R13: a page that holds every line committed to it has a block, and a byte or more for each. -/
def Page.sized (p : Page) : Prop :=
  p.holdsWhole → 1 ≤ p.blockCount ∧ p.bytesUsed ≤ Config.blockBytes ∧ p.part ≤ p.bytesUsed ∧ p.committed ≤ p.committedBytes

/-- R48: the documents of the job slots. -/
def jobDocs (s : State) : List (Option Nat) := s.jobs.slots.map (Option.map Job.document)

/-- What an operation keeps: the form of the DRAM, the soundness of the records, and over sound records that of the lists. -/
structure Keeps (s t : State) : Prop where
  dram  : s.dramWf → t.dramWf
  store : s.storeSound → t.storeSound
  lists : s.storeSound → s.listsSound → t.listsSound

theorem Keeps.refl (s : State) : Keeps s s := ⟨id, id, fun _ => id⟩

theorem Keeps.trans (a : Keeps s t) (b : Keeps t u) : Keeps s u :=
  ⟨b.dram ∘ a.dram, b.store ∘ a.store, fun hs hl => b.lists (a.store hs) (a.lists hs hl)⟩

/-! ## The invariants by lookups -/

theorem block_inUse_mem {b : Nat} (h : (blockOf s b).inUse) : blockOf s b ∈ s.store.blocks := by
  by_cases hb : b < s.store.blocks.length
  · exact mem_blockOf hb
  · rw [blockOf_out_of_range (by omega)] at h
    simp [Block.inUse, Block.blank] at h

theorem owner_live (hs : s.storeSound) {b : Nat} (h : (blockOf s b).inUse) : (pageOf s (blockOf s b).owner).state ≠ .empty :=
  hs.owned _ (block_inUse_mem h) h

theorem blank_sized : Page.blank.sized := fun h => by simp [Page.holdsWhole, Page.blank] at h

theorem page_sized (hs : s.storeSound) (slot : Nat) : (pageOf s slot).sized := by
  by_cases h : slot < s.store.pages.length
  · exact hs.lines _ (mem_pageOf h)
  · rw [pageOf_out_of_range (by omega)]; exact blank_sized

theorem mem_jobDocs {n : Nat} : some n ∈ jobDocs s ↔ ∃ k j, jobIn s k = some j ∧ j.document = n := by
  simp only [jobDocs, List.mem_map, Option.map_eq_some_iff, jobIn_slot]
  constructor
  · rintro ⟨_, hm, j, rfl, hj⟩
    obtain ⟨k, hk⟩ := List.mem_iff_getElem?.1 hm
    exact ⟨k, j, hk, hj⟩
  · rintro ⟨k, j, hk, hj⟩
    exact ⟨_, List.mem_iff_getElem?.2 ⟨k, hk⟩, j, rfl, hj⟩

theorem jobDoc_live (hl : s.listsSound) {n : Nat} (h : some n ∈ jobDocs s) : (docOf s n).state ≠ .empty := by
  obtain ⟨k, j, hk, rfl⟩ := mem_jobDocs.1 h
  exact hl.jobDoc k j hk

theorem users_eq_count (s : State) (n : Nat) :
    (s.jobs.slots.filter (fun j => decide (j.map Job.document = some n))).length = (jobDocs s).count (some n) := by
  rw [jobDocs, List.count_eq_countP, List.countP_map, List.countP_eq_length_filter]
  congr 1
  refine List.filter_congr fun j _ => ?_
  rw [Bool.eq_iff_iff]
  cases j <;> simp

/-- The records are sound when each lookup is. -/
theorem storeSound_of (owned : ∀ b, (blockOf s b).inUse → (pageOf s (blockOf s b).owner).state ≠ .empty)
    (listed : ∀ n, ∀ p ∈ (docOf s n).pages, (pageOf s p).state ≠ .empty ∧ (pageOf s p).document = n)
    (lines : ∀ p, (pageOf s p).sized)
    (scanPage : ∀ p, s.store.scanIn.slot = some p → (pageOf s p).state ≠ .empty)
    (linkPage : ∀ p, s.store.linkIn.bind LinkIn.slot = some p → (pageOf s p).state ≠ .empty)
    (records : ∀ n r b, LineSlot.coded n r b ∈ s.scan.slots → r ≠ [])
    (scanHeld : ∀ h, s.store.scanIn.held = some h → h.rest ≠ [])
    (linkHeld : ∀ h, s.store.linkIn.bind LinkIn.held = some h → h.rest ≠ []) : s.storeSound where
  owned b hb hu := by obtain ⟨n, -, rfl⟩ := blockOf_mem hb; exact owned n hu
  listed := listed
  lines p hp := by obtain ⟨n, -, rfl⟩ := pageOf_mem hp; exact lines n
  scanPage := scanPage
  linkPage := linkPage
  records := records
  scanHeld := scanHeld
  linkHeld := linkHeld

/-! ## A change that weakens no record -/

/-- R14: the pages on which readers stand are not EMPTY. -/
def State.readersLive (s : State) : Prop := ∀ o p, (readerOf s o).slot = some p → (pageOf s p).state ≠ .empty

theorem State.listsSound.readersLive (hl : s.listsSound) : s.readersLive := by
  rintro (_ | _) p hp
  exacts [hl.printPage p hp, hl.sendPage p hp]

/-- After the change no page has become EMPTY, the lists stand as they did, a block has gone into use for a page that is not EMPTY alone, a
channel has come to stand on such a page alone and holds no empty record; the pages that `P` names have room for their lines, and the
documents that `Q` names count their users. -/
structure EasedOn (P Q : Nat → Prop) (s t : State) : Prop where
  dram : s.dramWf → t.dramWf
  blocks : ∀ b, (blockOf t b).inUse → ((blockOf s b).inUse ∧ (blockOf t b).owner = (blockOf s b).owner) ∨
    (pageOf t (blockOf t b).owner).state ≠ .empty
  live : ∀ p, (pageOf s p).state ≠ .empty → (pageOf t p).state ≠ .empty ∧ (pageOf t p).document = (pageOf s p).document
  sized : ∀ p, P p → (pageOf s p).sized → (pageOf t p).sized
  still : s.readersLive → ∀ p, (pageOf t p).state ≠ .empty → (pageOf s p).state ≠ .empty
  pages : ∀ n, (docOf t n).pages = (docOf s n).pages
  docs : ∀ n, (docOf t n).state = .empty → (docOf s n).state = .empty
  users : ∀ n, Q n → (jobDocs s).count (some n) ≤ (docOf s n).users → (jobDocs t).count (some n) ≤ (docOf t n).users
  jobs : ∀ n, some n ∈ jobDocs t → some n ∈ jobDocs s ∨ (docOf t n).state ≠ .empty
  scanPage : ∀ p, t.store.scanIn.slot = some p → s.store.scanIn.slot = some p ∨ (pageOf t p).state ≠ .empty
  linkPage : ∀ p, t.store.linkIn.bind LinkIn.slot = some p → s.store.linkIn.bind LinkIn.slot = some p ∨ (pageOf t p).state ≠ .empty
  printPage : ∀ p, t.store.printOut.slot = some p → s.store.printOut.slot = some p ∨ (pageOf t p).state ≠ .empty
  sendPage : ∀ p, t.store.linkOut.slot = some p → s.store.linkOut.slot = some p ∨ (pageOf t p).state ≠ .empty
  records : ∀ n r b, LineSlot.coded n r b ∈ t.scan.slots → (∃ b', LineSlot.coded n r b' ∈ s.scan.slots) ∨ r ≠ []
  scanHeld : ∀ h, t.store.scanIn.held = some h → s.store.scanIn.held = some h ∨ h.rest ≠ []
  linkHeld : ∀ h, t.store.linkIn.bind LinkIn.held = some h → s.store.linkIn.bind LinkIn.held = some h ∨ h.rest ≠ []

/-- The same, every page keeping room for its lines. -/
abbrev Eased (s t : State) : Prop := EasedOn (fun _ => True) (fun _ => True) s t

/-- The same, for every page but one. -/
abbrev EasedBut (slot : Nat) (s t : State) : Prop := EasedOn (· ≠ slot) (fun _ => True) s t

theorem EasedOn.store {Q : Nat → Prop} (e : EasedOn (fun _ => True) Q s t) (hs : s.storeSound) : t.storeSound := by
  refine storeSound_of ?_ ?_ (fun p => e.sized p trivial (page_sized hs p)) ?_ ?_ ?_ ?_ ?_
  · intro b hb
    rcases e.blocks b hb with ⟨hu, ho⟩ | h
    · rw [ho]; exact (e.live _ (owner_live hs hu)).1
    · exact h
  · intro n p hp
    obtain ⟨hl, hd⟩ := hs.listed n p (e.pages n ▸ hp)
    exact ⟨(e.live p hl).1, (e.live p hl).2.trans hd⟩
  · exact fun p hp => (e.scanPage p hp).elim (fun h => (e.live p (hs.scanPage p h)).1) id
  · exact fun p hp => (e.linkPage p hp).elim (fun h => (e.live p (hs.linkPage p h)).1) id
  · exact fun n r b hb => (e.records n r b hb).elim (fun ⟨b', h⟩ => hs.records n r b' h) id
  · exact fun h hh => (e.scanHeld h hh).elim (hs.scanHeld h) id
  · exact fun h hh => (e.linkHeld h hh).elim (hs.linkHeld h) id

theorem EasedOn.readersLive {P Q : Nat → Prop} (e : EasedOn P Q s t) (h : s.readersLive) : t.readersLive := by
  rintro (_ | _) p hp
  · exact (e.printPage p hp).elim (fun hs => (e.live p (h .print p hs)).1) id
  · exact (e.sendPage p hp).elim (fun hs => (e.live p (h .link p hs)).1) id

theorem EasedOn.listsOf {P Q : Nat → Prop} (e : EasedOn P Q s t) (hl : s.listsSound)
    (users : ∀ n, (jobDocs t).count (some n) ≤ (docOf t n).users) : t.listsSound where
  inList p hp := by
    have hp' := e.still hl.readersLive p hp
    rw [(e.live p hp').2, e.pages]; exact hl.inList p hp'
  once n := by rw [e.pages]; exact hl.once n
  emptyDoc n hn := by rw [e.pages]; exact hl.emptyDoc n (e.docs n hn)
  jobDoc k j hk hn := (e.jobs _ (mem_jobDocs.2 ⟨k, j, hk, rfl⟩)).elim (fun h => jobDoc_live hl h (e.docs _ hn)) fun h => h hn
  users n := by rw [users_eq_count]; exact users n
  printPage := e.readersLive hl.readersLive .print
  sendPage := e.readersLive hl.readersLive .link

theorem Eased.lists (e : Eased s t) (hl : s.listsSound) : t.listsSound :=
  e.listsOf hl fun n => e.users n trivial (users_eq_count s n ▸ hl.users n)

theorem EasedOn.trans {P Q : Nat → Prop} (a : EasedOn P Q s t) (b : EasedOn P Q t u) : EasedOn P Q s u where
  dram := b.dram ∘ a.dram
  blocks c hc := by
    rcases b.blocks c hc with ⟨hu, ho⟩ | h
    · rw [ho]
      exact (a.blocks c hu).imp_right fun h => (b.live _ h).1
    · exact .inr h
  live p hp := by
    obtain ⟨ht, hd⟩ := a.live p hp
    exact ⟨(b.live p ht).1, (b.live p ht).2.trans hd⟩
  sized p hP := b.sized p hP ∘ a.sized p hP
  still hl p := a.still hl p ∘ b.still (a.readersLive hl) p
  pages n := (b.pages n).trans (a.pages n)
  docs n := a.docs n ∘ b.docs n
  users n hQ := b.users n hQ ∘ a.users n hQ
  jobs n h := (b.jobs n h).elim (fun h => (a.jobs n h).imp_right fun h hn => h (b.docs n hn)) .inr
  scanPage p hp := (b.scanPage p hp).elim (fun h => (a.scanPage p h).imp_right fun h => (b.live p h).1) .inr
  linkPage p hp := (b.linkPage p hp).elim (fun h => (a.linkPage p h).imp_right fun h => (b.live p h).1) .inr
  printPage p hp := (b.printPage p hp).elim (fun h => (a.printPage p h).imp_right fun h => (b.live p h).1) .inr
  sendPage p hp := (b.sendPage p hp).elim (fun h => (a.sendPage p h).imp_right fun h => (b.live p h).1) .inr
  records n r c hc := (b.records n r c hc).elim (fun ⟨c', h⟩ => a.records n r c' h) .inr
  scanHeld h hh := (b.scanHeld h hh).elim (a.scanHeld h) .inr
  linkHeld h hh := (b.linkHeld h hh).elim (a.linkHeld h) .inr

/-- A change that leaves one page short of room for its lines and one that gives it the room again. -/
theorem EasedOn.eased {slot : Nat} (e : EasedBut slot s t) (h : (pageOf s slot).sized → (pageOf t slot).sized) : Eased s t :=
  { e with sized := fun p _ hp => if hps : p = slot then by subst hps; exact h hp else e.sized p hps hp }

theorem Eased.on {P Q : Nat → Prop} (e : Eased s t) : EasedOn P Q s t :=
  { e with sized := fun p _ => e.sized p trivial, users := fun n _ => e.users n trivial }

theorem Eased.keeps (e : Eased s t) (hk : Keeps u s) : Keeps u t := hk.trans ⟨e.dram, e.store, fun _ => e.lists⟩

/-- A change that weakens no record where the records are sound. -/
theorem keeps_of_sound (hk : Keeps u s) (hd : s.dramWf → t.dramWf) (h : u.storeSound → Eased s t) : Keeps u t :=
  ⟨hd ∘ hk.dram, fun hu => (h hu).store (hk.store hu), fun hu hl => (h hu).lists (hk.lists hu hl)⟩

theorem Eased.refl (s : State) : Eased s s where
  dram h := h
  blocks _ h := .inl ⟨h, rfl⟩
  live _ h := ⟨h, rfl⟩
  sized _ _ h := h
  still _ _ h := h
  pages _ := rfl
  docs _ h := h
  users _ _ h := h
  jobs _ h := .inl h
  scanPage _ h := .inl h
  linkPage _ h := .inl h
  printPage _ h := .inl h
  sendPage _ h := .inl h
  records _ _ b h := .inl ⟨b, h⟩
  scanHeld _ h := .inl h
  linkHeld _ h := .inl h

/-- A change that leaves the store and the line slots, and the documents of the jobs. -/
theorem Eased.of_same (hd : t.dram = s.dram) (hs : t.store = s.store) (hr : t.scan.slots = s.scan.slots) (hj : jobDocs t = jobDocs s) :
    Eased s t := by
  have e := Eased.refl s
  have hb : blockOf t = blockOf s := by funext b; simp only [blockOf, hs]
  have hp : pageOf t = pageOf s := by funext b; simp only [pageOf, hs]
  have hn : docOf t = docOf s := by funext b; simp only [docOf, hs]
  exact
    { dram := fun h => by rw [State.dramWf, hd]; exact h
      blocks := fun b h => .inl ⟨hb ▸ h, by rw [hb]⟩, live := hp ▸ e.live, sized := hp ▸ e.sized, still := hp ▸ e.still
      pages := hn ▸ e.pages, docs := hn ▸ e.docs, users := fun n _ h => by rw [hj, hn]; exact h, jobs := fun n h => .inl (hj ▸ h)
      scanPage := fun _ h => .inl (hs ▸ h), linkPage := fun _ h => .inl (hs ▸ h), printPage := fun _ h => .inl (hs ▸ h)
      sendPage := fun _ h => .inl (hs ▸ h)
      records := hr ▸ e.records, scanHeld := hs ▸ e.scanHeld, linkHeld := hs ▸ e.linkHeld }

theorem keeps_of_same (hk : Keeps u s) (hd : t.dram = s.dram) (hs : t.store = s.store) (hr : t.scan.slots = s.scan.slots)
    (hj : jobDocs t = jobDocs s) : Keeps u t := (Eased.of_same hd hs hr hj).keeps hk

/-! ## The updates of the blocks of the state -/

section
variable (hk : Keeps u s)
include hk

theorem keeps_onEvents {f : Events → Events} : Keeps u (s.onEvents f) := keeps_of_same hk rfl rfl rfl rfl
theorem keeps_onEnergy {f : Energy → Energy} : Keeps u (s.onEnergy f) := keeps_of_same hk rfl rfl rfl rfl
theorem keeps_onMech {f : Mechanism → Mechanism} : Keeps u (s.onMech f) := keeps_of_same hk rfl rfl rfl rfl
theorem keeps_onLink {f : Link → Link} : Keeps u (s.onLink f) := keeps_of_same hk rfl rfl rfl rfl
theorem keeps_onPower {f : Power → Power} : Keeps u (s.onPower f) := keeps_of_same hk rfl rfl rfl rfl
theorem keeps_onStart {f : StartUp → StartUp} : Keeps u (s.onStart f) := keeps_of_same hk rfl rfl rfl rfl
theorem keeps_onLevels {f : Levels → Levels} : Keeps u (s.onLevels f) := keeps_of_same hk rfl rfl rfl rfl
theorem keeps_onRing {f : Ring → Ring} : Keeps u (s.onRing f) := keeps_of_same hk rfl rfl rfl rfl
theorem keeps_onWake {f : WakeTimer → WakeTimer} : Keeps u (s.onWake f) := keeps_of_same hk rfl rfl rfl rfl
theorem keeps_onSilence {f : Silence → Silence} : Keeps u (s.onSilence f) := keeps_of_same hk rfl rfl rfl rfl
theorem keeps_onSettings {f : Settings → Settings} : Keeps u (s.onSettings f) := keeps_of_same hk rfl rfl rfl rfl
theorem keeps_onFaults {f : ParityFaults → ParityFaults} : Keeps u (s.onFaults f) := keeps_of_same hk rfl rfl rfl rfl
theorem keeps_settle : Keeps u (settle s) := keeps_of_same hk rfl rfl rfl rfl

/-- An update of the scan path after which no record is in the line buffer that was not. -/
theorem keeps_onScan {f : ScanPath → ScanPath} (h : ∀ x n r b, LineSlot.coded n r b ∈ (f x).slots → ∃ b', LineSlot.coded n r b' ∈ x.slots) :
    Keeps u (s.onScan f) := Eased.keeps { Eased.refl s with records := fun n r b hb => .inl (h s.scan n r b hb) } hk

/-- An update of the scan path that leaves the line buffer. -/
theorem keeps_onScanRest {f : ScanPath → ScanPath} (h : ∀ x, (f x).slots = x.slots := by exact fun _ => rfl) : Keeps u (s.onScan f) :=
  keeps_onScan hk fun x _ _ b hb => ⟨b, h x ▸ hb⟩

/-- An update of the jobs that leaves the slots. -/
theorem keeps_onJobs {f : WorkOrders → WorkOrders} (h : ∀ w, (f w).slots = w.slots := by exact fun _ => rfl) : Keeps u (s.onJobs f) :=
  keeps_of_same hk rfl rfl rfl (congrArg (List.map _) (h s.jobs))

/-- An update of a job that leaves its document. -/
theorem keeps_onJob {k : Nat} {f : Job → Job} (h : ∀ j, (f j).document = j.document := by exact fun _ => rfl) : Keeps u (onJob k f s) := by
  refine keeps_of_same hk rfl rfl rfl ?_
  exact map_modifyAt_eq (fun x => by cases x <;> simp [h]) k s.jobs.slots

theorem keeps_mapJobs {f : Job → Job} (h : ∀ j, (f j).document = j.document) :
    Keeps u (s.onJobs (fun w => { w with slots := w.slots.map (Option.map f) })) := by
  refine keeps_of_same hk rfl rfl rfl ?_
  show (s.jobs.slots.map (Option.map f)).map (Option.map Job.document) = s.jobs.slots.map (Option.map Job.document)
  rw [List.map_map]
  refine List.map_congr_left fun j _ => ?_
  cases j <;> simp [h]

theorem keeps_onFeed {m : Motor} {f : Feed → Feed} : Keeps u (onFeed m f s) := keeps_onMech hk

end

/-! ## The updates of the store -/

/-- An update of the store that leaves its records and moves no channel onto a page. -/
structure Store.EasedTo (st st' : Store) : Prop where
  blocks : st'.blocks = st.blocks
  pages : st'.pages = st.pages
  documents : st'.documents = st.documents
  scanPage : ∀ p, st'.scanIn.slot = some p → st.scanIn.slot = some p
  linkPage : ∀ p, st'.linkIn.bind LinkIn.slot = some p → st.linkIn.bind LinkIn.slot = some p
  printPage : ∀ p, st'.printOut.slot = some p → st.printOut.slot = some p
  sendPage : ∀ p, st'.linkOut.slot = some p → st.linkOut.slot = some p
  scanHeld : ∀ h, st'.scanIn.held = some h → st.scanIn.held = some h
  linkHeld : ∀ h, st'.linkIn.bind LinkIn.held = some h → st.linkIn.bind LinkIn.held = some h

theorem Store.EasedTo.refl (st : Store) : st.EasedTo st :=
  ⟨rfl, rfl, rfl, fun _ h => h, fun _ h => h, fun _ h => h, fun _ h => h, fun _ h => h, fun _ h => h⟩

theorem Store.EasedTo.eased {f : Store → Store} (h : s.store.EasedTo (f s.store)) : Eased s (s.onStore f) := by
  have e := Eased.refl s
  have hb : blockOf (s.onStore f) = blockOf s := by funext b; simp only [blockOf, State.onStore_store, h.blocks]
  have hp : pageOf (s.onStore f) = pageOf s := by funext b; simp only [pageOf, State.onStore_store, h.pages]
  have hn : docOf (s.onStore f) = docOf s := by funext b; simp only [docOf, State.onStore_store, h.documents]
  exact ⟨e.dram, fun b h => .inl ⟨hb ▸ h, by rw [hb]⟩, hp ▸ e.live, hp ▸ e.sized, hp ▸ e.still, hn ▸ e.pages, hn ▸ e.docs, fun n _ h => by rw [hn]; exact h, fun _ h => .inl h,
    fun p hp => .inl (h.scanPage p hp), fun p hp => .inl (h.linkPage p hp), fun p hp => .inl (h.printPage p hp),
    fun p hp => .inl (h.sendPage p hp), e.records, fun x hx => .inl (h.scanHeld x hx), fun x hx => .inl (h.linkHeld x hx)⟩

/-- What stands in a channel after an update of it. -/
theorem linkIn_bind_map {α : Type} {f : LinkIn → LinkIn} {g : LinkIn → Option α} (h : ∀ c x, g (f c) = some x → g c = some x)
    (o : Option LinkIn) (x : α) (hx : (o.map f).bind g = some x) : o.bind g = some x := by
  cases o with
  | none => exact hx
  | some c => exact h c x hx

/-- An update of a page, its room for its lines aside. -/
theorem easedOn_onPage {slot : Nat} {f : Page → Page}
    (live : (pageOf s slot).state ≠ .empty → (f (pageOf s slot)).state ≠ .empty ∧ (f (pageOf s slot)).document = (pageOf s slot).document)
    (still : s.readersLive → (f (pageOf s slot)).state ≠ .empty → (pageOf s slot).state ≠ .empty) :
    EasedBut slot s (onPage slot f s) := by
  have live' : ∀ p, (pageOf s p).state ≠ .empty →
      (pageOf (onPage slot f s) p).state ≠ .empty ∧ (pageOf (onPage slot f s) p).document = (pageOf s p).document := by
    intro p hp
    rw [pageOf_onPage_ite]
    split
    · next h => obtain ⟨rfl, -⟩ := h; exact live hp
    · exact ⟨hp, rfl⟩
  refine { Eased.refl s with live := live', sized := ?_, still := ?_, blocks := fun b h => .inl ⟨h, rfl⟩, scanPage := fun _ h => .inl h
                             linkPage := fun _ h => .inl h, printPage := fun _ h => .inl h, sendPage := fun _ h => .inl h }
  · intro p hps hp; rwa [pageOf_onPage_ne hps]
  · intro hl p hp
    rw [pageOf_onPage_ite] at hp
    split at hp
    · next h => obtain ⟨rfl, -⟩ := h; exact still hl hp
    · exact hp

/-- An update of a block that goes into use, if at all, for a page that is not EMPTY. -/
theorem eased_onBlock {b : Nat} {f : Block → Block}
    (h : (f (blockOf s b)).inUse → ((blockOf s b).inUse ∧ (f (blockOf s b)).owner = (blockOf s b).owner) ∨
      (pageOf s (f (blockOf s b)).owner).state ≠ .empty) : Eased s (onBlock b f s) := by
  refine { Eased.refl s with blocks := ?_ }
  intro c hc
  rw [blockOf_onBlock_ite] at hc ⊢
  split at hc
  · next hcb => rw [if_pos hcb, hcb.1]; exact h hc
  · next hcb => rw [if_neg hcb]; exact .inl ⟨hc, rfl⟩

section
variable (hk : Keeps u s)
include hk

theorem keeps_onStore {f : Store → Store} (h : ∀ st : Store, st.EasedTo (f st) := by exact fun st => { Store.EasedTo.refl st with }) : Keeps u (s.onStore f) :=
  (h s.store).eased.keeps hk

/-- An update of the LINK-IN channel that takes neither a page nor a record. -/
theorem keeps_mapLinkIn {f : LinkIn → LinkIn} (hp : ∀ c p, (f c).slot = some p → c.slot = some p := by exact fun _ _ h => h)
    (hh : ∀ c x, (f c).held = some x → c.held = some x := by exact fun _ _ h => h) :
    Keeps u (s.onStore (fun st => { st with linkIn := st.linkIn.map f })) :=
  keeps_onStore hk fun st => { Store.EasedTo.refl st with
    linkPage := linkIn_bind_map hp st.linkIn, linkHeld := linkIn_bind_map hh st.linkIn }

/-- An update of a page: a page that is not EMPTY stays so and in its document, keeps room for its lines, and one that is EMPTY stays so. -/
theorem keeps_setPage {slot : Nat} {f : Page → Page}
    (live : (pageOf s slot).state ≠ .empty → (f (pageOf s slot)).state ≠ .empty ∧ (f (pageOf s slot)).document = (pageOf s slot).document)
    (sized : (pageOf s slot).sized → (f (pageOf s slot)).sized)
    (still : s.readersLive → (f (pageOf s slot)).state ≠ .empty → (pageOf s slot).state ≠ .empty) : Keeps u (onPage slot f s) :=
  ((easedOn_onPage live still).eased (by rw [pageOf_onPage_ite]; split; exacts [sized, id])).keeps hk

/-- An update of a page's other fields. -/
theorem keeps_onPage {slot : Nat} {f : Page → Page}
    (h : ∀ p, ((f p).state, (f p).document, (f p).frontFreed) = (p.state, p.document, p.frontFreed) ∧
      ((f p).blockCount, (f p).bytesUsed, (f p).part, (f p).committed) = (p.blockCount, p.bytesUsed, p.part, p.committed) := by
        exact fun _ => ⟨rfl, rfl⟩) :
    Keeps u (onPage slot f s) := by
  obtain ⟨h₁, h₂⟩ := h (pageOf s slot)
  simp only [Prod.mk.injEq] at h₁ h₂
  obtain ⟨hs, hd, hf⟩ := h₁
  obtain ⟨hc, hb, hp, hm⟩ := h₂
  refine keeps_setPage hk (fun hl => ⟨hs ▸ hl, hd⟩) ?_ (fun _ hl => hs ▸ hl)
  simp only [Page.sized, Page.holdsWhole, Page.committedBytes, Page.extent, hs, hf, hc, hb, hp, hm]
  exact id

/-- An update of a block that takes it into use for no page. -/
theorem keeps_onBlock {b : Nat} {f : Block → Block} (h : ∀ x : Block, (f x).inUse → x.inUse ∧ (f x).owner = x.owner) :
    Keeps u (onBlock b f s) := (eased_onBlock fun hu => .inl (h _ hu)).keeps hk

/-- An update of a document that leaves its list, does not make it EMPTY and lowers its users no further. -/
theorem keeps_onDoc {n : Nat} {f : Document → Document} (he : ∀ d, (f d).state = .empty → d.state = .empty)
    (hp : ∀ d, (f d).pages = d.pages := by exact fun _ => rfl) (hu : ∀ d, d.users ≤ (f d).users := by exact fun _ => le_rfl) : Keeps u (onDoc n f s) := by
  have hd : ∀ m, docOf (onDoc n f s) m = docOf s m ∨ docOf (onDoc n f s) m = f (docOf s m) := by
    intro m
    rw [docOf_onDoc_ite]
    split
    · next h => rw [h.1]; exact .inr rfl
    · exact .inl rfl
  by_cases hn : n = 0
  · rw [show onDoc n f s = s from if_pos hn]; exact hk
  have ho : onDoc n f s = s.onStore (fun st => { st with documents := modifyAt (n - 1) f st.documents }) := if_neg hn
  rw [ho] at hd ⊢
  refine Eased.keeps { Eased.refl s with pages := ?_, docs := ?_, users := ?_, jobs := fun _ h => .inl h } hk
  · intro m; rcases hd m with h | h <;> rw [h]; exact hp _
  · intro m hm; rcases hd m with h | h <;> rw [h] at hm; exacts [hm, he _ hm]
  · intro m _ hm; rcases hd m with h | h <;> rw [h]; exacts [hm, hm.trans (hu _)]

theorem keeps_foldl {α : Type} {g : State → α → State} {l : List α} (hg : ∀ t x, Keeps u t → Keeps u (g t x)) :
    Keeps u (l.foldl g s) := by
  induction l generalizing s with
  | nil => exact hk
  | cons x xs ih => exact ih (hg s x hk)

end

end Sys2Proof.Machine
end

section
/-! The store's shared operations keep the records and the lists (R2, R3, R7 to R11, R16, R22, R42). -/

namespace Sys2Proof.Machine

-- One theorem at a time, as in the tests: a thread for each would exceed the memory allowed.
set_option Elab.async false

variable {s t u : State}

/-! ## Ops, Flags, LinkOps -/

section
variable (hk : Keeps u s)
include hk

theorem keeps_setHolder {e : Engine} {h : Holder} : Keeps u (setHolder e h s) := keeps_onJobs hk

theorem keeps_takeEngine {e : Engine} {h : Holder} : Keeps u (takeEngine e h s) := by
  unfold takeEngine
  split
  exacts [keeps_onPower (keeps_setHolder hk), keeps_onPower (keeps_setHolder hk), keeps_setHolder hk, keeps_setHolder hk]

theorem keeps_onWaits {e : Engine} {f : List Nat → List Nat} : Keeps u (onWaits e f s) := keeps_onJobs hk

theorem keeps_endOp {e : Engine} {op : InternalOp} : Keeps u (endOp e op s) := by
  unfold endOp
  split
  · exact keeps_setHolder hk
  · exact hk

theorem keeps_raise {n : Nat} {d : Detail} : Keeps u (raise n d s) := by
  unfold raise
  split
  · exact keeps_onEvents hk
  · exact hk

theorem keeps_linkFault {f : LinkFault} : Keeps u (linkFault f s) := keeps_raise (keeps_onLink hk)

theorem keeps_beginSending {w : Sending} : Keeps u (beginSending w s) := keeps_onLink hk

/-! ## Blocks freed -/

theorem keeps_lowAfterFreeing : Keeps u (lowAfterFreeing s) := by
  unfold lowAfterFreeing
  split
  · exact keeps_onStore hk
  · exact hk

theorem keeps_lowAfterSetting : Keeps u (lowAfterSetting s) := by
  unfold lowAfterSetting
  exact keeps_onStore hk

omit hk in
/-- R3: a block freed belongs to no page. -/
theorem freed_not_inUse (b : Block) : ¬b.freed.inUse := by
  unfold Block.freed Block.inUse
  cases b.state <;> simp

theorem keeps_freeBlock {b : Nat} : Keeps u (freeBlock b s) :=
  keeps_lowAfterFreeing (keeps_onBlock hk fun x h => absurd h (freed_not_inUse x))

theorem keeps_freeBlocksOf {bs : List Nat} : Keeps u (freeBlocksOf bs s) := keeps_foldl hk fun _ _ h => keeps_freeBlock h

end

/-! ## A block allocated (R2) -/

/-- R2: the page's record once block `b` is its last. -/
def Page.withBlock (b : Nat) (p : Page) : Page :=
  { p with
    firstBlock := if p.blockCount = 0 then b else p.firstBlock
    lastBlock := b, blockCount := p.blockCount + 1, bytesUsed := 0 }

/-- The block map once block `b` is the page's last. -/
def chainBlock (slot b : Nat) (s : State) : State :=
  if (pageOf s slot).blockCount = 0 then onBlock b (fun _ => ⟨.used, none, slot⟩) s
  else onBlock (pageOf s slot).lastBlock (fun x => { x with next := some b }) (onBlock b (fun _ => ⟨.used, none, slot⟩) s)

theorem linkBlock_eq (slot b : Nat) (s : State) : linkBlock slot b s = onPage slot (Page.withBlock b) (chainBlock slot b s) := rfl

theorem pageOf_chainBlock (slot b p : Nat) (s : State) : pageOf (chainBlock slot b s) p = pageOf s p := by
  unfold chainBlock; split <;> rfl

theorem eased_chainBlock {slot b : Nat} (h : (pageOf s slot).state ≠ .empty) : Eased s (chainBlock slot b s) := by
  have first : Eased s (onBlock b (fun _ => ⟨.used, none, slot⟩) s) := eased_onBlock fun _ => .inr h
  unfold chainBlock
  split
  · exact first
  · exact first.trans (eased_onBlock fun hu => .inl ⟨hu, rfl⟩)

theorem easedOn_linkBlock {slot b : Nat} (h : (pageOf s slot).state ≠ .empty) : EasedBut slot s (linkBlock slot b s) := by
  rw [linkBlock_eq]
  exact (eased_chainBlock h).on.trans (easedOn_onPage (fun h => ⟨h, rfl⟩) (fun _ h => h))

theorem eased_raise (n : Nat) (d : Detail) (s : State) : Eased s (raise n d s) := by
  unfold raise
  split
  · exact Eased.of_same rfl rfl rfl rfl
  · exact .refl s

theorem eased_lowAfterTaking (s : State) : Eased s (lowAfterTaking s) := by
  unfold lowAfterTaking
  split
  · exact (Store.EasedTo.eased { Store.EasedTo.refl s.store with }).trans (eased_raise _ _ _)
  · exact .refl s

theorem pageOf_lowAfterTaking (s : State) (p : Nat) : pageOf (lowAfterTaking s) p = pageOf s p := by
  unfold lowAfterTaking
  split
  · simp [pageOf]
  · rfl

/-- R2: what an allocation does to the page, and that it weakens nothing else. -/
theorem allocate_page {slot : Nat} (ht : allocate slot s = some t) (h : (pageOf s slot).state ≠ .empty) :
    EasedBut slot s t ∧ ∃ b, pageOf t slot = (pageOf s slot).withBlock b := by
  obtain ⟨b, -, rfl⟩ := Option.map_eq_some_iff.1 ht
  refine ⟨(easedOn_linkBlock h).trans (eased_lowAfterTaking _).on, b, ?_⟩
  have hr := pageOf_in_range h
  have hl : (chainBlock slot b s).store.pages = s.store.pages := by unfold chainBlock; split <;> rfl
  rw [pageOf_lowAfterTaking, linkBlock_eq, pageOf_onPage_ite, hl, if_pos ⟨rfl, hr⟩, pageOf_chainBlock]

/-! ## A record appended and committed (R8, R9, R39) -/

/-- R8: a page after the bytes of `bs` that its last block has room for. -/
def Page.withBytes (bs : List Byte) (p : Page) : Page :=
  { p with bytesUsed := p.bytesUsed + (bs.take (Config.blockBytes - p.bytesUsed)).length }

/-- R8, R39: a page after a record is whole. -/
def Page.withRecord (conceals : Bool) (p : Page) : Page :=
  { p with committed := p.committed + 1, part := 0, concealed := satAdd 65535 p.concealed conceals.toNat }

theorem putBytes_rest (slot : Nat) (bs : List Byte) (s : State) :
    (putBytes slot bs s).2 = bs.drop (Config.blockBytes - (pageOf s slot).bytesUsed) := rfl

/-- R8: only the DRAM and the page record change. -/
theorem pageOf_putBytes (slot : Nat) (bs : List Byte) (s : State) (p : Nat) :
    pageOf (putBytes slot bs s).1 p = if p = slot ∧ slot < s.store.pages.length then (pageOf s slot).withBytes bs else pageOf s p :=
  pageOf_onPage_ite _ _ _ _

theorem eased_storeBytes (a : Nat) (bs : List Byte) (s : State) : Eased s (storeBytes a bs s) :=
  { Eased.refl s with dram := memory_wf_storeBytes s a bs }

theorem easedOn_putBytes (slot : Nat) (bs : List Byte) (s : State) : EasedBut slot s (putBytes slot bs s).1 :=
  (eased_storeBytes _ _ s).on.trans (easedOn_onPage (fun h => ⟨h, rfl⟩) (fun _ h => h))

theorem onWriter_store (n : Nat) (f : Job → Job) (s : State) : (onWriter n f s).store = s.store := by unfold onWriter; split <;> rfl

theorem keeps_onWriter {n : Nat} {f : Job → Job} (hk : Keeps u s) (h : ∀ j, (f j).document = j.document := by exact fun _ => rfl) :
    Keeps u (onWriter n f s) := by
  unfold onWriter
  split
  · exact keeps_onJob hk h
  · exact hk

theorem withBytes_sized {p : Page} (bs : List Byte) (h : p.sized) : (p.withBytes bs).sized := by
  intro hw
  have hp := h hw
  simp only [Page.withBytes, Page.committedBytes, Page.extent, Config.blockBytes, List.length_take] at hp ⊢
  omega

/-- R8: a record of a byte or more that fits leaves room for one line more. -/
theorem withRecord_sized {p : Page} {bs : List Byte} (c : Bool) (hbs : bs ≠ [])
    (hfit : bs.drop (Config.blockBytes - p.bytesUsed) = []) (h : p.sized) : ((p.withBytes bs).withRecord c).sized := by
  intro hw
  have hp := h hw
  have hlen := List.length_pos_iff.2 hbs
  rw [List.drop_eq_nil_iff] at hfit
  simp only [Page.withRecord, Page.withBytes, Page.committedBytes, Page.extent, Config.blockBytes, List.length_take] at hp hfit ⊢
  omega

/-- R8: a block more takes the rest of a record, however much of it the block before took. -/
theorem withBlock_sized {p : Page} {bs : List Byte} (b : Nat) (c : Bool) (hbs : bs ≠ []) (h : p.sized) :
    (((p.withBlock b).withBytes bs).withRecord c).sized := by
  intro hw
  have hp := h hw
  have hlen := List.length_pos_iff.2 hbs
  simp only [Page.withRecord, Page.withBytes, Page.withBlock, Page.committedBytes, Page.extent, Config.blockBytes, List.length_take] at hp ⊢
  omega

theorem withBlock_full_sized {p : Page} {bs : List Byte} (b : Nat) (hbs : bs.drop Config.blockBytes ≠ []) (h : p.sized) :
    ((p.withBlock b).withBytes bs).sized := by
  intro hw
  have hp := h hw
  rw [Ne, List.drop_eq_nil_iff] at hbs
  simp only [Page.withBytes, Page.withBlock, Page.committedBytes, Page.extent, Config.blockBytes, List.length_take] at hp hbs ⊢
  omega

theorem withPart_sized {p : Page} (bs : List Byte) (h : p.sized) :
    { p.withBytes bs with part := bs.length - (bs.drop (Config.blockBytes - p.bytesUsed)).length }.sized := by
  intro hw
  have hp := h hw
  simp only [Page.withBytes, Page.committedBytes, Page.extent, Config.blockBytes, List.length_take, List.length_drop] at hp ⊢
  omega

theorem eased_onWriter {f : Job → Job} (n : Nat) (h : ∀ j, (f j).document = j.document) (s : State) : Eased s (onWriter n f s) := by
  unfold onWriter
  split
  · exact Eased.of_same rfl rfl rfl (map_modifyAt_eq (fun x => by cases x <;> simp [h]) _ s.jobs.slots)
  · exact .refl s

theorem easedOn_commitRecord (slot : Nat) (c : Bool) (s : State) : EasedBut slot s (commitRecord slot c s) :=
  EasedOn.trans (easedOn_onPage (f := Page.withRecord c) (fun h => ⟨h, rfl⟩) (fun _ h => h)) (eased_onWriter _ (by exact fun _ => rfl) _).on

theorem pageOf_commitRecord (slot : Nat) (c : Bool) (s : State) :
    pageOf (commitRecord slot c s) slot = if slot < s.store.pages.length then (pageOf s slot).withRecord c else pageOf s slot := by
  unfold commitRecord
  simp only [pageOf, onWriter_store]
  exact (pageOf_onPage_ite _ slot slot s).trans (if_congr (by simp) rfl rfl)

/-- R8, R9: a record that fits in the page's last block is committed. -/
theorem keeps_putCommit {slot : Nat} {bs : List Byte} {c : Bool} (hk : Keeps u s) (hbs : u.storeSound → bs ≠ [])
    (hfit : (putBytes slot bs s).2 = []) : Keeps u (commitRecord slot c (putBytes slot bs s).1) := by
  have e := (easedOn_putBytes slot bs s).trans (easedOn_commitRecord slot c _)
  refine keeps_of_sound hk e.dram fun hu => e.eased fun h => ?_
  rw [pageOf_commitRecord, pageOf_putBytes]
  by_cases hr : slot < s.store.pages.length
  · rw [if_pos (by simpa [putBytes, onPage, length_modifyAt, storeBytes] using hr), if_pos ⟨rfl, hr⟩]
    exact withRecord_sized c (hbs hu) hfit h
  · rw [if_neg (by simpa [putBytes, onPage, length_modifyAt, storeBytes] using hr), if_neg (by simp [hr])]
    exact h

/-- R8, R9: what is left of a record is put in a block more, and the record committed. -/
theorem keeps_allocatePutCommit {slot : Nat} {bs : List Byte} {c : Bool} (hk : Keeps u s) (ht : allocate slot s = some t)
    (live : u.storeSound → (pageOf s slot).state ≠ .empty) (hbs : u.storeSound → bs ≠ []) :
    Keeps u (commitRecord slot c (putBytes slot bs t).1) := by
  refine keeps_of_sound hk (fun hd => ?_) (fun hs => ?_)
  · exact (kept_commitRecord (kept_putBytes (kept_allocate ht (Kept.refl s)))).dram hd
  · obtain ⟨e, b, hb⟩ := allocate_page ht (live hs)
    refine (e.trans ((easedOn_putBytes slot bs t).trans (easedOn_commitRecord slot c _))).eased fun h => ?_
    have hr : slot < t.store.pages.length := pageOf_in_range (e.live slot (live hs)).1
    rw [pageOf_commitRecord, pageOf_putBytes, if_pos (by simpa [putBytes, onPage, length_modifyAt, storeBytes] using hr), if_pos ⟨rfl, hr⟩, hb]
    exact withBlock_sized b c (hbs hs) h

theorem keeps_putBytes {slot : Nat} {bs : List Byte} (hk : Keeps u s) : Keeps u (putBytes slot bs s).1 := by
  refine ((easedOn_putBytes slot bs s).eased fun h => ?_).keeps hk
  rw [pageOf_putBytes]
  split
  · exact withBytes_sized bs h
  · exact h

/-- R8, R9: the two ways in which a record is appended whole, and what else the append can leave. -/
theorem appendRecord_cases (slot : Nat) (bs : List Byte) (s : State) :
    let r := putBytes slot bs s
    (r.2 = [] ∧ appendRecord slot bs s = r) ∨
    (∃ t, r.2 ≠ [] ∧ allocate slot r.1 = some t ∧ appendRecord slot bs s = putBytes slot r.2 t) ∨
    (r.2 ≠ [] ∧ allocate slot r.1 = none ∧
      appendRecord slot bs s = (onPage slot (fun p => { p with part := bs.length - r.2.length }) r.1, r.2)) := by
  intro r
  unfold appendRecord
  by_cases h : r.2 = []
  · exact .inl ⟨h, if_pos h⟩
  · refine .inr ?_
    rw [if_neg h]
    cases ha : allocate slot r.1 with
    | none => exact .inr ⟨h, rfl, rfl⟩
    | some t => exact .inl ⟨t, h, rfl, rfl⟩

theorem live_putBytes {slot p : Nat} {bs : List Byte} (h : (pageOf s p).state ≠ .empty) :
    (pageOf (putBytes slot bs s).1 p).state ≠ .empty := ((easedOn_putBytes slot bs s).live p h).1

theorem keeps_appendCommit {slot : Nat} {bs : List Byte} {c : Bool} (hk : Keeps u s)
    (live : u.storeSound → (pageOf s slot).state ≠ .empty) (hbs : u.storeSound → bs ≠ []) (hfit : (appendRecord slot bs s).2 = []) :
    Keeps u (commitRecord slot c (appendRecord slot bs s).1) := by
  rcases appendRecord_cases slot bs s with ⟨hr, he⟩ | ⟨t, hr, ha, he⟩ | ⟨hr, -, he⟩
  · rw [he]; exact keeps_putCommit hk hbs hr
  · rw [he]; exact keeps_allocatePutCommit (keeps_putBytes hk) ha (fun hu => live_putBytes (live hu)) fun _ => hr
  · rw [he] at hfit; exact absurd hfit hr

/-- R9: the part of a record that fitted lies past the committed extent. -/
theorem keeps_putPart {slot : Nat} {bs : List Byte} (hk : Keeps u s) :
    Keeps u (onPage slot (fun p => { p with part := bs.length - (putBytes slot bs s).2.length }) (putBytes slot bs s).1) := by
  refine (((easedOn_putBytes slot bs s).trans (easedOn_onPage (fun h => ⟨h, rfl⟩) (fun _ h => h))).eased fun h => ?_).keeps hk
  rw [pageOf_onPage_ite, pageOf_putBytes, putBytes_rest]
  by_cases hr : slot < s.store.pages.length
  · rw [if_pos (by simpa [putBytes, onPage, length_modifyAt, storeBytes] using hr), if_pos ⟨rfl, hr⟩]
    exact withPart_sized bs h
  · rw [if_neg (by simpa [putBytes, onPage, length_modifyAt, storeBytes] using hr), if_neg (by simp [hr])]
    exact h

theorem keeps_appendRest {slot : Nat} {bs : List Byte} (hk : Keeps u s)
    (live : u.storeSound → (pageOf s slot).state ≠ .empty) (hrest : (appendRecord slot bs s).2 ≠ []) :
    Keeps u (appendRecord slot bs s).1 := by
  rcases appendRecord_cases slot bs s with ⟨hr, he⟩ | ⟨t, hr, ha, he⟩ | ⟨hr, -, he⟩
  · rw [he] at hrest; exact absurd hr hrest
  · rw [he] at hrest ⊢
    have first : Keeps u (putBytes slot bs s).1 := keeps_putBytes hk
    refine keeps_of_sound first (fun hd => ?_) (fun hu => ?_)
    · exact (kept_putBytes (kept_allocate ha (Kept.refl _))).dram hd
    · obtain ⟨e, b, hb⟩ := allocate_page ha (live_putBytes (live hu))
      refine (e.trans (easedOn_putBytes slot _ t)).eased fun h => ?_
      rw [putBytes_rest, hb] at hrest
      rw [pageOf_putBytes, if_pos ⟨rfl, pageOf_in_range (e.live slot (live_putBytes (live hu))).1⟩, hb]
      exact withBlock_full_sized b hrest h
  · rw [he]; exact keeps_putPart hk

end Sys2Proof.Machine
end

section
/-! A page leaves the store (R3, R11, R16, R26, R29), and a page starts (R7). -/

namespace Sys2Proof.Machine

-- One theorem at a time, as in the tests: a thread for each would exceed the memory allowed.
set_option Elab.async false

variable {s t u : State}

/-! ## Blocks freed -/

theorem blockOf_lowAfterFreeing (s : State) (b : Nat) : blockOf (lowAfterFreeing s) b = blockOf s b := by
  unfold lowAfterFreeing; split <;> rfl

theorem blockOf_freeBlock (c b : Nat) (s : State) :
    blockOf (freeBlock c s) b = if b = c ∧ c < s.store.blocks.length then (blockOf s c).freed else blockOf s b := by
  unfold freeBlock
  rw [blockOf_lowAfterFreeing, blockOf_onBlock_ite]

/-- R3: a freeing changes the block map and the low condition alone. -/
theorem freeBlock_frame (b : Nat) (s : State) :
    ∃ bl low, freeBlock b s = s.onStore (fun st => { st with blocks := bl, low := low }) := by
  unfold freeBlock lowAfterFreeing
  split
  · exact ⟨modifyAt b Block.freed s.store.blocks, false, rfl⟩
  · exact ⟨modifyAt b Block.freed s.store.blocks, s.store.low, rfl⟩

theorem freeBlocksOf_frame (bs : List Nat) (s : State) :
    ∃ bl low, freeBlocksOf bs s = s.onStore (fun st => { st with blocks := bl, low := low }) := by
  induction bs generalizing s with
  | nil => exact ⟨s.store.blocks, s.store.low, rfl⟩
  | cons b bs ih =>
    obtain ⟨bl, low, h⟩ := freeBlock_frame b s
    obtain ⟨bl', low', h'⟩ := ih (freeBlock b s)
    exact ⟨bl', low', by rw [show freeBlocksOf (b :: bs) s = freeBlocksOf bs (freeBlock b s) from rfl, h', h]; rfl⟩

/-- R3: of the blocks freed none stays in use, and no other changes. -/
theorem freeBlocksOf_inUse {b : Nat} {bs : List Nat} (h : (blockOf (freeBlocksOf bs s) b).inUse) :
    b ∉ bs ∧ blockOf (freeBlocksOf bs s) b = blockOf s b := by
  induction bs generalizing s with
  | nil => exact ⟨List.not_mem_nil, rfl⟩
  | cons c bs ih =>
    obtain ⟨hb, he⟩ := ih (s := freeBlock c s) h
    have hu : (blockOf (freeBlock c s) b).inUse := he ▸ h
    rw [blockOf_freeBlock] at hu
    split at hu
    · exact absurd hu (freed_not_inUse _)
    · next hcb =>
      have hne : b ≠ c := by
        rintro rfl
        refine hcb ⟨rfl, ?_⟩
        by_contra hge
        rw [blockOf_out_of_range (by omega)] at hu
        simp [Block.inUse, Block.blank] at hu
      refine ⟨by simp [hne, hb], ?_⟩
      show blockOf (freeBlocksOf bs (freeBlock c s)) b = _
      rw [he, blockOf_freeBlock, if_neg (by simp [hne])]

theorem mem_ownedBlocks {slot b : Nat} : b ∈ ownedBlocks s slot ↔ (blockOf s b).inUse ∧ (blockOf s b).owner = slot := by
  unfold ownedBlocks Block.inUse
  simp only [List.mem_filter, List.mem_range, Bool.and_eq_true, Bool.or_eq_true, decide_eq_true_eq, and_iff_right_iff_imp, and_imp]
  intro h _
  by_contra hge
  rw [blockOf_out_of_range (by omega)] at h
  simp [Block.blank] at h

/-! ## A page leaves -/

section
variable (hk : Keeps u s)
include hk

theorem keeps_onReader {o : Outlet} {f : Reader → Reader} (h : ∀ r p, (f r).slot = some p → r.slot = some p) :
    Keeps u (onReader o f s) := by
  cases o <;> refine keeps_onStore hk fun st => ?_
  · exact { Store.EasedTo.refl st with printPage := h st.printOut }
  · exact { Store.EasedTo.refl st with sendPage := h st.linkOut }

theorem keeps_bothReaders {f : Reader → Reader} (h : ∀ r p, (f r).slot = some p → r.slot = some p) :
    Keeps u (s.onStore (fun st => { st with printOut := f st.printOut, linkOut := f st.linkOut })) :=
  keeps_onReader (keeps_onReader hk (o := .print) h) (o := .link) h

end

theorem pageGone_slot {slot p : Nat} {r : Reader} (h : (r.pageGone slot).slot = some p) : r.slot = some p ∧ p ≠ slot := by
  unfold Reader.pageGone at h
  split at h
  · cases h
  · next hne => exact ⟨h, by rintro rfl; exact hne h⟩

theorem forgetPage_linkIn {slot p : Nat} (h : (forgetPage slot s).store.linkIn.bind LinkIn.slot = some p) :
    s.store.linkIn.bind LinkIn.slot = some p ∧ p ≠ slot := by
  simp only [forgetPage, State.onStore_store] at h
  cases hc : s.store.linkIn with
  | none => simp [hc] at h
  | some c =>
    simp only [hc, Option.map_some, Option.bind_some] at h ⊢
    split at h
    · cases h
    · next hne => exact ⟨h, by rintro rfl; exact hne h⟩

theorem forgetPage_scanIn {slot p : Nat} (h : (forgetPage slot s).store.scanIn.slot = some p) :
    s.store.scanIn.slot = some p ∧ p ≠ slot := by
  simp only [forgetPage, State.onStore_store] at h
  split at h
  · cases h
  · next hne => exact ⟨h, by rintro rfl; exact hne h⟩

theorem keeps_forgetPage {slot : Nat} (hk : Keeps u s) : Keeps u (forgetPage slot s) := by
  refine keeps_of_sound hk id fun _ => Store.EasedTo.eased ?_
  refine ⟨rfl, rfl, rfl, fun p h => (forgetPage_scanIn h).1, fun p h => (forgetPage_linkIn h).1, fun p h => (pageGone_slot h).1,
    fun p h => (pageGone_slot h).1, fun h hh => ?_, ?_⟩
  · dsimp only at hh
    split at hh
    · cases hh
    · exact hh
  · refine linkIn_bind_map (fun c x => ?_) _
    split <;> exact id

/-- A page's record made EMPTY and taken out of the list of its document. -/
def blankPage (slot : Nat) (s : State) : State :=
  onDoc (pageOf s slot).document (fun d => { d with pages := d.pages.filter (fun x => x != slot) }) (onPage slot (fun _ => .blank) s)

theorem pageOf_blankPage (slot p : Nat) (s : State) : pageOf (blankPage slot s) p = if p = slot then .blank else pageOf s p := by
  unfold blankPage
  rw [pageOf_onDoc, pageOf_onPage_ite]
  by_cases h : p = slot
  · subst h
    by_cases hr : p < s.store.pages.length
    · simp [hr]
    · simp [hr, pageOf_out_of_range (Nat.le_of_not_lt hr)]
  · simp [h]

theorem docOf_blankPage (slot m : Nat) (s : State) :
    docOf (blankPage slot s) m = if m = (pageOf s slot).document then
      { docOf s m with pages := (docOf s m).pages.filter (fun x => x != slot) } else docOf s m := by
  unfold blankPage
  rw [docOf_onDoc_ite]
  by_cases h : m = (pageOf s slot).document
  · rw [← h, if_pos rfl]
    by_cases hr : (1 ≤ m ∧ m ≤ s.store.documents.length)
    · exact if_pos ⟨rfl, hr⟩
    · rw [if_neg fun hc => hr hc.2]
      have hb : docOf s m = .blank := by
        unfold docOf
        split
        · rfl
        · exact List.getD_eq_default _ _ (by omega)
      rw [docOf_onPage, hb]; rfl
  · rw [if_neg fun hc => h hc.1, if_neg h]; rfl

theorem blankPage_rest (slot : Nat) (s : State) :
    ∃ pages documents, blankPage slot s = s.onStore (fun st => { st with pages := pages, documents := documents }) := by
  unfold blankPage onDoc
  split
  · exact ⟨_, s.store.documents, rfl⟩
  · exact ⟨_, _, rfl⟩

/-- R3, R11, R16: a page that owns no block in use and on which no channel stands leaves the store. -/
theorem keeps_blankPage {slot : Nat} (hk : Keeps u s) (hfree : ∀ b, (blockOf s b).inUse → (blockOf s b).owner ≠ slot)
    (hscan : s.store.scanIn.slot ≠ some slot) (hlink : s.store.linkIn.bind LinkIn.slot ≠ some slot)
    (hprint : s.store.printOut.slot ≠ some slot) (hsend : s.store.linkOut.slot ≠ some slot) : Keeps u (blankPage slot s) := by
  have page := fun p => pageOf_blankPage slot p s
  have doc := fun m => docOf_blankPage slot m s
  obtain ⟨pages, documents, he⟩ := blankPage_rest slot s
  rw [he] at page doc ⊢
  have live : ∀ p, p ≠ slot → (pageOf s p).state ≠ .empty → (pageOf (s.onStore fun st => { st with pages := pages, documents := documents }) p).state ≠ .empty := by
    intro p hp h; rwa [page, if_neg hp]
  have left : ∀ n p, p ∈ (docOf (s.onStore fun st => { st with pages := pages, documents := documents }) n).pages →
      p ∈ (docOf s n).pages ∧ (n = (pageOf s slot).document → p ≠ slot) := by
    intro n p hp
    rw [doc] at hp
    split at hp
    · simp only [List.mem_filter, bne_iff_ne] at hp
      exact ⟨hp.1, fun _ => hp.2⟩
    · next hn => exact ⟨hp, fun h => absurd h hn⟩
  refine hk.trans ⟨id, fun hs => ?_, fun hs hl => ?_⟩
  · refine storeSound_of (fun b hb => live _ (hfree b hb) (owner_live hs hb)) (fun n p hp => ?_) (fun p => ?_)
      (fun p hp => live p (fun h => hscan (h ▸ hp)) (hs.scanPage p hp)) (fun p hp => live p (fun h => hlink (h ▸ hp)) (hs.linkPage p hp))
      hs.records hs.scanHeld hs.linkHeld
    · obtain ⟨hmem, hne⟩ := left n p hp
      obtain ⟨hst, hdoc⟩ := hs.listed n p hmem
      have hps : p ≠ slot := fun h => hne (by rw [← h, hdoc]) h
      rw [page, if_neg hps]
      exact ⟨hst, hdoc⟩
    · rw [page]
      split
      · exact blank_sized
      · exact page_sized hs p
  · have state : ∀ n, (docOf (s.onStore fun st => { st with pages := pages, documents := documents }) n).state = (docOf s n).state ∧
        (docOf (s.onStore fun st => { st with pages := pages, documents := documents }) n).users = (docOf s n).users := by
      intro n; rw [doc]; split <;> exact ⟨rfl, rfl⟩
    constructor
    · intro p hp
      rw [page] at hp ⊢
      split at hp
      · exact absurd rfl hp
      · next hps =>
        rw [if_neg hps, doc]
        have := hl.inList p hp
        split
        · simpa [hps] using this
        · exact this
    · intro n
      rw [doc]
      split
      · exact (hl.once n).filter _
      · exact hl.once n
    · intro n hn
      rw [(state n).1] at hn
      rw [doc]
      split <;> simp [hl.emptyDoc n hn]
    · intro k j hj; rw [(state _).1]; exact hl.jobDoc k j hj
    · intro n; rw [(state n).2]; exact hl.users n
    · exact fun p hp => live p (fun h => hprint (h ▸ hp)) (hl.printPage p hp)
    · exact fun p hp => live p (fun h => hsend (h ▸ hp)) (hl.sendPage p hp)

theorem pageOf_freeBlocksOf (bs : List Nat) (s : State) (p : Nat) : pageOf (freeBlocksOf bs s) p = pageOf s p :=
  (pagesKept_freeBlocksOf bs s).pageOf_eq p

theorem erasePage_eq (slot : Nat) (s : State) :
    erasePage slot s = blankPage slot (freeBlocksOf (ownedBlocks s slot) (forgetPage slot s)) := by
  unfold blankPage
  rw [pageOf_freeBlocksOf]
  rfl

theorem docOf_freeBlocksOf (bs : List Nat) (s : State) (n : Nat) : docOf (freeBlocksOf bs s) n = docOf s n := by
  obtain ⟨_, _, h⟩ := freeBlocksOf_frame bs s
  rw [h]; rfl

/-- R26, R29: the page's record is EMPTY, and no other page changes. -/
theorem pageOf_erasePage (slot p : Nat) (s : State) : pageOf (erasePage slot s) p = if p = slot then .blank else pageOf s p := by
  rw [erasePage_eq, pageOf_blankPage, pageOf_freeBlocksOf]; rfl

/-- R26, R29: the page leaves the list of its document, and no other document changes. -/
theorem docOf_erasePage (slot m : Nat) (s : State) :
    docOf (erasePage slot s) m = if m = (pageOf s slot).document then
      { docOf s m with pages := (docOf s m).pages.filter (fun x => x != slot) } else docOf s m := by
  rw [erasePage_eq, docOf_blankPage, pageOf_freeBlocksOf, docOf_freeBlocksOf]; rfl

section
variable (hk : Keeps u s)
include hk

/-- R3, R11, R16, R26, R29. -/
theorem keeps_erasePage {slot : Nat} : Keeps u (erasePage slot s) := by
  rw [erasePage_eq]
  refine keeps_blankPage (keeps_freeBlocksOf (keeps_forgetPage hk)) (fun b hb => ?_) ?_ ?_ ?_ ?_
  · obtain ⟨hnot, he⟩ := freeBlocksOf_inUse hb
    rw [he] at hb ⊢
    exact fun ho => hnot (mem_ownedBlocks.2 ⟨hb, ho⟩)
  all_goals
    obtain ⟨bl, low, he⟩ := freeBlocksOf_frame (ownedBlocks s slot) (forgetPage slot s)
    rw [he]
    intro h
  · exact (forgetPage_scanIn h).2 rfl
  · exact (forgetPage_linkIn h).2 rfl
  · exact (pageGone_slot h).2 rfl
  · exact (pageGone_slot h).2 rfl

theorem keeps_discardPage {slot : Nat} : Keeps u (discardPage slot s) := by
  unfold discardPage
  refine keeps_mapJobs (keeps_onJobs (keeps_bothReaders (keeps_erasePage hk) fun r p h => ?_)) fun j => ?_
  · unfold Reader.pageLeft at h; split at h <;> exact h
  · unfold Job.pageLeft; split <;> rfl

theorem keeps_removePage {slot : Nat} : Keeps u (removePage slot s) := by
  refine keeps_mapJobs (keeps_discardPage hk) fun j => ?_
  unfold Job.rangeCut; split <;> rfl

/-! ## The writers' channels -/

theorem keeps_dropWaiter {w : Waiter} : Keeps u (dropWaiter w s) := keeps_onStore hk

theorem keeps_addWaiter {w : Waiter} : Keeps u (addWaiter w s) := keeps_onStore hk

theorem keeps_dropScanHeld : Keeps u (dropScanHeld s) := by
  refine keeps_dropWaiter (keeps_onStore hk fun st => ?_)
  exact { Store.EasedTo.refl st with scanHeld := fun _ h => by cases h }

theorem keeps_dropLinkHeld : Keeps u (dropLinkHeld s) :=
  keeps_dropWaiter (keeps_mapLinkIn hk (hh := by exact fun _ _ h => nomatch h))

theorem keeps_freeTaken : Keeps u (freeTaken s) := by
  refine keeps_onScan hk fun x n r b hb => ⟨b, ?_⟩
  obtain ⟨v, hv, he⟩ := List.mem_map.1 hb
  split at he
  · cases he
  · rwa [← he]

theorem keeps_writerLosesPage {slot : Nat} : Keeps u (writerLosesPage slot s) := by
  have first : Keeps u (if s.store.scanIn.slot = some slot then freeTaken (dropScanHeld s) else s) := by
    split
    · exact keeps_freeTaken (keeps_dropScanHeld hk)
    · exact hk
  unfold writerLosesPage
  revert first
  generalize (if s.store.scanIn.slot = some slot then freeTaken (dropScanHeld s) else s) = v
  intro first
  dsimp only
  split
  · exact keeps_mapLinkIn (keeps_dropLinkHeld first)
  · exact first

theorem keeps_dropPageLine {slot : Nat} : Keeps u (dropPageLine slot s) := keeps_onPage hk
theorem keeps_dropJobLine {k : Nat} : Keeps u (dropJobLine k s) := keeps_onJob hk
theorem keeps_dropAtLimit {slot : Nat} : Keeps u (dropAtLimit slot s) := by
  unfold dropAtLimit
  exact keeps_onWriter (keeps_dropPageLine hk)

/-- R10: a page that ends its filling holds what it held. -/
theorem keeps_endFilling {slot : Nat} {g : Page → PageState} (hg : ∀ p, g p ≠ .empty ∧ g p ≠ .damaged) :
    Keeps u (onPage slot (fun p => { p with state := if p.state = .filling then g p else p.state }) s) := by
  have hf : ∀ p : Page, (if p.state = .filling then g p else p.state) ≠ .empty ↔ p.state ≠ .empty := by
    intro p
    split
    · next h => simp [h, (hg p).1]
    · rfl
  refine keeps_setPage hk (fun h => ⟨(hf _).2 h, rfl⟩) (fun h hw => h ?_) (fun _ => (hf _).1)
  refine ⟨?_, hw.2⟩
  by_cases h : (pageOf s slot).state = .filling
  · exact .inl h
  · simpa [h] using hw.1

theorem keeps_endPageNormally {slot : Nat} : Keeps u (endPageNormally slot s) :=
  keeps_endFilling hk fun p => by split <;> simp

theorem keeps_keepShort {slot : Nat} : Keeps u (keepShort slot s) := keeps_endFilling hk fun p => by simp

theorem keeps_raiseFull {r : FullReason} : Keeps u (raiseFull r s) := by
  unfold raiseFull
  split
  · exact hk
  · exact keeps_raise hk

end

end Sys2Proof.Machine
end

section
/-! A page start takes the lowest EMPTY slot and the lowest FREE block (R7). -/

namespace Sys2Proof.Machine

-- One theorem at a time, as in the tests: a thread for each would exceed the memory allowed.
set_option Elab.async false

variable {s t u : State}

/-! ## The searches -/

theorem findIdx?_getD {α : Type} {p : α → Bool} {l : List α} {i : Nat} (d : α) :
    l.findIdx? p = some i ↔ i < l.length ∧ p (l.getD i d) = true ∧ ∀ j, j < i → p (l.getD j d) = false := by
  rw [List.findIdx?_eq_some_iff_getElem]
  constructor
  · rintro ⟨hi, hp, hlt⟩
    refine ⟨hi, by simpa [hi] using hp, fun j hj => ?_⟩
    simpa [hi.trans' hj] using hlt j hj
  · rintro ⟨hi, hp, hlt⟩
    refine ⟨hi, by simpa [hi] using hp, fun j hj => ?_⟩
    have := hlt j hj
    simpa [hi.trans' hj] using this

theorem lowestEmptyPage_eq {slot : Nat} : lowestEmptyPage s = some slot ↔
    slot < s.store.pages.length ∧ (pageOf s slot).state = .empty ∧ ∀ p, p < slot → (pageOf s p).state ≠ .empty := by
  unfold lowestEmptyPage
  rw [findIdx?_getD .blank]
  simp [pageOf]

theorem lowestFree_eq {b : Nat} : lowestFree s = some b ↔
    b < s.store.blocks.length ∧ (blockOf s b).state = .free ∧ ∀ c, c < b → (blockOf s c).state ≠ .free := by
  unfold lowestFree
  rw [findIdx?_getD .blank]
  simp [blockOf]

/-! ## The start -/

/-- R7: the slot taken and at the end of the document's list, before its first block. -/
def openPage (n : Nat) (r : Resolution) (w : PageWidth) (far : Bool) (slot : Nat) (s : State) : State :=
  onDoc n (fun d => { d with pages := d.pages ++ [slot] }) (onPage slot (fun _ => Page.started n r w far) s)

theorem openPage_rest (n : Nat) (r : Resolution) (w : PageWidth) (far : Bool) (slot : Nat) (s : State) :
    ∃ pages documents, openPage n r w far slot s = s.onStore (fun st => { st with pages := pages, documents := documents }) := by
  unfold openPage onDoc
  split
  · exact ⟨_, s.store.documents, rfl⟩
  · exact ⟨_, _, rfl⟩

theorem pageOf_openPage {n : Nat} {r : Resolution} {w : PageWidth} {far : Bool} {slot : Nat} (p : Nat) (h : slot < s.store.pages.length) :
    pageOf (openPage n r w far slot s) p = if p = slot then Page.started n r w far else pageOf s p := by
  unfold openPage
  rw [pageOf_onDoc, pageOf_onPage_ite]
  exact if_congr (by simp [h]) rfl rfl

theorem docOf_openPage (n : Nat) (r : Resolution) (w : PageWidth) (far : Bool) (slot m : Nat) (s : State) :
    docOf (openPage n r w far slot s) m = if m = n ∧ 1 ≤ n ∧ n ≤ s.store.documents.length then
      { docOf s n with pages := (docOf s n).pages ++ [slot] } else docOf s m := docOf_onDoc_ite _ n m _

/-- R7: a start accepted passes the checks, and takes the lowest EMPTY slot with a block. -/
theorem startPage_ok {n : Nat} {r : Resolution} {w : PageWidth} {far : Bool} {v : Nat × State} (h : startPage n r w far s = .ok v) :
    lowestEmptyPage s = some v.1 ∧ allocate v.1 (openPage n r w far v.1 s) = some v.2 := by
  unfold startPage at h
  split at h
  · cases h
  split at h
  · cases h
  next slot hslot =>
    split at h
    · cases h
    next hfree =>
      have hblocks : lowestFree (openPage n r w far slot s) = lowestFree s := by
        obtain ⟨_, _, he⟩ := openPage_rest n r w far slot s
        rw [he]; rfl
      obtain ⟨b, hb⟩ := Option.ne_none_iff_exists'.1 (by simpa using hfree : lowestFree s ≠ none)
      have ha : allocate slot (openPage n r w far slot s) = some (lowAfterTaking (linkBlock slot b (openPage n r w far slot s))) := by
        unfold allocate; rw [hblocks, hb]; rfl
      have hv : v = (slot, (allocate slot (openPage n r w far slot s)).getD (openPage n r w far slot s)) := (Except.ok.inj h).symm
      subst hv
      exact ⟨hslot, by rw [ha]; rfl⟩

theorem started_sized (n b : Nat) (r : Resolution) (w : PageWidth) (far : Bool) : ((Page.started n r w far).withBlock b).sized := by
  intro _
  simp [Page.withBlock, Page.started, Page.blank, Page.committedBytes, Page.extent]

/-- R7: a page start keeps the records, and over a document that is not EMPTY the lists; the page it takes is not EMPTY. -/
theorem startPage_keeps {n : Nat} {r : Resolution} {w : PageWidth} {far : Bool} {v : Nat × State} (h : startPage n r w far s = .ok v)
    (hdoc : s.listsSound → (docOf s n).state ≠ .empty) : Keeps s v.2 ∧ (pageOf v.2 v.1).state ≠ .empty := by
  have hv := h
  obtain ⟨hslot, ha⟩ := startPage_ok h
  obtain ⟨slot, t⟩ := v
  obtain ⟨hr, hempty, -⟩ := lowestEmptyPage_eq.1 hslot
  dsimp only at hslot ha ⊢
  have page := fun p => pageOf_openPage (n := n) (r := r) (w := w) (far := far) p hr
  have doc := fun m => docOf_openPage n r w far slot m s
  have hlive : (pageOf (openPage n r w far slot s) slot).state ≠ .empty := by rw [page, if_pos rfl]; simp [Page.started]
  obtain ⟨e, b, hb⟩ := allocate_page ha hlive
  obtain ⟨pages, documents, hrest⟩ := openPage_rest n r w far slot s
  have live : ∀ p, (pageOf s p).state ≠ .empty → (pageOf t p).state ≠ .empty ∧ (pageOf t p).document = (pageOf s p).document := by
    intro p hp
    have hps : p ≠ slot := fun h => hp (h ▸ hempty)
    have := e.live p (by rw [page, if_neg hps]; exact hp)
    rwa [page, if_neg hps] at this
  have own : pageOf t slot = (Page.started n r w far).withBlock b := by rw [hb, page, if_pos rfl]
  have inDoc : ∀ m p, p ∈ (docOf t m).pages → p ∈ (docOf s m).pages ∨ (p = slot ∧ m = n) := by
    intro m p hp
    rw [e.pages, doc] at hp
    split at hp
    · next hm =>
      obtain ⟨rfl, -⟩ := hm
      simpa using hp
    · exact .inl hp
  refine ⟨⟨fun hd => (kept_startPage hv (Kept.refl s)).dram hd, fun hs => ?_, fun hs hl => ?_⟩, (e.live slot hlive).1⟩
  · refine storeSound_of (fun c hc => ?_) (fun m p hp => ?_) (fun p => ?_) (fun p hp => ?_) (fun p hp => ?_)
      (fun m q c hc => ?_) (fun x hx => ?_) (fun x hx => ?_)
    · rcases e.blocks c hc with ⟨hu, ho⟩ | h
      · rw [ho]
        rw [hrest] at hu ⊢
        exact (live _ (owner_live hs hu)).1
      · exact h
    · rcases inDoc m p hp with hmem | ⟨rfl, rfl⟩
      · obtain ⟨hst, hd⟩ := hs.listed m p hmem
        exact ⟨(live p hst).1, (live p hst).2.trans hd⟩
      · rw [own]; exact ⟨by simp [Page.withBlock, Page.started], rfl⟩
    · by_cases hps : p = slot
      · rw [hps, own]; exact started_sized n b r w far
      · refine e.sized p hps ?_
        rw [page, if_neg hps]; exact page_sized hs p
    · refine (e.scanPage p hp).elim (fun h => (live p (hs.scanPage p ?_)).1) id
      rw [hrest] at h; exact h
    · refine (e.linkPage p hp).elim (fun h => (live p (hs.linkPage p ?_)).1) id
      rw [hrest] at h; exact h
    · refine (e.records m q c hc).elim (fun ⟨c', h⟩ => hs.records m q c' ?_) id
      rw [hrest] at h; exact h
    · refine (e.scanHeld x hx).elim (fun h => hs.scanHeld x ?_) id
      rw [hrest] at h; exact h
    · refine (e.linkHeld x hx).elim (fun h => hs.linkHeld x ?_) id
      rw [hrest] at h; exact h
  · have hn := docOf_in_range (hdoc hl)
    have pagesOf : ∀ m, (docOf t m).pages = if m = n then (docOf s m).pages ++ [slot] else (docOf s m).pages := by
      intro m
      rw [e.pages, doc]
      by_cases hm : m = n
      · subst hm; simp [hn]
      · simp [hm]
    have state : ∀ m, (docOf t m).state = .empty → (docOf s m).state = .empty ∧ m ≠ n := by
      intro m hm
      have := e.docs m hm
      rw [doc] at this
      by_cases hmn : m = n
      · subst hmn; rw [if_pos ⟨rfl, hn⟩] at this; exact absurd this (hdoc hl)
      · rw [if_neg (by simp [hmn])] at this; exact ⟨this, hmn⟩
    constructor
    · intro p hp
      by_cases hps : p = slot
      · rw [hps, own]
        show slot ∈ (docOf t n).pages
        rw [pagesOf, if_pos rfl]; simp
      · have hp' : (pageOf s p).state ≠ .empty := by
          by_contra hpe
          have hrp := pageOf_in_range hp
          have hq : (pageOf (openPage n r w far slot s) p).state = .empty := by rw [page, if_neg hps]; exact hpe
          obtain ⟨c, -, rfl⟩ := Option.map_eq_some_iff.1 ha
          refine hp ?_
          rw [pageOf_lowAfterTaking, linkBlock_eq, pageOf_onPage_ne hps, pageOf_chainBlock]
          exact hq
        rw [(live p hp').2, pagesOf]
        have := hl.inList p hp'
        split
        · exact List.mem_append_left _ this
        · exact this
    · intro m
      rw [pagesOf]
      split
      · refine List.nodup_append.2 ⟨hl.once m, by simp, fun a ha b hb hab => ?_⟩
        rw [List.mem_singleton] at hb
        rw [hab, hb] at ha
        exact (hs.listed m slot ha).1 hempty
      · exact hl.once m
    · intro m hm
      obtain ⟨hme, hmn⟩ := state m hm
      rw [pagesOf, if_neg hmn]; exact hl.emptyDoc m hme
    · intro k j hj hm
      rcases e.jobs _ (mem_jobDocs.2 ⟨k, j, hj, rfl⟩) with hmem | h
      · rw [hrest] at hmem
        exact jobDoc_live hl hmem (state _ hm).1
      · exact h hm
    · intro m
      rw [users_eq_count]
      refine e.users m trivial ?_
      have hu := users_eq_count s m ▸ hl.users m
      rw [doc, hrest]
      split
      · next hm => rw [hm.1] at hu ⊢; exact hu
      · exact hu
    · intro p hp
      refine (e.printPage p hp).elim (fun h => (live p (hl.printPage p ?_)).1) id
      rw [hrest] at h; exact h
    · intro p hp
      refine (e.sendPage p hp).elim (fun h => (live p (hl.sendPage p ?_)).1) id
      rw [hrest] at h; exact h

end Sys2Proof.Machine
end

section
/-! The readers keep the records and the lists (R12 to R16, R19 to R21). -/

namespace Sys2Proof.Machine

-- One theorem at a time, as in the tests: a thread for each would exceed the memory allowed.
set_option Elab.async false

variable {s t u : State}

section
variable (hk : Keeps u s)
include hk

theorem keeps_onReaderJob {o : Outlet} {f : Job → Job} (h : ∀ j, (f j).document = j.document := by exact fun _ => rfl) :
    Keeps u (onReaderJob o f s) := by
  unfold onReaderJob
  split
  · exact keeps_onJob hk h
  · exact hk

theorem keeps_whitenHistory : Keeps u (whitenHistory s) := keeps_onEnergy hk

theorem keeps_whitenFor {o : Outlet} : Keeps u (whitenFor o s) := by
  cases o
  exacts [keeps_whitenHistory hk, hk]

/-- A reader's update that leaves it on the page on which it stands. -/
theorem keeps_moveReader {o : Outlet} {f : Reader → Reader} (h : ∀ r, (f r).slot = r.slot := by exact fun _ => rfl) :
    Keeps u (onReader o f s) := keeps_onReader hk fun r _ hp => (h r).symm.trans hp

/-! ## Faults (R20, R21) -/

theorem keeps_trimPage {slot lines : Nat} {place : Option Cursor} (h : s.readersLive → (pageOf s slot).state ≠ .empty) :
    Keeps u (trimPage slot lines place s) := by
  have cut : Keeps u (onPage slot (Page.cutAt lines place (keptBlocks slot place s)) s) := by
    refine keeps_setPage hk (fun _ => ⟨by simp [Page.cutAt], rfl⟩) (fun _ hw => ?_) (fun hl _ => h hl)
    simp [Page.holdsWhole, Page.cutAt] at hw
  unfold trimPage
  refine keeps_freeBlocksOf ?_
  cases place with
  | none => exact cut
  | some c => exact keeps_onBlock cut fun _ hu => ⟨hu, rfl⟩

theorem keeps_damagePage {slot lines : Nat} {place : Option Cursor} (h : s.readersLive → (pageOf s slot).state ≠ .empty) :
    Keeps u (damagePage slot lines place s) := by
  have short : ∀ (r : Reader) p, (r.cutShort slot lines).slot = some p → r.slot = some p := by
    intro r p hp; unfold Reader.cutShort at hp; split at hp <;> exact hp
  unfold damagePage
  dsimp only
  split
  · exact keeps_bothReaders (keeps_writerLosesPage (keeps_trimPage hk h)) short
  · exact keeps_bothReaders (keeps_trimPage hk h) short

theorem keeps_chainFault {o : Outlet} {slot : Nat} (h : (readerOf s o).slot = some slot) : Keeps u (chainFault o slot s) := by
  unfold chainFault
  exact keeps_moveReader (keeps_raise (keeps_damagePage hk fun hl => hl o slot h))

theorem keeps_suspectBlocks {bs : List Nat} : Keeps u (suspectBlocks bs s) :=
  keeps_foldl hk fun _ _ h => keeps_onBlock h fun x hx => by
    by_cases hu : x.state = .used
    · rw [if_pos hu]; exact ⟨.inl hu, rfl⟩
    · rw [if_neg hu] at hx ⊢; exact ⟨hx, rfl⟩

theorem keeps_handOn {o : Outlet} {image : Line} {record : List Byte} {after : Cursor} : Keeps u (handOn o image record after s) :=
  keeps_moveReader hk

theorem keeps_conceal {o : Outlet} {slot : Nat} {w : PageWidth} {bs failing : List ChainByte} (h : (readerOf s o).slot = some slot) :
    Keeps u (conceal o slot w bs failing s) := by
  let s₁ := suspectBlocks ((failing.map (fun b => b.place.block)).dedup) s
  let s₂ := onReaderJob o (fun j => { j with concealed := satAdd 65535 j.concealed 1 })
    (onPage slot (fun p => { p with concealed := satAdd 65535 p.concealed 1 }) s₁)
  have counted : Keeps u s₂ := keeps_onReaderJob (keeps_onPage (keeps_suspectBlocks hk))
  have stands : (readerOf s₂ o).slot = some slot := by
    have kept : PagesKept (onPage slot (fun p => { p with concealed := satAdd 65535 p.concealed 1 }) s₁) s₂ :=
      .of_store (onReaderJob_store _ _ _)
    have moved : readerOf s₁ o = readerOf s o := (pagesKept_suspectBlocks _ s).readerOf_eq o
    rw [kept.readerOf_eq, ← h, ← moved]; cases o <;> rfl
  unfold conceal
  dsimp only
  split
  · exact keeps_moveReader (keeps_handOn (keeps_raise (keeps_damagePage counted fun hl => hl o slot stands)))
  · exact keeps_handOn (keeps_raise counted)

/-! ## Reading and consuming (R13, R14) -/

theorem keeps_countRecovered {bs : List ChainByte} : Keeps u (countRecovered bs s) := by
  unfold countRecovered
  split
  · exact keeps_onStore hk
  · exact hk

theorem keeps_arriveAt {o : Outlet} {c : Cursor} : Keeps u (arriveAt o c s) := keeps_moveReader hk

theorem keeps_readHere {o : Outlet} {slot : Nat} (h : (readerOf s o).slot = some slot) : Keeps u (readHere o slot s) := by
  have stands : ∀ bs, (readerOf (countRecovered bs s) o).slot = some slot := by
    intro bs
    rw [← h]; cases o <;> simp [readerOf, countRecovered_store]
  unfold readHere
  dsimp only
  split
  · exact keeps_conceal hk h
  split
  · exact keeps_chainFault (keeps_countRecovered hk) (stands _)
  · exact keeps_handOn (keeps_countRecovered hk)

theorem keeps_readLineOf {o : Outlet} : Keeps u (readLineOf o s) := by
  have arrives : ∀ (slot : Nat) (c : Cursor), (readerOf s o).slot = some slot → (readerOf (arriveAt o c s) o).slot = some slot := by
    intro slot c h; rw [← h]; unfold arriveAt; rw [readerOf_onReader]
  unfold readLineOf
  dsimp only
  split
  · exact hk
  next slot h =>
    split
    · split
      · exact keeps_chainFault hk h
      · exact keeps_readHere (keeps_arriveAt hk) (arrives slot _ h)
    split
    · exact keeps_chainFault hk h
    · exact keeps_readHere (keeps_arriveAt hk) (arrives slot _ h)

theorem keeps_consumeLine {o : Outlet} : Keeps u (consumeLine o s) := by
  unfold consumeLine
  split
  · exact hk
  · exact keeps_onReaderJob (keeps_moveReader hk)

omit hk in
theorem keeps_consumeLines {o : Outlet} {n : Nat} (hk : Keeps u s) : Keeps u (consumeLines o n s) := by
  induction n generalizing s with
  | zero => exact hk
  | succ n ih => exact ih (keeps_consumeLine hk)

/-! ## Pages begun and left (R12, R16) -/

/-- R12: a reader comes to stand on a page. -/
theorem keeps_standOn {o : Outlet} {slot : Nat} {f : Reader → Reader} (hf : ∀ r, (f r).slot = some slot)
    (live : u.storeSound → (pageOf s slot).state ≠ .empty) : Keeps u (onReader o f s) := by
  refine keeps_of_sound hk (fun hd => by cases o <;> exact hd) fun hu => ?_
  have stands : ∀ r p, (f r).slot = some p → (pageOf s p).state ≠ .empty := by
    intro r p h
    rw [hf, Option.some.injEq] at h
    exact h ▸ live hu
  cases o
  · exact { Eased.refl s with printPage := fun p h => .inr (stands s.store.printOut p h) }
  · exact { Eased.refl s with sendPage := fun p h => .inr (stands s.store.linkOut p h) }

theorem keeps_beginPage {o : Outlet} {n index slot : Nat} {far : Bool} (live : u.storeSound → (pageOf s slot).state ≠ .empty) :
    Keeps u (beginPage o n index slot far s) := by
  unfold beginPage
  dsimp only
  have begun : Keeps u (whitenFor o (onPage slot (fun p => { p with readers := p.readers + 1, freeAsRead := p.freeAsRead || far })
      (onReader o (fun r => { r.atStart (pageOf s slot).firstBlock (pageOf s slot).width with
        document := n, pageIndex := index, slot := some slot }) s))) :=
    keeps_whitenFor (keeps_onPage (keeps_standOn hk (fun _ => rfl) live))
  split
  · refine keeps_chainFault begun ?_
    cases o <;> rfl
  · exact keeps_moveReader begun

theorem keeps_lastReaderLeft {slot : Nat} : Keeps u (lastReaderLeft slot s) := by
  unfold lastReaderLeft
  dsimp only
  split
  · refine keeps_removePage ?_
    split
    · exact keeps_writerLosesPage hk
    · exact hk
  · exact keeps_onPage hk

theorem keeps_leavePage {o : Outlet} : Keeps u (leavePage o s) := by
  have left : ∀ {o}, Keeps u (onReader o (fun r => { Reader.idle with document := r.document, pageIndex := r.pageIndex }) s) :=
    keeps_onReader hk fun _ _ h => by cases h
  unfold leavePage
  split
  · exact left
  · dsimp only
    have counted : ∀ slot line, Keeps u (onPage slot (fun p => { p.markConsumed line with readers := p.readers - 1 })
        (onReader o (fun r => { Reader.idle with document := r.document, pageIndex := r.pageIndex }) s)) := by
      intro slot line
      refine keeps_onPage left fun p => ?_
      unfold Page.markConsumed
      split <;> exact ⟨rfl, rfl⟩
    split
    · exact keeps_lastReaderLeft (counted _ _)
    · exact counted _ _

theorem keeps_toConsumed {o : Outlet} : Keeps u (toConsumed o s) := keeps_whitenFor (keeps_moveReader hk)

theorem keeps_toStart {o : Outlet} : Keeps u (toStart o s) := by
  unfold toStart
  split
  · exact keeps_toConsumed hk
  · exact keeps_whitenFor (keeps_moveReader hk)

/-! ## Blocks freed behind the readers (R15) -/

theorem keeps_freeFront {slot next : Nat} : Keeps u (freeFront slot next s) := by
  unfold freeFront
  refine keeps_freeBlock (keeps_bothReaders (keeps_setPage hk (fun h => ⟨h, rfl⟩) (fun _ hw => ?_) (fun _ h => h)) fun r p h => ?_)
  · simp [Page.holdsWhole] at hw
  · unfold Reader.movedOff at h; split at h <;> exact h

theorem keeps_farRule {o : Outlet} (ht : farRule o s = some t) : Keeps u t := by
  unfold farRule at ht
  split at ht
  · cases ht
  · obtain ⟨_, -, rfl⟩ := Option.map_eq_some_iff.1 ht
    exact keeps_freeFront hk

end

end Sys2Proof.Machine
end

section
/-! The Work Order Controller keeps the records and the lists (R53 to R64); the end of a job gives up its use of the document (R62). -/

namespace Sys2Proof.Machine

-- One theorem at a time, as in the tests: a thread for each would exceed the memory allowed.
set_option Elab.async false

variable {s t u : State}

/-! ## The page of a job -/

section
variable (hk : Keeps u s)
include hk

theorem keeps_freeSlots : Keeps u (freeSlots s) := by
  refine keeps_onScan hk fun x n r b hb => ?_
  have := List.eq_of_mem_replicate hb
  cases this

/-- A writer lets go of its page and of what it holds. -/
theorem keeps_scanInGone : Keeps u (s.onStore (fun st => { st with scanIn := ⟨none, none⟩ })) := by
  refine keeps_onStore hk fun st => ?_
  exact { Store.EasedTo.refl st with scanPage := fun _ h => (nomatch h), scanHeld := fun _ h => (nomatch h) }

theorem keeps_discardScanPage : Keeps u (discardScanPage s) := by
  unfold discardScanPage
  split
  · exact keeps_freeSlots hk
  · dsimp only
    split
    · exact keeps_discardPage (keeps_scanInGone (keeps_dropScanHeld (keeps_freeSlots hk)))
    · exact keeps_scanInGone (keeps_dropScanHeld (keeps_freeSlots hk))

theorem keeps_keepScanPage : Keeps u (keepScanPage s) := by
  unfold keepScanPage
  split
  · exact keeps_freeSlots hk
  · exact keeps_keepShort (keeps_scanInGone (keeps_dropScanHeld (keeps_freeSlots hk)))

theorem keeps_endLinkPage {keep : Bool} : Keeps u (endLinkPage keep s) := by
  unfold endLinkPage
  split
  · exact keeps_dropLinkHeld hk
  · dsimp only
    split
    · exact keeps_keepShort (keeps_dropLinkHeld hk)
    split
    · exact keeps_discardPage (keeps_dropLinkHeld hk)
    · exact keeps_dropLinkHeld hk

/-! ## Stops, lists, grants -/

theorem keeps_raiseJob {k : Nat} {final : Option FinalStatus} : Keeps u (raiseJob k final s) := by
  unfold raiseJob
  split
  · exact keeps_raise hk
  · exact hk

theorem keeps_codeEffect {b : Boundary} : Keeps u (codeEffect b s) := by
  unfold codeEffect
  split
  · exact keeps_dropWaiter (keeps_discardScanPage hk)
  iterate 2
    · split
      · exact keeps_raiseFull hk
      · exact keeps_raiseFull hk
      · exact hk
  · exact hk

theorem keeps_enterBoundary {k : Nat} {b : Boundary} : Keeps u (enterBoundary k b s) :=
  keeps_raiseJob (keeps_onJob (keeps_codeEffect hk))

theorem keeps_enterStopped {k : Nat} {stop : Stop} : Keeps u (enterStopped k stop s) := by
  cases stop
  · exact keeps_onJob hk
  · exact keeps_enterBoundary hk

theorem keeps_stopJob {k : Nat} {stop : Stop} : Keeps u (stopJob k stop s) := by
  unfold stopJob
  split
  · exact keeps_enterStopped hk
  · exact keeps_onJob hk

theorem keeps_joinLists {k : Nat} {kind : JobKind} {yields : Bool} : Keeps u (joinLists k kind yields s) :=
  keeps_foldl hk fun _ _ h => keeps_onWaits h

theorem keeps_leaveLists {k : Nat} : Keeps u (leaveLists k s) := keeps_foldl hk fun _ _ h => keeps_onWaits h

theorem keeps_beginWork {e : Engine} : Keeps u (beginWork e s) := by
  unfold beginWork
  cases e
  · exact keeps_onScanRest hk
  · exact keeps_onJobs hk
  · refine keeps_onStore hk fun st => ?_
    exact { Store.EasedTo.refl st with linkPage := fun _ h => (nomatch h), linkHeld := fun _ h => (nomatch h) }
  · exact keeps_onJobs hk

theorem keeps_headOn : Keeps u (headOn s) := by
  unfold headOn
  split
  · exact hk
  · exact keeps_onPower hk

theorem keeps_enterActive : Keeps u (enterActive s) := by
  unfold enterActive
  split
  · exact keeps_headOn (keeps_onEnergy (keeps_onPower hk))
  · exact hk

theorem keeps_grantJob {k : Nat} {kind : JobKind} : Keeps u (grantJob k kind s) := by
  have granted : Keeps u (onJob k (fun j => { j with state := .running })
      (kind.engines.foldl (fun s e => beginWork e (takeEngine e (.job k) s)) (leaveLists k s))) :=
    keeps_onJob (keeps_foldl (keeps_leaveLists hk) fun _ _ h => keeps_beginWork (keeps_takeEngine h))
  unfold grantJob
  dsimp only
  split
  · exact keeps_enterActive granted
  · exact granted

theorem keeps_yieldJob {k : Nat} {j : Job} : Keeps u (yieldJob k j s) := by
  have yielded : Keeps u (joinLists k j.kind true (j.kind.engines.foldl (fun s e => setHolder e .free s)
      (onJob k (fun j => { j with state := .waiting, starvedWrite := false, starvedRead := false, sheetWait := false }) s))) :=
    keeps_joinLists (keeps_foldl (keeps_onJob hk) fun _ _ h => keeps_setHolder h)
  unfold yieldJob
  dsimp only
  split
  exacts [keeps_onScanRest yielded, keeps_onJobs yielded, keeps_onJobs yielded, yielded]

/-! ## The end of a job (R62) -/

theorem keeps_endWriting {kind : JobKind} {keep : Bool} : Keeps u (endWriting kind keep s) := by
  unfold endWriting
  split
  · split
    · exact keeps_keepScanPage hk
    · exact keeps_discardScanPage hk
  split
  · exact keeps_endLinkPage hk
  · exact hk

theorem keeps_endReading {kind : JobKind} : Keeps u (endReading kind s) := by
  unfold endReading
  split
  · exact keeps_leavePage hk
  split
  · exact keeps_leavePage hk
  · exact hk

theorem keeps_giveUpWriting {n id : Nat} : Keeps u (giveUpWriting n id s) := by
  unfold giveUpWriting
  split
  · exact keeps_onDoc hk fun _ h => by cases h
  · exact hk

end

/-! ### The jobs' documents stay while a job ends -/

theorem erasePage_jobs (slot : Nat) (s : State) : (erasePage slot s).jobs = s.jobs := by
  rw [erasePage_eq]
  obtain ⟨_, _, h⟩ := blankPage_rest slot (freeBlocksOf (ownedBlocks s slot) (forgetPage slot s))
  obtain ⟨_, _, h'⟩ := freeBlocksOf_frame (ownedBlocks s slot) (forgetPage slot s)
  rw [h, h']; rfl

theorem jobDocs_mapJobs {f : Job → Job} (h : ∀ j, (f j).document = j.document) (s : State) :
    jobDocs (s.onJobs (fun w => { w with slots := w.slots.map (Option.map f) })) = jobDocs s := by
  show (s.jobs.slots.map (Option.map f)).map (Option.map Job.document) = s.jobs.slots.map (Option.map Job.document)
  rw [List.map_map]
  refine List.map_congr_left fun j _ => ?_
  cases j <;> simp [h]

theorem jobDocs_discardPage (slot : Nat) (s : State) : jobDocs (discardPage slot s) = jobDocs s := by
  unfold discardPage
  refine (jobDocs_mapJobs (fun j => by unfold Job.pageLeft; split <;> rfl) _).trans ?_
  show (erasePage slot s).jobs.slots.map _ = _
  rw [erasePage_jobs]; rfl

theorem jobDocs_removePage (slot : Nat) (s : State) : jobDocs (removePage slot s) = jobDocs s :=
  (jobDocs_mapJobs (fun j => by unfold Job.rangeCut; split <;> rfl) _).trans (jobDocs_discardPage slot s)

theorem jobDocs_writerLosesPage (slot : Nat) (s : State) : jobDocs (writerLosesPage slot s) = jobDocs s := by
  unfold writerLosesPage
  dsimp only
  split <;> split <;> rfl

theorem jobDocs_leavePage (o : Outlet) (s : State) : jobDocs (leavePage o s) = jobDocs s := by
  unfold leavePage
  split
  · rfl
  · dsimp only
    split
    · unfold lastReaderLeft
      dsimp only
      split
      · rw [jobDocs_removePage]
        split
        · rw [jobDocs_writerLosesPage]; rfl
        · rfl
      · rfl
    · rfl

theorem jobDocs_endWriting (kind : JobKind) (keep : Bool) (s : State) : jobDocs (endWriting kind keep s) = jobDocs s := by
  unfold endWriting
  split
  · split
    · unfold keepScanPage; split <;> rfl
    · unfold discardScanPage
      split
      · rfl
      · dsimp only
        split
        · rw [jobDocs_discardPage]; rfl
        · rfl
  split
  · unfold endLinkPage
    split
    · rfl
    · dsimp only
      split
      · rfl
      split
      · rw [jobDocs_discardPage]; rfl
      · rfl
  · rfl

theorem jobDocs_endReading (kind : JobKind) (s : State) : jobDocs (endReading kind s) = jobDocs s := by
  unfold endReading
  split
  · exact jobDocs_leavePage _ s
  split
  · exact jobDocs_leavePage _ s
  · rfl

/-! ### The engines given up -/

theorem eased_linkFaults (n : Nat) (s : State) :
    let t := (List.range n).foldl (fun s _ => linkFault .noReceiver s) s
    Eased s t ∧ t.store = s.store ∧ t.jobs = s.jobs := by
  refine List.foldlRecOn (List.range n) _ (motive := fun t => Eased s t ∧ t.store = s.store ∧ t.jobs = s.jobs) ⟨.refl s, rfl, rfl⟩ ?_
  rintro v ⟨e, hs, hj⟩ - -
  have step : (linkFault .noReceiver v).store = v.store ∧ (linkFault .noReceiver v).jobs = v.jobs := by
    unfold linkFault raise; split <;> exact ⟨rfl, rfl⟩
  have one : Eased v (linkFault .noReceiver v) := by
    unfold linkFault
    exact EasedOn.trans (Eased.of_same (t := v.onLink _) rfl rfl rfl rfl) (eased_raise _ _ _)
  exact ⟨e.trans one, step.1.trans hs, step.2.trans hj⟩

/-- An engine given up leaves the directory and the job slots. -/
theorem eased_releaseEngine (e : Engine) (s : State) :
    Eased s (releaseEngine e s) ∧ (releaseEngine e s).store.documents = s.store.documents ∧
      (releaseEngine e s).jobs.slots = s.jobs.slots := by
  cases e
  · exact ⟨{ Eased.refl s with }, rfl, rfl⟩
  · exact ⟨{ Eased.refl s with }, rfl, rfl⟩
  · obtain ⟨he, hs, hj⟩ := eased_linkFaults ((s.store.linkIn.map LinkIn.queue).getD []).length s
    unfold releaseEngine
    dsimp only at he hs hj ⊢
    generalize (List.range _).foldl (fun s _ => linkFault .noReceiver s) s = v at he hs hj ⊢
    refine ⟨he.trans ?_, show v.store.documents = _ from congrArg Store.documents hs, show v.jobs.slots = _ from congrArg WorkOrders.slots hj⟩
    exact { Eased.refl _ with linkPage := fun _ h => (nomatch h), linkHeld := fun _ h => (nomatch h) }
  · exact ⟨{ Eased.refl s with }, rfl, rfl⟩

theorem eased_releaseEngines (l : List Engine) (s : State) :
    let t := l.foldl (fun s e => releaseEngine e s) s
    Eased s t ∧ t.store.documents = s.store.documents ∧ t.jobs.slots = s.jobs.slots := by
  induction l generalizing s with
  | nil => exact ⟨.refl s, rfl, rfl⟩
  | cons e l ih =>
    obtain ⟨h, hd, hs⟩ := eased_releaseEngine e s
    obtain ⟨h', hd', hs'⟩ := ih (releaseEngine e s)
    exact ⟨h.trans h', hd'.trans hd, hs'.trans hs⟩

/-! ### The document given up -/

theorem docOf_giveUpWriting (n id m : Nat) (s : State) :
    (docOf (giveUpWriting n id s) m).users = (docOf s m).users := by
  unfold giveUpWriting
  split
  · rw [docOf_onDoc_ite]
    split
    · next h => rw [h.1]
    · rfl
  · rfl

/-- R62: the document of an ended job loses a user, and no other changes its users. -/
theorem users_leaveDocument (j : Job) (m : Nat) (s : State) :
    (docOf s m).users - (if m = j.document then 1 else 0) ≤ (docOf (leaveDocument j s) m).users := by
  unfold leaveDocument
  rw [docOf_giveUpWriting, docOf_onDoc_ite]
  by_cases hm : m = j.document
  · subst hm
    by_cases hr : 1 ≤ j.document ∧ j.document ≤ s.store.documents.length <;> simp [hr]
  · simp [hm]

theorem leaveDocument_rest (j : Job) (s : State) :
    ∃ documents, leaveDocument j s = s.onStore (fun st => { st with documents := documents }) := by
  unfold leaveDocument giveUpWriting onDoc
  split <;> split
  all_goals first | exact ⟨s.store.documents, rfl⟩ | exact ⟨_, rfl⟩

theorem docOf_leaveDocument (j : Job) (m : Nat) (s : State) :
    (docOf (leaveDocument j s) m).pages = (docOf s m).pages ∧
      ((docOf (leaveDocument j s) m).state = .empty → (docOf s m).state = .empty) := by
  have first : ∀ m, (docOf (onDoc j.document (fun d => { d with users := d.users - 1 }) s) m).pages = (docOf s m).pages ∧
      (docOf (onDoc j.document (fun d => { d with users := d.users - 1 }) s) m).state = (docOf s m).state := by
    intro m
    rw [docOf_onDoc_ite]
    split
    · next h => rw [h.1]; exact ⟨rfl, rfl⟩
    · exact ⟨rfl, rfl⟩
  unfold leaveDocument giveUpWriting
  split
  · rw [docOf_onDoc_ite]
    split
    · next h => rw [h.1]; exact ⟨(first _).1, fun h => by cases h⟩
    · exact ⟨(first m).1, fun h => (first m).2 ▸ h⟩
  · exact ⟨(first m).1, fun h => (first m).2 ▸ h⟩

theorem easedOn_leaveDocument (j : Job) (s : State) : EasedOn (fun _ => True) (· ≠ j.document) s (leaveDocument j s) := by
  have users := fun m => users_leaveDocument j m s
  have doc := fun m => docOf_leaveDocument j m s
  obtain ⟨documents, h⟩ := leaveDocument_rest j s
  rw [h] at users doc ⊢
  refine { Eased.refl s with jobs := fun _ h => .inl h, pages := fun m => (doc m).1, docs := fun m => (doc m).2, users := fun m hm hc => hc.trans ?_ }
  simpa [hm] using users m

theorem jobDocs_clearSlot {k : Nat} {j : Job} (hj : jobIn s k = some j) (n : Nat) :
    ((s.jobs.slots.set k none).map (Option.map Job.document)).count (some n) + (if n = j.document then 1 else 0) =
      (jobDocs s).count (some n) := by
  have hk : s.jobs.slots[k]? = some (some j) := jobIn_slot.1 hj
  obtain ⟨hlt, hget⟩ := List.getElem?_eq_some_iff.1 hk
  have hd : (jobDocs s)[k]? = some (some j.document) := by simp [jobDocs, hk]
  obtain ⟨hlt', hget'⟩ := List.getElem?_eq_some_iff.1 hd
  have hpos : n = j.document → 0 < (jobDocs s).count (some n) := fun h =>
    List.count_pos_iff.2 (mem_jobDocs.2 ⟨k, j, hj, h.symm⟩)
  have hset : (s.jobs.slots.set k none).map (Option.map Job.document) = (jobDocs s).set k none := by simp [jobDocs, List.map_set]
  rw [hset, List.count_set hlt', hget']
  by_cases hn : n = j.document
  · have := hpos hn
    subst hn
    simp; omega
  · simp [hn, Ne.symm hn]

/-- R62: a job ends: it gives up its engines and its use of the document, and leaves its slot. -/
theorem keeps_leaveSlot {k : Nat} {j : Job} {held : List Engine} {status : FinalStatus} (hk : Keeps u s)
    (hj : (jobDocs s)[k]? = some (some j.document)) :
    Keeps u ((raiseJob k (some status) (held.foldl (fun s e => releaseEngine e s) (leaveDocument j s))).onJobs
      (fun w => { w with slots := w.slots.set k none })) := by
  obtain ⟨documents, hrest⟩ := leaveDocument_rest j s
  obtain ⟨he, hd, hs⟩ := eased_releaseEngines held (leaveDocument j s)
  generalize held.foldl (fun s e => releaseEngine e s) (leaveDocument j s) = v at he hd hs ⊢
  have raised : Eased v (raiseJob k (some status) v) ∧ (raiseJob k (some status) v).store = v.store ∧
      (raiseJob k (some status) v).jobs = v.jobs := by
    unfold raiseJob
    split
    · refine ⟨eased_raise _ _ _, ?_⟩
      unfold raise; split <;> exact ⟨rfl, rfl⟩
    · exact ⟨.refl v, rfl, rfl⟩
  obtain ⟨hr, hrs, hrj⟩ := raised
  generalize raiseJob k (some status) v = w at hr hrs hrj ⊢
  have slots : w.jobs.slots = s.jobs.slots := by rw [hrj, hs, hrest]; rfl
  have doc : ∀ n, docOf w n = docOf (leaveDocument j s) n := by intro n; unfold docOf; rw [hrs, hd]
  have hjob : ∃ i, jobIn w k = some i ∧ i.document = j.document := by
    simp only [jobDocs, List.getElem?_map, Option.map_eq_some_iff] at hj
    obtain ⟨_, hslot, i, rfl, hi⟩ := hj
    exact ⟨i, jobIn_slot.2 (slots ▸ hslot), hi⟩
  obtain ⟨i, hi, hdoc⟩ := hjob
  have count := jobDocs_clearSlot hi
  rw [hdoc] at count
  have clear : EasedOn (fun _ => True) (fun _ => True) w (w.onJobs (fun x => { x with slots := x.slots.set k none })) := by
    have le : ∀ n, (jobDocs (w.onJobs (fun x => { x with slots := x.slots.set k none }))).count (some n) ≤ (jobDocs w).count (some n) :=
      fun n => by rw [← count n]; exact Nat.le_add_right _ _
    refine { Eased.refl w with users := fun n _ h => (le n).trans h, jobs := fun n h => ?_ }
    exact .inl (List.count_pos_iff.1 ((List.count_pos_iff.2 h).trans_le (le n)))
  have whole := (easedOn_leaveDocument j s).trans ((Eased.on (he.trans hr)).trans (Eased.on clear))
  refine hk.trans ⟨whole.dram, whole.store, fun _ hl => whole.listsOf hl fun n => ?_⟩
  have hw : (jobDocs w).count (some n) = (jobDocs s).count (some n) := by unfold jobDocs; rw [slots]
  have hu : (jobDocs s).count (some n) ≤ (docOf s n).users := users_eq_count s n ▸ hl.users n
  have hleft : (docOf s n).users - (if n = j.document then 1 else 0) ≤
      (docOf (w.onJobs (fun x => { x with slots := x.slots.set k none })) n).users :=
    (users_leaveDocument j n s).trans (le_of_eq (congrArg Document.users (doc n)).symm)
  have hc := count n
  have hdef : (jobDocs (w.onJobs (fun x => { x with slots := x.slots.set k none }))).count (some n) =
    ((w.jobs.slots.set k none).map (Option.map Job.document)).count (some n) := rfl
  omega

section
variable (hk : Keeps u s)
include hk

theorem keeps_endJob {k : Nat} {status : FinalStatus} : Keeps u (endJob k status s) := by
  unfold endJob
  split
  · exact hk
  next j hj =>
    have hdoc : (jobDocs s)[k]? = some (some j.document) := by simp [jobDocs, jobIn_slot.1 hj]
    by_cases held : enginesHeld s k = []
    · simp only [held, if_true]
      exact keeps_leaveSlot (held := []) (keeps_leaveLists hk) hdoc
    · simp only [held, if_false]
      refine keeps_leaveSlot (keeps_endReading (keeps_endWriting hk)) ?_
      rw [jobDocs_endReading, jobDocs_endWriting]; exact hdoc

theorem keeps_compareAtPageEnd {k : Nat} : Keeps u (compareAtPageEnd k s) := by
  unfold compareAtPageEnd
  split
  · exact hk
  split
  · exact hk
  split
  · split
    · exact keeps_yieldJob hk
    · exact hk
  · exact keeps_onJob hk

theorem keeps_endIfDone {k : Nat} : Keeps u (endIfDone k s) := by
  unfold endIfDone
  split
  · split
    · exact hk
    split
    · exact keeps_onJob hk
    · exact keeps_endJob hk
  · exact hk

theorem keeps_moveOn {k : Nat} : Keeps u (moveOn k s) := keeps_compareAtPageEnd (keeps_endIfDone (keeps_onJob hk))

/-! ## Boundaries (R63) -/

theorem keeps_carryNext {k : Nat} : Keeps u (carryNext k s) := by
  unfold carryNext
  split
  exacts [keeps_compareAtPageEnd (keeps_onScanRest hk), keeps_moveOn (keeps_onJobs hk), keeps_moveOn (keeps_onJobs hk), hk]

theorem keeps_carryRepeat {k : Nat} : Keeps u (carryRepeat k s) := by
  unfold carryRepeat
  dsimp only
  split
  exacts [keeps_onJobs (keeps_onJob hk), keeps_onJobs (keeps_onJob hk), keeps_onJob hk]

theorem keeps_carryPageEnd {k : Nat} {c : Choice} : Keeps u (carryPageEnd k c s) := by
  unfold carryPageEnd
  split
  exacts [keeps_carryNext hk, keeps_carryRepeat hk, keeps_endJob hk]

theorem keeps_meet {k : Nat} {b : Boundary} : Keeps u (meet k b s) := by
  unfold meet
  split
  · exact hk
  split
  · exact keeps_carryPageEnd hk
  · exact keeps_stopJob hk

end

end Sys2Proof.Machine
end

section
/-! The scan side keeps the records and the lists (R65 to R67, R83 to R100). -/

namespace Sys2Proof.Machine

-- One theorem at a time, as in the tests: a thread for each would exceed the memory allowed.
set_option Elab.async false

variable {s t u : State}

/-! ## The jobs that hold the engines -/

theorem jobHeld_eq {e : Engine} {k : Nat} {j : Job}
    (h : (jobHolding s e).bind (fun k => (jobIn s k).map (fun j => (k, j))) = some (k, j)) : jobHolding s e = some k ∧ jobIn s k = some j := by
  obtain ⟨i, hi, h⟩ := Option.bind_eq_some_iff.1 h
  obtain ⟨i', hj, h⟩ := Option.map_eq_some_iff.1 h
  cases h
  exact ⟨hi, hj⟩

theorem scanJob_eq {k : Nat} {j : Job} (h : scanJob s = some (k, j)) : jobIn s k = some j := (jobHeld_eq h).2
theorem receiveJob_eq {k : Nat} {j : Job} (h : receiveJob s = some (k, j)) : jobIn s k = some j := (jobHeld_eq h).2

/-- The first of two rules that applies. -/
theorem keeps_orElse {a b : Option State} (ha : a = some t → Keeps u t) (hb : b = some t → Keeps u t) (ht : (a <|> b) = some t) :
    Keeps u t := by
  cases a with
  | none => exact hb ht
  | some x => exact ha ht

@[simp] theorem writesPage_document (n : Nat) (j : Job) : (Job.writesPage n j).document = j.document := by
  unfold Job.writesPage; split <;> rfl

theorem keeps_ite {c : Prop} [Decidable c] {a b : State} (ha : Keeps u a) (hb : Keeps u b) : Keeps u (if c then a else b) := by
  split
  exacts [ha, hb]

section
variable (hk : Keeps u s)
include hk

/-! ## FeedOps, EnergyOps -/

theorem keeps_raiseDone {op : DoneOp} {o : DoneOutcome} {steps : Nat} : Keeps u (raiseDone op o steps s) := keeps_raise hk
theorem keeps_enqueue {m : Motor} {e : Entry} : Keeps u (enqueue m e s) := keeps_onFeed hk
theorem keeps_beginCycle : Keeps u (beginCycle s) := keeps_onMech hk

theorem keeps_takeSamples {a b : Byte} : Keeps u (takeSamples a b s) := by
  unfold takeSamples
  exact keeps_ite (keeps_raise (keeps_onEnergy hk)) (keeps_onEnergy hk)

theorem keeps_cutStrobe : Keeps u (cutStrobe s) := by
  unfold cutStrobe
  split
  · exact keeps_whitenHistory (keeps_onEnergy hk)
  · exact hk

theorem keeps_headOff : Keeps u (headOff s) := by
  unfold headOff
  exact keeps_onPower (keeps_onEnergy (keeps_whitenHistory (keeps_cutStrobe hk)))

/-! ## The lamp, the sheet -/

theorem keeps_lampOn : Keeps u (lampOn s) := keeps_onScanRest hk
theorem keeps_lampOff : Keeps u (lampOff s) := keeps_onScanRest hk
theorem keeps_raiseDocJam {pick long : Bool} : Keeps u (raiseDocJam pick long s) := keeps_raise hk
theorem keeps_setScanPhase {p : ScanPhase} : Keeps u (setScanPhase p s) := keeps_onScanRest hk

theorem keeps_placeEdge : Keeps u (placeEdge s) := by
  have lead : Keeps u (leadingEdge s) := by unfold leadingEdge; exact keeps_onScanRest hk
  have first := fun {c d : Prop} [Decidable c] [Decidable d] =>
    keeps_ite (c := c) lead (keeps_ite (c := d) (show Keeps u (edgeStep s) from keeps_onScanRest hk) hk)
  unfold placeEdge
  refine keeps_ite ?_ first
  unfold trailingEdge
  exact keeps_onScanRest first

theorem keeps_jamScan {k : Nat} {r : Reason} : Keeps u (jamScan k r s) :=
  keeps_meet (keeps_onScanRest (keeps_setScanPhase (keeps_raiseDocJam hk)))

/-! ## Page starts (R65, R67) -/

/-- R65: SCAN-IN comes to stand on the page begun. -/
theorem keeps_acceptStart {k slot : Nat} (live : u.storeSound → (pageOf s slot).state ≠ .empty) : Keeps u (acceptStart k slot s) := by
  have stands : Keeps u (s.onStore (fun st => { st with scanIn := ⟨some slot, none⟩ })) :=
    keeps_of_sound hk id fun hu => { Eased.refl s with
      scanPage := fun p h => .inr (by cases h; exact live hu), scanHeld := fun _ h => (nomatch h) }
  unfold acceptStart
  exact keeps_lampOn (keeps_onJob (keeps_onScanRest stands) fun j => writesPage_document _ _)

omit hk in
theorem scanStart_keeps {j : Job} {v : Nat × State} (h : scanStart s j = .ok v) (hdoc : s.listsSound → (docOf s j.document).state ≠ .empty) :
    Keeps s v.2 ∧ (pageOf v.2 v.1).state ≠ .empty := startPage_keeps h hdoc

theorem keeps_requestStart {k : Nat} {j : Job} (hj : jobIn s k = some j) : Keeps u (requestStart k j s) := by
  unfold requestStart
  split
  · next r h =>
    obtain ⟨hr, live⟩ := scanStart_keeps h fun hl => hl.jobDoc k j hj
    exact keeps_acceptStart (hk.trans hr) fun _ => live
  · exact keeps_onScanRest (keeps_onJob hk)

theorem keeps_waitSilently {k : Nat} {atStart : Bool} : Keeps u (waitSilently k atStart s) := by
  unfold waitSilently
  dsimp only
  split
  · exact keeps_addWaiter (keeps_dropWaiter (keeps_onJob hk))
  · exact keeps_onJob hk

theorem keeps_meetFull {k : Nat} {r : FullReason} {mid : Bool} : Keeps u (meetFull k r mid s) :=
  keeps_meet (keeps_onJob (keeps_dropWaiter hk))

theorem keeps_noRoom {k : Nat} {j : Job} {r : FullReason} {mid : Bool} (ht : noRoom k j r mid s = some t) : Keeps u t := by
  unfold noRoom at ht
  split at ht
  · cases ht
  split at ht
  · split at ht <;> cases ht
    exact keeps_waitSilently hk
  split at ht <;> cases ht
  exact keeps_meetFull hk

/-! ## Page ends, ejects -/

theorem keeps_endScanPage {k : Nat} {j : Job} : Keeps u (endScanPage k j s) := by
  have ended : Keeps u (match s.store.scanIn.slot with | some slot => endPageNormally slot s | none => s) := by
    split
    · exact keeps_endPageNormally hk
    · exact hk
  unfold endScanPage
  exact keeps_onJob (keeps_onScanRest (keeps_scanInGone ended)) fun j => writesPage_document _ _

theorem keeps_endScanSide {k : Nat} : Keeps u (endScanSide k s) := by
  unfold endScanSide
  split
  · exact keeps_setScanPhase (keeps_giveUpWriting hk)
  · exact hk

theorem keeps_admitEjectDue : Keeps u (admitEjectDue s) := keeps_enqueue (keeps_onScanRest hk)

theorem keeps_ejectOffer {e : Eject} (ht : ejectOffer s e = some t) : Keeps u t := by
  unfold ejectOffer at ht
  split at ht
  · cases ht
  split at ht
  · split at ht <;> cases ht
    exact keeps_admitEjectDue hk
  split at ht
  · cases ht
  split at ht
  · split at ht <;> cases ht
    exact keeps_enqueue hk
  split at ht
  · cases ht; exact keeps_onScanRest hk
  split at ht <;> cases ht
  exact keeps_enqueue (keeps_onScanRest hk)

theorem keeps_beginEject {a : AfterEject} {countAnew : Bool} : Keeps u (beginEject a countAnew s) := keeps_onScanRest hk

theorem keeps_afterEject {k : Nat} {a : AfterEject} : Keeps u (afterEject k a s) := by
  unfold afterEject
  cases a
  · exact keeps_endJob (keeps_onScanRest hk)
  · exact keeps_endJob (keeps_onScanRest hk)
  · exact keeps_endScanSide (keeps_onScanRest hk)

/-! ## The scan side's rules -/

theorem keeps_lookRule {k : Nat} {j : Job} {again : Bool} (hj : jobIn s k = some j) (ht : lookRule k j again s = some t) : Keeps u t := by
  unfold lookRule heldLook at ht
  split at ht
  · split at ht
    · cases ht
    split at ht <;> cases ht
    exact keeps_onJob hk
  split at ht
  · cases ht; exact keeps_requestStart hk hj
  split at ht
  · cases ht; exact keeps_endScanSide hk
  split at ht <;> cases ht
  exact keeps_onJob hk

theorem keeps_warmRule {k : Nat} {j : Job} (ht : warmRule k j s = some t) : Keeps u t := by
  unfold warmRule at ht
  split at ht
  · split at ht <;> cases ht
    · exact keeps_jamScan hk
    · exact keeps_onScanRest hk
  · cases ht

theorem keeps_pickRule {k : Nat} {j : Job} (ht : pickRule k j s = some t) : Keeps u t := by
  unfold pickRule at ht
  dsimp only at ht
  split at ht
  · split at ht
    · split at ht <;> cases ht
      exact keeps_onScanRest hk
    · split at ht <;> cases ht
      exact keeps_enqueue (keeps_onScanRest hk)
  split at ht <;> cases ht
  exact keeps_jamScan hk

theorem keeps_linesRule {k : Nat} {j : Job} (ht : linesRule k j s = some t) : Keeps u t := by
  unfold linesRule at ht
  dsimp only at ht
  split at ht
  · cases ht; exact keeps_jamScan hk
  split at ht
  · cases ht; exact keeps_enqueue (keeps_onScanRest hk)
  split at ht
  · cases ht; exact keeps_admitEjectDue hk
  split at ht
  · cases ht; exact keeps_endScanPage hk
  split at ht
  · cases ht
    split
    · exact keeps_onScanRest hk
    · exact keeps_enqueue (keeps_onScanRest hk)
  split at ht <;> cases ht
  exact keeps_setScanPhase hk

theorem keeps_pageDoneRule {k : Nat} {j : Job} (ht : pageDoneRule k j s = some t) : Keeps u t := by
  unfold pageDoneRule at ht
  dsimp only at ht
  split at ht
  · split at ht <;> cases ht
    exact keeps_setScanPhase hk
  · obtain ⟨-, h⟩ := Option.ite_none_right_eq_some.1 ht
    cases h; exact keeps_meet hk

theorem keeps_ejectRule {k : Nat} {j : Job} (ht : ejectRule k j s = some t) : Keeps u t := by
  unfold ejectRule at ht
  split at ht
  · split at ht
    · cases ht; exact keeps_jamScan hk
    split at ht
    · next h => cases ht; exact keeps_ejectOffer hk h
    · split at ht <;> cases ht
      exact keeps_afterEject hk
  · cases ht

theorem keeps_midPageRule {k : Nat} {j : Job} (ht : midPageRule k j s = some t) : Keeps u t := by
  unfold midPageRule at ht
  split at ht
  · exact keeps_noRoom hk ht
  split at ht <;> cases ht
  exact keeps_onScanRest (keeps_onJob hk)

theorem keeps_heldStartRule {k : Nat} {j : Job} (ht : heldStartRule k j s = some t) : Keeps u t := by
  unfold heldStartRule at ht
  split at ht <;> cases ht
  exact keeps_onJob hk

theorem keeps_lostRule {k : Nat} {j : Job} (ht : lostRule k j s = some t) : Keeps u t := by
  unfold lostRule at ht
  split at ht
  · split at ht <;> cases ht
    exact keeps_meet (keeps_onScanRest hk)
  · cases ht

theorem keeps_scanPhaseRule {k : Nat} {j : Job} (hj : jobIn s k = some j) (ht : scanPhaseRule k j s = some t) : Keeps u t := by
  unfold scanPhaseRule at ht
  split at ht
  · exact keeps_lookRule hk hj ht
  · exact keeps_lookRule hk hj ht
  · exact keeps_orElse (keeps_noRoom hk) (keeps_heldStartRule hk) ht
  · exact keeps_warmRule hk ht
  · exact keeps_pickRule hk ht
  · exact keeps_linesRule hk ht
  · exact keeps_pageDoneRule hk ht
  · exact keeps_ejectRule hk ht
  all_goals cases ht

theorem keeps_scanRule (ht : scanRule s = some t) : Keeps u t := by
  unfold scanRule at ht
  split at ht
  · cases ht
  next k j h =>
    refine keeps_orElse (keeps_lostRule hk) (keeps_orElse (fun hm => ?_) (keeps_scanPhaseRule hk (scanJob_eq h))) ht
    split at hm
    · exact keeps_midPageRule hk hm
    · cases hm

theorem keeps_docEjectRule (ht : docEjectRule s = some t) : Keeps u t := by
  unfold docEjectRule at ht
  split at ht
  · split at ht
    · cases ht
    split at ht
    · cases ht; exact keeps_raiseDocJam (keeps_onScanRest hk)
    split at ht
    · next h => cases ht; exact keeps_ejectOffer hk h
    · split at ht <;> cases ht
      exact keeps_raiseDone (keeps_endOp (keeps_onScanRest hk))
  · cases ht

theorem keeps_lampRule (ht : lampRule s = some t) : Keeps u t := by
  unfold lampRule at ht
  split at ht <;> cases ht
  exact keeps_lampOff hk

/-! ## Calibration (R97) -/

theorem keeps_beginCalibration {startUp : Bool} : Keeps u (beginCalibration startUp s) := keeps_onScanRest hk

theorem keeps_endCalibration {o : DoneOutcome} {c : CalOutcome} : Keeps u (endCalibration o c s) := by
  unfold endCalibration
  dsimp only
  split
  · exact keeps_onStart (keeps_lampOff (keeps_onScanRest hk))
  · exact keeps_raiseDone (keeps_endOp (keeps_lampOff (keeps_onScanRest hk)))

theorem keeps_installCalibration {dark white : List Nat} : Keeps u (installCalibration dark white s) := by
  unfold installCalibration
  exact keeps_endCalibration (keeps_onScanRest hk)

end

end Sys2Proof.Machine
end

section
/-! The print and the send side, what follows of itself and the emergency stop keep the records and the lists (R9, R54, R57, R68 to R77, R135). -/

namespace Sys2Proof.Machine

-- One theorem at a time, as in the tests: a thread for each would exceed the memory allowed.
set_option Elab.async false

variable {s t u : State}

/-- R5: a page at an index of a document's list is not EMPTY. -/
theorem pageAt_live (hs : s.storeSound) {n index slot : Nat} (h : pageAt s n index = some slot) : (pageOf s slot).state ≠ .empty := by
  unfold pageAt at h
  split at h
  · cases h
  · exact (hs.listed n slot (List.mem_of_getElem? h)).1

theorem pageAhead_live (hs : s.storeSound) {j : Job} {slot : Nat} (h : pageAhead s j = .page slot) : (pageOf s slot).state ≠ .empty := by
  unfold pageAhead at h
  split at h
  · cases h
  split at h
  · next slot' hp =>
    split at h
    · cases h
    · split at h <;> cases h
      exact pageAt_live hs hp
  · split at h <;> cases h

section
variable (hk : Keeps u s)
include hk

/-! ## The print side -/

theorem keeps_setPrint {f : PrintSide → PrintSide} : Keeps u (setPrint f s) := keeps_onJobs hk
theorem keeps_setSend {f : SendSide → SendSide} : Keeps u (setSend f s) := keeps_onJobs hk
theorem keeps_starveRead {k : Nat} {b : Bool} : Keeps u (starveRead k b s) := keeps_onJob hk

theorem keeps_starveReadRule {k : Nat} {j : Job} {b : Bool} (ht : starveReadRule k j b s = some t) : Keeps u t := by
  unfold starveReadRule at ht
  split at ht <;> cases ht
  exact keeps_starveRead hk

theorem keeps_copyEnd {k : Nat} {j : Job} : Keeps u (copyEnd k j s) := by
  unfold copyEnd
  split
  · exact keeps_onJob hk
  split
  · exact keeps_setPrint (keeps_starveRead hk)
  · exact keeps_endJob hk

theorem keeps_needPageRule {k : Nat} {j : Job} (ht : needPageRule k j s = some t) : Keeps u t := by
  unfold needPageRule waitingRule at ht
  split at ht
  · exact keeps_starveReadRule hk ht
  split at ht
  · exact keeps_starveReadRule hk ht
  · cases ht; exact keeps_copyEnd hk
  · cases ht; exact keeps_onJob hk
  next slot h =>
    cases ht
    exact keeps_beginPage (keeps_onJob (keeps_setPrint (keeps_starveRead hk))) fun hu => pageAhead_live (hk.store hu) h

theorem keeps_printingRule {k : Nat} {j : Job} (ht : printingRule k j s = some t) : Keeps u t := by
  unfold printingRule at ht
  split at ht
  · exact keeps_starveReadRule hk ht
  split at ht
  · exact keeps_starveReadRule hk ht
  · exact keeps_starveReadRule hk ht
  · cases ht; exact keeps_setPrint (keeps_starveRead hk)

theorem keeps_readDoneRule (ht : readDoneRule s = some t) : Keeps u t := by
  have counted : Keeps u (match s.store.printOut.slot with
      | some slot => onPage slot (Page.countPrint s.store.printOut.consumedLine) s | none => s) := by
    split
    · refine keeps_onPage hk fun p => ?_
      unfold Page.countPrint; split <;> exact ⟨rfl, rfl⟩
    · exact hk
  unfold readDoneRule at ht
  split at ht <;> cases ht
  exact keeps_setPrint (keeps_leavePage counted)

theorem keeps_cuttingRule {j : Job} (ht : cuttingRule j s = some t) : Keeps u t := by
  unfold cuttingRule at ht
  split at ht
  · cases ht; exact keeps_setPrint hk
  · split at ht
    · cases ht; exact keeps_setPrint hk
    split at ht <;> cases ht
    exact keeps_enqueue (keeps_setPrint hk)
  · split at ht <;> cases ht
    exact keeps_beginCycle (keeps_setPrint hk)
  · cases ht
  · cases ht; exact keeps_setPrint hk

theorem keeps_pageCutRule {k : Nat} {j : Job} (ht : pageCutRule k j s = some t) : Keeps u t := by
  unfold pageCutRule at ht
  split at ht
  · split at ht <;> cases ht
    refine keeps_onJob (keeps_setPrint hk) fun j => ?_
    unfold Job.nextPage; rfl
  · obtain ⟨-, h⟩ := Option.ite_none_right_eq_some.1 ht
    cases h; exact keeps_meet hk

theorem keeps_printRule (ht : printRule s = some t) : Keeps u t := by
  unfold printRule at ht
  split at ht
  · cases ht
  split at ht
  · exact keeps_starveReadRule hk ht
  split at ht
  · cases ht
  · exact keeps_needPageRule hk ht
  · exact keeps_printingRule hk ht
  · exact keeps_readDoneRule hk ht
  · exact keeps_cuttingRule hk ht
  · exact keeps_pageCutRule hk ht
  · split at ht <;> cases ht
    exact keeps_meet hk

theorem keeps_cutSucceeded {k : Nat} : Keeps u (cutSucceeded k s) := keeps_onJob (keeps_setPrint hk)

theorem keeps_nextLine : Keeps u (nextLine s) := by
  have read : Keeps u (readLineOf .print s) := keeps_readLineOf hk
  unfold nextLine
  dsimp only
  split
  · exact hk
  split
  · split
    · exact keeps_setPrint read
    · exact read
  · exact read

theorem keeps_countClamped {l : StoredLine} {n : Nat} : Keeps u (countClamped l n s) := by
  unfold countClamped
  split
  · exact hk
  · exact keeps_onPage hk

theorem keeps_admitLine {l : StoredLine} : Keeps u (admitLine l s) := by
  unfold admitLine
  exact keeps_setPrint (keeps_onEnergy (keeps_enqueue (keeps_countClamped hk)))

theorem keeps_offerLine {a b : Byte} : Keeps u (offerLine a b s) := by
  unfold offerLine
  dsimp only
  split
  · exact keeps_nextLine hk
  · exact keeps_ite (keeps_takeSamples (keeps_nextLine hk)) (keeps_admitLine (keeps_takeSamples (keeps_nextLine hk)))

theorem keeps_printToConsumed : Keeps u (printToConsumed s) := keeps_setPrint (keeps_toConsumed hk)

theorem keeps_backToConsumed : Keeps u (backToConsumed s) :=
  keeps_ite (keeps_setPrint (keeps_printToConsumed hk)) hk

/-! ## The send side -/

theorem keeps_closeFrame {k : Nat} {pageEnd : Bool} : Keeps u (closeFrame k pageEnd s) :=
  keeps_beginSending (keeps_setSend (keeps_onLink hk))

theorem keeps_placeRecord {k : Nat} {j : Job} {l : ReadLine} (ht : placeRecord k j l s = some t) : Keeps u t := by
  unfold placeRecord at ht
  dsimp only at ht
  split at ht
  · cases ht; exact keeps_closeFrame hk
  split at ht <;> cases ht
  exact keeps_onJob (keeps_setSend hk)

theorem keeps_noCreditRule {k : Nat} (ht : noCreditRule k s = some t) : Keeps u t := by
  unfold noCreditRule at ht
  split at ht <;> cases ht
  exact keeps_closeFrame hk

theorem keeps_sendingRule {k : Nat} {j : Job} (ht : sendingRule k j s = some t) : Keeps u t := by
  unfold sendingRule at ht
  dsimp only at ht
  split at ht
  · cases ht; exact keeps_setSend hk
  split at ht
  · split at ht
    · exact keeps_noCreditRule hk ht
    · exact keeps_placeRecord hk ht
  split at ht
  · split at ht
    · cases ht; exact keeps_starveRead hk
    split at ht
    · exact keeps_noCreditRule hk ht
    · cases ht
      exact keeps_ite (keeps_setSend (keeps_readLineOf hk)) (keeps_readLineOf hk)
  · split at ht
    · cases ht; exact keeps_starveRead hk
    split at ht <;> cases ht
    exact keeps_closeFrame hk
  · split at ht <;> cases ht
    · exact keeps_closeFrame hk
    · exact keeps_closeFrame (keeps_setSend (keeps_starveRead hk))

theorem keeps_sendNeedPageRule {k : Nat} {j : Job} (ht : sendNeedPageRule k j s = some t) : Keeps u t := by
  unfold sendNeedPageRule waitingRule at ht
  split at ht
  · exact keeps_starveReadRule hk ht
  split at ht
  · exact keeps_starveReadRule hk ht
  · cases ht; exact keeps_endJob hk
  · cases ht; exact keeps_onJob hk
  next slot h =>
    cases ht
    exact keeps_beginPage (keeps_onJob (keeps_setSend (keeps_starveRead hk))) fun hu => pageAhead_live (hk.store hu) h

theorem keeps_sendRule (ht : sendRule s = some t) : Keeps u t := by
  unfold sendRule at ht
  split at ht
  · cases ht
  split at ht
  · exact keeps_sendNeedPageRule hk ht
  · split at ht
    · cases ht; exact keeps_starveRead hk
    split at ht
    · cases ht; exact keeps_onJob hk
    split at ht
    · cases ht
    split at ht
    · exact keeps_sendingRule hk ht
    split at ht <;> cases ht
    exact keeps_closeFrame hk
  · obtain ⟨-, h⟩ := Option.ite_none_right_eq_some.1 ht
    cases h; exact keeps_meet hk
  all_goals cases ht

theorem keeps_frameSent {o : OutFrame} : Keeps u (frameSent o s) := by
  unfold frameSent
  split
  · exact keeps_endOp hk
  · exact keeps_ite (keeps_setSend (keeps_onJob (keeps_leavePage (keeps_consumeLines hk)))) (keeps_consumeLines hk)

/-! ## What follows of itself -/

/-- R9: the record that waits in a channel is a byte or more, for a page that is not EMPTY. -/
theorem keeps_serveScan (ht : serveScan s = some t) : Keeps u t := by
  unfold serveScan at ht
  split at ht
  next slot h hslot hheld =>
    obtain ⟨v, ha, rfl⟩ := Option.map_eq_some_iff.1 ht
    exact keeps_freeTaken (keeps_dropScanHeld (keeps_allocatePutCommit hk ha
      (fun hu => (hk.store hu).scanPage slot hslot) fun hu => (hk.store hu).scanHeld h hheld))
  · cases ht

theorem keeps_serveLink (ht : serveLink s = some t) : Keeps u t := by
  unfold serveLink at ht
  split at ht
  next slot h hslot hheld =>
    obtain ⟨v, ha, rfl⟩ := Option.map_eq_some_iff.1 ht
    exact keeps_mapLinkIn (keeps_dropLinkHeld (keeps_allocatePutCommit hk ha
      (fun hu => (hk.store hu).linkPage slot hslot) fun hu => (hk.store hu).linkHeld h hheld))
  · cases ht

theorem keeps_serveStart (ht : serveStart s = some t) : Keeps u t := by
  unfold serveStart at ht
  split at ht
  · cases ht
  next k j hj =>
    split at ht
    · split at ht
      next r h =>
        cases ht
        obtain ⟨hr, live⟩ := scanStart_keeps h fun hl => hl.jobDoc k j (scanJob_eq hj)
        exact keeps_acceptStart (keeps_dropWaiter (hk.trans hr)) fun _ => live
      · cases ht
    · cases ht

theorem keeps_serveRule (ht : serveRule s = some t) : Keeps u t := by
  obtain ⟨w, -, hw⟩ := List.exists_of_findSome?_eq_some ht
  cases w
  exacts [keeps_serveScan hk hw, keeps_serveLink hk hw, keeps_serveStart hk hw]

theorem keeps_holdingRule (ht : holdingRule s = some t) : Keeps u t := by
  obtain ⟨k, -, hw⟩ := List.exists_of_findSome?_eq_some ht
  split at hw
  · split at hw <;> cases hw
    exact keeps_enterStopped hk
  · cases hw

theorem keeps_internalRule (ht : internalRule s = some t) : Keeps u t := by
  unfold internalRule at ht
  split at ht
  · cases ht; exact keeps_endOp hk
  split at ht
  · cases ht; exact keeps_endOp hk
  split at ht <;> cases ht
  exact keeps_raiseDone (keeps_endOp hk)

theorem keeps_grantRule (ht : grantRule s = some t) : Keeps u t := by
  obtain ⟨p, -, rfl⟩ := Option.map_eq_some_iff.1 ht
  exact keeps_grantJob hk

theorem keeps_nextRule (ht : nextRule s = some t) : Keeps u t :=
  keeps_orElse (keeps_lampRule hk) (keeps_orElse (keeps_farRule hk) (keeps_orElse (keeps_farRule hk) (keeps_orElse (keeps_serveRule hk)
    (keeps_orElse (keeps_scanRule hk) (keeps_orElse (keeps_docEjectRule hk) (keeps_orElse (keeps_printRule hk)
    (keeps_orElse (keeps_sendRule hk) (keeps_orElse (keeps_holdingRule hk) (keeps_orElse (keeps_internalRule hk) (keeps_grantRule hk)))))))))) ht

theorem keeps_advance : Keeps u (advance s) := advanceBy_induction (fun _ _ ht h => keeps_nextRule h ht) _ hk

/-! ## The emergency stop (R135) -/

theorem keeps_driveOff : Keeps u (driveOff s) := keeps_ite (keeps_onMech hk) hk

theorem keeps_haltScan : Keeps u (haltScan s) := by
  refine keeps_onScan hk fun x n r b hb => ⟨b, ?_⟩
  obtain ⟨v, hv, he⟩ := List.mem_map.1 hb
  split at he
  · cases he
  · rwa [← he]

theorem keeps_haltPrint : Keeps u (haltPrint s) := by
  unfold haltPrint
  exact keeps_ite (keeps_setPrint hk) (keeps_backToConsumed (keeps_setPrint hk))

theorem keeps_emergencyJob {cause : Reason} {lost : Bool} {k : Nat} : Keeps u (emergencyJob cause lost k s) := by
  unfold emergencyJob
  split
  · exact hk
  split
  · exact keeps_enterBoundary (keeps_ite (keeps_onScanRest hk) hk)
  · exact keeps_enterBoundary (keeps_ite (keeps_onScanRest hk) hk)
  · exact keeps_enterBoundary (keeps_ite (keeps_onScanRest hk) hk)
  · exact hk

theorem keeps_emergencyOps {o : DoneOutcome} : Keeps u (emergencyOps o s) := by
  have ends : ∀ {v : State} {c : Prop} [Decidable c] {d n e op}, Keeps u v → Keeps u (if c then raiseDone d o n (endOp e op v) else v) :=
    fun hv => keeps_ite (keeps_raiseDone (keeps_endOp hv)) hv
  unfold emergencyOps
  exact keeps_endOp (ends (ends (keeps_ite (keeps_raiseDone (keeps_endOp (keeps_onScanRest hk))) hk)))

theorem keeps_emergencyStop {cause : Reason} : Keeps u (emergencyStop cause s) := by
  unfold emergencyStop
  have stopped : Keeps u ((mechanismJobs s).foldl (fun v k => emergencyJob cause (losesLines s) k v)
      (emergencyOps (if cause = .cutter then .jam else .cover) (headOff (driveOff ((haltScan (haltPrint s)).onMech (fun x =>
        { x with scanFeed := x.scanFeed.halted (haltScan (haltPrint s)).now, printFeed := x.printFeed.halted (haltScan (haltPrint s)).now })))))) :=
    keeps_foldl (keeps_emergencyOps (keeps_headOff (keeps_driveOff (keeps_onMech (keeps_haltScan (keeps_haltPrint hk)))))) fun _ _ h =>
      keeps_emergencyJob h
  exact keeps_ite (keeps_headOn stopped) stopped

end

end Sys2Proof.Machine
end

section
/-! The events keep the records and the lists, the MEMORY phase aside (R37 to R43, R75, R82 to R97, R114 to R117, R124 to R131, R134 to R162, R164 to
R177, R191 to R198). -/

namespace Sys2Proof.Machine

-- One theorem at a time, as in the tests: a thread for each would exceed the memory allowed.
set_option Elab.async false

variable {s t u : State}

/-! ## No record is empty (R32) -/

theorem codeLine_ne_nil (w : PageWidth) (previous l : Line) : codeLine w previous l ≠ [] := by
  unfold codeLine
  split
  · simp
  split
  · simp
  split <;> simp [runsRecord, literalRecord]

theorem receivedRuns_ne_nil {w : PageWidth} {body record rest : List Byte} (h : receivedRuns w body = .usable record rest) : record ≠ [] := by
  unfold receivedRuns at h
  split at h
  · split at h <;> cases h <;> simp [literalRecord]
  all_goals cases h

theorem receivedItem_ne_nil {w : PageWidth} {payload record rest : List Byte} (h : receivedItem w payload = some (.usable record rest)) :
    record ≠ [] := by
  unfold receivedItem at h
  cases payload with
  | nil => cases h
  | cons b body =>
    have h := Option.some.inj h
    split at h
    · cases h; simp
    · cases h; simp
    · exact receivedRuns_ne_nil h
    · split at h <;> cases h
      simp
    · split at h
      · split at h <;> cases h
      · cases h
    all_goals cases h

theorem headItem_ne_nil {record rest : List Byte} (h : headItem s = some (.usable record rest)) : record ≠ [] := by
  unfold headItem at h
  split at h
  · obtain ⟨f, -, hf⟩ := Option.bind_eq_some_iff.1 h
    exact receivedItem_ne_nil hf
  · cases h

/-! ## The line buffer -/

theorem mem_replaceFirst {p : LineSlot → Bool} {v x : LineSlot} {l : List LineSlot} (h : x ∈ replaceFirst p v l) : x = v ∨ x ∈ l := by
  induction l with
  | nil => cases h
  | cons y ys ih =>
    unfold replaceFirst at h
    split at h
    · exact (List.mem_cons.1 h).imp_right (List.mem_cons_of_mem y)
    · rcases List.mem_cons.1 h with rfl | h
      · exact .inr List.mem_cons_self
      · exact (ih h).imp_right (List.mem_cons_of_mem y)

/-- The record SCAN-IN takes stands in the line buffer. -/
theorem takeable_mem {n : Nat} {record : List Byte} (h : takeable s = some (n, record)) : LineSlot.coded n record false ∈ s.scan.slots := by
  unfold takeable at h
  split at h
  · cases h
  · obtain ⟨v, hv, hu⟩ := List.exists_of_findSome?_eq_some h
    unfold LineSlot.untaken at hu
    split at hu <;> cases hu
    exact hv

section
variable (hk : Keeps u s)
include hk

/-- A slot of the line buffer filled: with no record, or with one that is not empty. -/
theorem keeps_replaceFirst {p : LineSlot → Bool} {v : LineSlot} (h : u.storeSound → ∀ n r b, v = .coded n r b → r ≠ []) :
    Keeps u (onSlots (replaceFirst p v) s) :=
  keeps_of_sound hk id fun hu => { Eased.refl s with
    records := fun n r b hb => (mem_replaceFirst hb).symm.imp (fun hm => ⟨b, hm⟩) fun hv => h hu n r b hv.symm }

/-! ## The scan path's events -/

theorem keeps_admitScanLine : Keeps u (admitScanLine s) := by
  unfold admitScanLine
  exact keeps_onScanRest (keeps_replaceFirst (keeps_enqueue hk) (by exact fun _ _ _ _ h => nomatch h))

theorem keeps_endCapture {raw : List Byte} : Keeps u (endCapture raw s) := by
  unfold endCapture
  split
  · exact hk
  · exact keeps_onScanRest (keeps_replaceFirst hk (by exact fun _ _ _ _ h => nomatch h))

theorem keeps_codeCaptured : Keeps u (codeCaptured s) := by
  unfold codeCaptured
  split
  · exact hk
  · exact keeps_onScanRest (keeps_replaceFirst hk fun _ _ _ _ h => by cases h; exact codeLine_ne_nil _ _ _)

theorem keeps_onUntaken {v : LineSlot} (h : u.storeSound → ∀ n r b, v = .coded n r b → r ≠ []) : Keeps u (onUntaken v s) :=
  keeps_replaceFirst hk h

theorem keeps_freeUntaken : Keeps u (onUntaken .free s) := keeps_onUntaken hk fun _ _ _ _ h => nomatch h

/-- R8, R9: SCAN-IN holds what is left of a record. -/
theorem keeps_holdScanned {h : Held} (hne : h.rest ≠ []) : Keeps u (s.onStore (fun st => { st with scanIn := { st.scanIn with held := some h } })) :=
  Eased.keeps { Eased.refl s with scanHeld := fun x hx => .inr (by cases hx; exact hne) } hk

theorem keeps_storeScanned {slot n : Nat} {record : List Byte} (live : u.storeSound → (pageOf s slot).state ≠ .empty)
    (hrec : u.storeSound → record ≠ []) : Keeps u (storeScanned slot n record s) := by
  unfold storeScanned
  dsimp only
  split
  · next hfit => exact keeps_freeUntaken (keeps_appendCommit hk live hrec hfit)
  · next hrest =>
    exact keeps_addWaiter (keeps_onUntaken (keeps_holdScanned (keeps_appendRest hk live hrest) hrest) fun hu _ _ _ h => by cases h; exact hrec hu)

theorem keeps_takeScanned : Keeps u (takeScanned s) := by
  unfold takeScanned
  split
  next n record slot ht hslot =>
    split
    · exact keeps_freeUntaken (keeps_dropAtLimit hk)
    split
    · exact keeps_freeUntaken (keeps_dropPageLine hk)
    · exact keeps_storeScanned hk (fun hu => (hk.store hu).scanPage slot hslot) fun hu => (hk.store hu).records n record false (takeable_mem ht)
  · exact keeps_freeUntaken hk
  · exact hk

theorem keeps_endCalibrationLine {raw : List Byte} : Keeps u (endCalibrationLine raw s) := by
  unfold endCalibrationLine
  split
  · exact hk
  · dsimp only
    split
    · exact keeps_onScanRest hk
    split
    · exact keeps_lampOn (keeps_onScanRest hk)
    · exact keeps_installCalibration hk

/-! ## The motors -/

theorem keeps_lineStep {n : Nat} {due : Bool} : Keeps u (lineStep n due s) :=
  keeps_ite (keeps_onScanRest hk) (keeps_replaceFirst hk fun _ _ _ _ h => nomatch h)

theorem keeps_lineStrobed {tag : LineTag} : Keeps u (lineStrobed tag s) := keeps_ite (keeps_consumeLine hk) hk

theorem keeps_feedOnlyQueue {m : Motor} : Keeps u (feedOnlyQueue m s) := keeps_onFeed hk

theorem keeps_paperOut : Keeps u (paperOut s) := by
  have back : Keeps u (backToConsumed (whitenHistory (feedOnlyQueue .print s))) :=
    keeps_backToConsumed (keeps_whitenHistory (keeps_feedOnlyQueue hk))
  unfold paperOut
  dsimp only
  split
  · exact keeps_ite (keeps_meet back) back
  · exact back

theorem keeps_firstStep {e : Entry} : Keeps u (firstStep e s) := by
  unfold firstStep
  split
  · exact keeps_lineStep hk
  · unfold printStep fireLine
    exact keeps_ite (keeps_whitenHistory hk) (keeps_ite (keeps_ite (keeps_lineStrobed hk) (keeps_onEnergy hk)) (keeps_paperOut hk))
  · exact hk

theorem keeps_takeStep {m : Motor} {level : Nat} : Keeps u (takeStep m level s) := by
  unfold takeStep
  split
  · exact hk
  · cases m
    · have counted : Keeps u (scanCounts (onFeed .scan (Feed.stepped level s.now) s)) := keeps_placeEdge (keeps_onScanRest (keeps_onFeed hk))
      exact keeps_ite (keeps_firstStep counted) counted
    · have advanced := fun (e : Entry) => show Keeps u (advanceStep e (onFeed .print (Feed.stepped level s.now) s)) from
        keeps_ite (keeps_onMech (keeps_onFeed hk)) (keeps_onFeed hk)
      have rests := fun (e : Entry) => show Keeps u (headRests e (advanceStep e (onFeed .print (Feed.stepped level s.now) s))) from
        keeps_ite (keeps_onEnergy (advanced e)) (advanced e)
      exact keeps_ite (keeps_firstStep (rests _)) (rests _)

theorem keeps_setCurrent {m : Motor} {c : MotorState} : Keeps u (setCurrent m c s) := keeps_onFeed hk

theorem keeps_beginMotion {m : Motor} : Keeps u (beginMotion m s) :=
  keeps_ite (keeps_takeStep (keeps_onFeed hk)) (keeps_onFeed hk)

theorem keeps_endEnergizing {m : Motor} : Keeps u (endEnergizing m s) := keeps_takeStep (keeps_setCurrent hk)

theorem keeps_endSubpulse : Keeps u (endSubpulse s) := by
  unfold endSubpulse
  split
  · exact hk
  split
  · exact keeps_onEnergy hk
  · exact keeps_lineStrobed (keeps_onEnergy hk)

/-! ## Modes, ringing, silence -/

theorem keeps_enterStandby : Keeps u (enterStandby s) := by
  unfold enterStandby
  have off : Keeps u (motorsOff (headOff s)) := by unfold motorsOff; exact keeps_onFeed (keeps_onFeed (keeps_headOff hk))
  exact keeps_onEnergy (keeps_onPower off)

theorem keeps_enterDoze : Keeps u (enterDoze s) := by
  unfold enterDoze
  exact keeps_onStart (keeps_onLink (keeps_onPower hk))

theorem keeps_wakeCause {c : WakeCauses} : Keeps u (wakeCause c s) := by
  unfold wakeCause
  split
  exacts [keeps_onPower hk, keeps_onPower hk, hk]

theorem keeps_reachStandby : Keeps u (reachStandby s) := by
  unfold reachStandby
  exact keeps_onStart (keeps_onLink (keeps_onPower (keeps_raise hk)))

theorem keeps_ringStops {why : RingStop} : Keeps u (ringStops why s) := keeps_ite (keeps_onRing hk) (keeps_raise (keeps_onRing hk))

theorem keeps_judgeBurst : Keeps u (judgeBurst s) := by
  have counted : ∀ {f}, Keeps u (s.onRing f) := keeps_onRing hk
  exact keeps_ite (keeps_ite (keeps_wakeCause (keeps_raise counted)) (keeps_ite counted (keeps_raise counted))) (keeps_ringStops hk)

theorem keeps_ringOverdue : Keeps u (ringOverdue s) := by
  have judged := fun {c : Prop} [Decidable c] => keeps_ite (c := c) (keeps_judgeBurst hk) hk
  exact keeps_ite (keeps_ringStops judged) judged

theorem keeps_takePulse : Keeps u (takePulse s) := by
  unfold takePulse
  split
  · exact keeps_ite (keeps_ringStops hk) (keeps_onRing hk)
  · exact keeps_onRing hk

theorem keeps_alarmExpires : Keeps u (alarmExpires s) := keeps_ite (keeps_wakeCause (keeps_raise (keeps_onWake hk))) (keeps_onWake hk)

theorem keeps_firstExpiry : Keeps u (firstExpiry s) := by
  unfold firstExpiry
  exact keeps_onSilence (keeps_raise (keeps_foldl hk fun _ _ h => keeps_stopJob h))

theorem keeps_secondExpiry : Keeps u (secondExpiry s) := by
  unfold secondExpiry
  exact keeps_onSilence (keeps_foldl (keeps_onSilence (keeps_onLink hk)) fun _ _ h => keeps_endJob h)

theorem keeps_silenceNow : Keeps u (silenceNow s) := keeps_ite (keeps_ite (keeps_secondExpiry hk) (keeps_firstExpiry hk)) hk

theorem keeps_currentsNow {m : Motor} : Keeps u (currentsNow m s) := by
  have held := fun {c : Prop} [Decidable c] => keeps_ite (c := c) (keeps_setCurrent hk (m := m) (c := .hold)) hk
  exact keeps_ite (keeps_setCurrent held) held

theorem keeps_settingsEffect {lowWater : Nat} : Keeps u (settingsEffect lowWater s) := by
  have currents : Keeps u (currentsNow .print (currentsNow .scan (if s.settings.lowWater = lowWater then s else lowAfterSetting s))) :=
    keeps_currentsNow (keeps_currentsNow (keeps_ite hk (keeps_lowAfterSetting hk)))
  exact keeps_advance (keeps_silenceNow (keeps_ite (keeps_enterStandby currents) currents))

theorem keeps_readBattery {low : Bool} : Keeps u (readBattery low s) := keeps_ite (keeps_raise (keeps_onStart hk)) (keeps_onStart hk)

/-! ## The sensors, the cutter -/

theorem keeps_raiseSensor : Keeps u (raiseSensor s) := keeps_raise hk

theorem keeps_docRead {sheet : Bool} : Keeps u (if sheet then sheetArrives (abandonCalibration s) else sheetLeaves s) := by
  have abandoned : Keeps u (abandonCalibration s) := keeps_ite (keeps_endCalibration hk) hk
  have lead : Keeps u (leadingEdge (abandonCalibration s)) := by unfold leadingEdge; exact keeps_onScanRest abandoned
  refine keeps_ite (keeps_ite (keeps_ite lead (keeps_onScanRest abandoned)) abandoned) (keeps_ite ?_ (keeps_ite (keeps_onScanRest hk) hk))
  unfold trailingEdge
  exact keeps_onScanRest hk

theorem keeps_coverOpens : Keeps u (coverOpens s) := keeps_ite (keeps_emergencyStop (keeps_raise hk)) (keeps_raiseSensor hk)

theorem keeps_coverCloses : Keeps u (coverCloses s) := keeps_raiseSensor (keeps_ite (keeps_headOn hk) hk)

/-- The end of a cut of the host's and of the drain after one (R138, R142). -/
theorem keeps_endCut {o : DoneOutcome} : Keeps u (endOp .printer .cutCycle
    (if opRuns s .printer .cut then raiseDone .cut o 0 (endOp .printer .cut s) else s)) :=
  keeps_endOp (keeps_ite (keeps_raiseDone (keeps_endOp hk)) hk)

theorem keeps_cycleSucceeds : Keeps u (cycleSucceeds s) := by
  refine keeps_ite (keeps_onStart hk) ?_
  dsimp only
  split
  · exact keeps_cutSucceeded (keeps_endCut hk)
  · exact keeps_endCut hk

theorem keeps_homeChanged {home : Bool} : Keeps u (homeChanged home s) :=
  keeps_ite (keeps_cycleSucceeds (keeps_onMech (keeps_onLevels hk))) (keeps_onMech (keeps_onLevels hk))

theorem keeps_quietJam : Keeps u (quietJam s) := by
  unfold quietJam
  dsimp only
  split
  · exact keeps_ite (keeps_meet (keeps_setPrint (keeps_endCut (keeps_driveOff hk)))) (keeps_setPrint (keeps_endCut (keeps_driveOff hk)))
  · exact keeps_endCut (keeps_driveOff hk)

theorem keeps_cycleTimesOut : Keeps u (cycleTimesOut s) :=
  keeps_ite (keeps_driveOff (keeps_onStart hk)) (keeps_ite (keeps_emergencyStop (keeps_raise hk)) (keeps_quietJam (keeps_raise hk)))

/-! ## The receiver -/

theorem keeps_huntAgain : Keeps u (huntAgain s) := keeps_onLink hk

theorem keeps_judgeFrame : Keeps u (judgeFrame s) := by
  unfold judgeFrame validFrame
  exact keeps_ite (keeps_linkFault (keeps_huntAgain hk)) (keeps_ite (keeps_linkFault (keeps_huntAgain hk))
    (keeps_onPower (keeps_onSilence (keeps_onLink (keeps_huntAgain hk)))))

theorem keeps_dropGap : Keeps u (dropGap s) := keeps_linkFault (keeps_huntAgain hk)

theorem keeps_beforeByte : Keeps u (beforeByte s) := keeps_ite (keeps_judgeFrame hk) (keeps_ite (keeps_dropGap hk) hk)

theorem keeps_receiveByte {b : Byte} {f : Bool} : Keeps u (receiveByte b f s) := by
  have hunts : Keeps u (huntByte b s) := keeps_ite (keeps_onLink hk) (keeps_ite (keeps_linkFault hk) hk)
  have taken : Keeps u (takeFrameByte b s) := keeps_ite (keeps_linkFault (keeps_huntAgain hk))
    (keeps_ite (keeps_linkFault (keeps_huntAgain hk)) (keeps_onLink hk))
  exact keeps_ite (keeps_ite (keeps_linkFault (keeps_huntAgain hk)) taken) (keeps_ite hk hunts)

theorem keeps_routeFrame {f : InFrame} : Keeps u (routeFrame f s) := by
  unfold routeFrame
  split
  · exact keeps_linkFault hk
  split
  · exact keeps_ite hk (keeps_mapLinkIn hk)
  · exact keeps_onJob hk

/-! ## The LINK-IN channel -/

omit hk in
theorem took_slot (rest : List Byte) (c : LinkIn) : (c.took rest).slot = c.slot ∧ (c.took rest).held = c.held := by
  unfold LinkIn.took; split <;> exact ⟨rfl, rfl⟩

theorem keeps_takeItem {rest : List Byte} : Keeps u (takeItem rest s) :=
  keeps_mapLinkIn hk (fun c _ h => (took_slot rest c).1 ▸ h) (fun c _ h => (took_slot rest c).2 ▸ h)

theorem keeps_holdReceived {h : Held} (hne : h.rest ≠ []) :
    Keeps u (onLinkIn (fun c => { c with reception := .waiting, held := some h }) s) := by
  refine Eased.keeps { Eased.refl s with linkPage := fun p hp => .inl ?_, linkHeld := fun x hx => .inr ?_ } hk
  · exact linkIn_bind_map (f := fun c => { c with reception := .waiting, held := some h }) (g := LinkIn.slot) (fun _ _ h => h) s.store.linkIn p hp
  · obtain ⟨c, hc, hx⟩ := Option.bind_eq_some_iff.1 hx
    obtain ⟨c', -, rfl⟩ := Option.map_eq_some_iff.1 hc
    cases hx; exact hne

theorem keeps_storeReceived {k slot : Nat} {record : List Byte} {c : Bool} (live : u.storeSound → (pageOf s slot).state ≠ .empty)
    (hrec : record ≠ []) : Keeps u (storeReceived k slot record c s) := by
  unfold storeReceived
  dsimp only
  split
  · next hfit => exact keeps_appendCommit hk live (fun _ => hrec) hfit
  · next hrest => exact keeps_meet (keeps_addWaiter (keeps_holdReceived (keeps_appendRest hk live hrest) hrest))

omit hk in
theorem reception_eq {k : Nat} {j : Job} {c : LinkIn} (h : reception s = some (k, j, c)) : jobIn s k = some j ∧ s.store.linkIn = some c := by
  unfold reception at h
  split at h <;> cases h
  exact ⟨receiveJob_eq (by assumption), by assumption⟩

theorem keeps_dropReceived {k : Nat} {c : LinkIn} : Keeps u (dropReceived k c s) := by
  refine keeps_dropJobLine (keeps_ite ?_ hk)
  split
  exacts [keeps_dropPageLine hk, hk]

theorem keeps_takeLine {record : List Byte} {conceals : Bool} (hrec : record ≠ []) : Keeps u (takeLine record conceals s) := by
  unfold takeLine
  split
  · exact hk
  next k j c h =>
    split
    next slot _ hslot =>
      split
      · exact keeps_dropAtLimit hk
      · refine keeps_storeReceived hk (fun hu => (hk.store hu).linkPage slot ?_) hrec
        rw [(reception_eq h).2]; exact hslot
    · exact keeps_dropReceived hk

theorem keeps_receiveLine : Keeps u (receiveLine s) := by
  unfold receiveLine
  split
  · next h => exact keeps_takeLine (keeps_takeItem hk) (headItem_ne_nil h)
  · exact keeps_takeLine (keeps_takeItem hk) (List.cons_ne_nil _ _)
  · exact hk

theorem keeps_endReceived : Keeps u (endReceived s) := by
  unfold endReceived
  split
  · exact hk
  next k j c h =>
    refine keeps_ite hk (keeps_onJob (keeps_mapLinkIn (f := fun c => { c with reception := .noPage, slot := none, held := none }) ?_
      (by exact fun _ _ h => nomatch h) (by exact fun _ _ h => nomatch h)) (by exact fun _ => rfl))
    split
    exacts [keeps_endPageNormally hk, hk]

/-- R41: LINK-IN comes to stand on the page begun. -/
theorem keeps_standLinkIn {w : PageWidth} {slot : Nat} (live : (pageOf s slot).state ≠ .empty) :
    Keeps u (onLinkIn (fun c => { c with reception := .receiving, width := w, slot := some slot }) s) := by
  refine Eased.keeps { Eased.refl s with linkPage := fun p hp => .inr ?_, linkHeld := fun x hx => .inl ?_ } hk
  · obtain ⟨c, hc, hp⟩ := Option.bind_eq_some_iff.1 hp
    obtain ⟨c', -, rfl⟩ := Option.map_eq_some_iff.1 hc
    cases hp; exact live
  · exact linkIn_bind_map (f := fun c => { c with reception := .receiving, width := w, slot := some slot }) (g := LinkIn.held) (fun _ _ h => h)
      s.store.linkIn x hx

theorem keeps_beginReceived {r : Resolution} {w : PageWidth} : Keeps u (beginReceived r w s) := by
  unfold beginReceived
  split
  · exact hk
  next k j c h =>
    split
    · next v hv =>
      obtain ⟨hs, live⟩ := startPage_keeps hv fun hl => hl.jobDoc k j (reception_eq h).1
      exact keeps_onJob (keeps_standLinkIn (hk.trans hs) live)
    · exact keeps_meet hk

theorem keeps_receiveBegin : Keeps u (receiveBegin s) := by
  unfold receiveBegin
  split
  · exact keeps_beginReceived (keeps_endReceived (keeps_takeItem hk))
  · exact hk

theorem keeps_receiveEnd : Keeps u (receiveEnd s) := by
  unfold receiveEnd
  split
  · exact keeps_endReceived (keeps_takeItem hk)
  · exact hk

theorem keeps_receiveLost : Keeps u (receiveLost s) := by
  unfold receiveLost
  split
  · exact keeps_ite (keeps_takeLine (keeps_linkFault (keeps_takeItem hk)) (List.cons_ne_nil _ _)) (keeps_linkFault (keeps_takeItem hk))
  · exact hk

/-! ## Resets -/

/-- R31, R81, R101: a reset leaves the blocks, the pages and the directory, and no job, no record and nobody on a page. -/
theorem keeps_resetBlocks {kind : ResetKind} : Keeps u (resetBlocks kind s) := by
  have noJob : ∀ n, some n ∉ jobDocs (resetBlocks kind s) := by simp [jobDocs, resetBlocks, WorkOrders.afterReset]
  refine Eased.keeps { Eased.refl s with
    users := fun n _ _ => by rw [List.count_eq_zero.2 (noJob n)]; exact Nat.zero_le _
    jobs := fun n h => absurd h (noJob n)
    scanPage := fun _ h => (nomatch h), linkPage := fun _ h => (nomatch h), printPage := fun _ h => (nomatch h), sendPage := fun _ h => (nomatch h)
    records := fun n r b h => ?_, scanHeld := fun _ h => (nomatch h), linkHeld := fun _ h => (nomatch h) } hk
  cases List.eq_of_mem_replicate h

theorem keeps_replySent : Keeps u (replySent s) := by
  refine keeps_ite (keeps_resetBlocks hk) (keeps_ite (keeps_enterDoze ?_) ?_) <;> exact keeps_onLink (keeps_onLink hk)

theorem keeps_dataOutSent {faults : ParityFaults} : Keeps u (dataOutSent faults s) := by
  unfold dataOutSent
  split
  · exact hk
  · exact keeps_frameSent (keeps_onLink (keeps_onLink (keeps_onFaults hk)))

theorem keeps_judge {a b : Bool} : Keeps u (judge a b s) := by
  unfold judge
  exact keeps_onStart (keeps_onSilence hk)

theorem keeps_loadSettings {answers : Bool} : Keeps u (loadSettings answers s) := by
  unfold loadSettings
  exact keeps_onStart (keeps_onSettings hk)

theorem keeps_beginHoming {l : Levels} : Keeps u (beginHoming l s) :=
  keeps_ite (keeps_onStart (keeps_onMech hk)) (keeps_ite (keeps_onStart (keeps_onMech hk)) (keeps_beginCycle (keeps_onStart (keeps_onMech hk))))

theorem keeps_beginStartCalibration {l : Levels} : Keeps u (beginStartCalibration l s) :=
  keeps_ite (keeps_onStart hk) (keeps_beginCalibration (keeps_onStart hk))

theorem keeps_raiseHeldAlarm : Keeps u (raiseHeldAlarm s) := keeps_ite (keeps_raise (keeps_onWake hk)) hk

theorem keeps_release : Keeps u (release s) := by
  unfold release
  have booted : ∀ {f g h d}, Keeps u (raise 0 d (((s.onStart f).onLink g).onStore (fun st => { st with low := h }))) :=
    keeps_raise (keeps_onStore (keeps_onLink (keeps_onStart hk)))
  exact keeps_raiseHeldAlarm (keeps_ite (keeps_raise booted) booted)

theorem keeps_endStore {r : StoreResult} {w : Writing} : Keeps u (endStore r w s) := by
  unfold endStore
  split <;> exact keeps_raiseDone (keeps_onSettings hk)

end

end Sys2Proof.Machine
end

section
/-! The commands keep the records and the lists, and so does every step outside the MEMORY phase (R24 to R29, R49 to R79, R195). -/

namespace Sys2Proof.Machine

-- One theorem at a time, as in the tests: a thread for each would exceed the memory allowed.
set_option Elab.async false

variable {s t u : State}

/-- What a verdict of DONE leaves keeps what `u` had. -/
def Verdict.keeps (u : State) (v : Verdict) : Prop := ∀ r, v = .ok r → Keeps u r.1

theorem Verdict.keeps_ok {data : List Byte} (h : Keeps u s) : Verdict.keeps u (.ok (s, data)) := fun _ hr => by cases hr; exact h

theorem Verdict.keeps_error {a : Answer} : Verdict.keeps u (.error a) := fun _ hr => nomatch hr

theorem Verdict.keeps_ite {c : Prop} [Decidable c] {a b : Verdict} (ha : Verdict.keeps u a) (hb : Verdict.keeps u b) :
    Verdict.keeps u (if c then a else b) := by
  split
  exacts [ha, hb]

/-- A check that refuses, or what follows it. -/
theorem Verdict.keeps_unless {c : Prop} [Decidable c] {a : Answer} {v : Verdict} (hv : Verdict.keeps u v) :
    Verdict.keeps u (if c then .error a else v) := Verdict.keeps_ite Verdict.keeps_error hv

section
variable (hk : Keeps u s)
include hk

theorem keeps_placeReply {c : Byte} {a : Answer} {data : List Byte} : Keeps u (placeReply c a data s) := keeps_beginSending (keeps_onLink hk)

theorem keeps_releaseCommand : Keeps u (releaseCommand s) := keeps_onLink hk

theorem keeps_event {due : Bool} {effect : State → State} (ht : event due effect s = .next t) (h : Keeps u (effect s)) : Keeps u t := by
  rcases event_cases ht with ⟨-, rfl⟩ | ⟨-, rfl⟩
  exacts [keeps_settle h, hk]

theorem keeps_jobEvent {due : Bool} {effect : State → State} (ht : jobEvent due effect s = .next t) (h : Keeps u (effect s)) : Keeps u t :=
  keeps_event hk ht (keeps_advance h)

/-- R195: a command step keeps what its verdict keeps. -/
theorem keeps_command {i : Instr} {judge : State → Verdict} (ht : command i judge s = .next t)
    (h : ∀ v, Keeps u v → Verdict.keeps u (judge v)) : Keeps u t := by
  refine keeps_event hk ht ?_
  have released := keeps_releaseCommand hk
  have judged := h _ released
  revert judged
  generalize judge (releaseCommand s) = v
  intro judged
  cases v with
  | ok r => exact keeps_placeReply (judged r rfl)
  | error a => exact keeps_placeReply released

/-- A command that answers with data alone (R195). -/
theorem keeps_report {i : Instr} {data : State → List Byte} (ht : command i (fun s => .ok (s, data s)) s = .next t) : Keeps u t :=
  keeps_command hk ht fun _ h => Verdict.keeps_ok h

/-! ## The documents (R24 to R29) -/

/-- A document with no page and no job becomes another with no page. -/
theorem keeps_resetDoc {n : Nat} {d : Document} (hp : d.pages = [])
    (free : u.storeSound → u.listsSound → (docOf s n).pages = [] ∧ some n ∉ jobDocs s) : Keeps u (onDoc n (fun _ => d) s) := by
  have doc : ∀ m, docOf (onDoc n (fun _ => d) s) m = docOf s m ∨ (m = n ∧ docOf (onDoc n (fun _ => d) s) m = d) := by
    intro m
    rw [docOf_onDoc_ite]
    split
    · next h => exact .inr ⟨h.1, rfl⟩
    · exact .inl rfl
  have rest : ∃ documents, onDoc n (fun _ => d) s = s.onStore (fun st => { st with documents := documents }) := by
    unfold onDoc
    split
    exacts [⟨s.store.documents, rfl⟩, ⟨_, rfl⟩]
  obtain ⟨documents, rest⟩ := rest
  rw [rest] at doc ⊢
  have listed : s.storeSound → ∀ m, ∀ p ∈ (docOf (s.onStore (fun st => { st with documents := documents })) m).pages,
      (pageOf s p).state ≠ .empty ∧ (pageOf s p).document = m := by
    intro hs m p hm
    rcases doc m with h | ⟨rfl, h⟩
    · rw [h] at hm; exact hs.listed m p hm
    · rw [h, hp] at hm; cases hm
  refine ⟨hk.dram, fun hu => { hk.store hu with listed := listed (hk.store hu) }, fun hu hl => ?_⟩
  obtain ⟨hnone, hjob⟩ := free hu hl
  have lists := hk.lists hu hl
  refine { lists with inList := fun p hm => ?_, once := fun m => ?_, emptyDoc := fun m hm => ?_, jobDoc := fun k j hj => ?_, users := fun m => ?_ }
  · have hin := lists.inList p hm
    rcases doc (pageOf s p).document with h | ⟨hn, h⟩
    · exact h ▸ hin
    · rw [hn, hnone] at hin; cases hin
  · rcases doc m with h | ⟨-, h⟩ <;> rw [h]
    · exact lists.once m
    · rw [hp]; exact List.nodup_nil
  · rcases doc m with h | ⟨-, h⟩ <;> rw [h] at hm ⊢
    · exact lists.emptyDoc m hm
    · exact hp
  · rcases doc j.document with h | ⟨hn, -⟩
    · rw [h]; exact lists.jobDoc k j hj
    · exact absurd (mem_jobDocs.2 ⟨k, j, hj, hn⟩) hjob
  · rcases doc m with h | ⟨rfl, -⟩
    · rw [h]; exact lists.users m
    · rw [users_eq_count]
      exact (List.count_eq_zero.2 hjob).le.trans (Nat.zero_le _)

theorem keeps_docCreate {o r w : Byte} : Verdict.keeps u (docCreate o r w s) := by
  unfold docCreate
  split
  · split
    next n hn =>
      refine Verdict.keeps_ok (keeps_resetDoc hk rfl fun hu hl => ?_)
      have hempty : (docOf s n).state = .empty := by
        obtain ⟨i, hi, rfl⟩ := Option.map_eq_some_iff.1 hn
        obtain ⟨-, he, -⟩ := (findIdx?_getD Document.blank).1 hi
        simpa [docOf] using he
      exact ⟨(hk.lists hu hl).emptyDoc n hempty, fun h => jobDoc_live (hk.lists hu hl) h hempty⟩
    · exact Verdict.keeps_error
  all_goals exact Verdict.keeps_error

theorem keeps_docClose {n : Nat} : Verdict.keeps u (docClose n s) :=
  Verdict.keeps_unless (Verdict.keeps_unless (Verdict.keeps_ok (keeps_advance (keeps_onDoc hk fun _ h => nomatch h))))

omit hk in
/-- R26: the pages of a document erased one after another leave its list. -/
theorem erasePages_listed {n : Nat} (l : List Nat) (hs : s.storeSound) (hsub : ∀ p ∈ (docOf s n).pages, p ∈ l) :
    (docOf (l.foldl (fun s p => erasePage p s) s) n).pages = [] := by
  induction l generalizing s with
  | nil => exact List.eq_nil_iff_forall_not_mem.2 fun p hp => nomatch hsub p hp
  | cons x xs ih =>
    refine ih ((keeps_erasePage (Keeps.refl s)).store hs) fun p hp => ?_
    rw [docOf_erasePage] at hp
    have hmem : p ∈ (docOf s n).pages ∧ (n = (pageOf s x).document → p ≠ x) := by
      split at hp
      · simp only [List.mem_filter, bne_iff_ne] at hp
        exact ⟨hp.1, fun _ => hp.2⟩
      · next hn => exact ⟨hp, fun h => absurd h hn⟩
    obtain ⟨hin, hne⟩ := hmem
    refine (List.mem_cons.1 (hsub p hin)).resolve_left fun h => hne ?_ h
    rw [← h]; exact (hs.listed n p hin).2.symm

omit hk in
theorem erasePages_jobs (l : List Nat) (s : State) : (l.foldl (fun s p => erasePage p s) s).jobs = s.jobs := by
  induction l generalizing s with
  | nil => rfl
  | cons x xs ih => exact (ih (erasePage x s)).trans (erasePage_jobs x s)

/-- R26: a document that no job uses. -/
theorem keeps_deleteDocument {n : Nat} (hu : (docOf s n).users = 0) : Keeps u (deleteDocument n s) := by
  refine keeps_resetDoc (keeps_foldl hk fun _ _ h => keeps_erasePage h) rfl fun hs hl => ⟨erasePages_listed _ (hk.store hs) fun _ h => h, ?_⟩
  have hjobs : jobDocs ((docOf s n).pages.foldl (fun s p => erasePage p s) s) = jobDocs s := by unfold jobDocs; rw [erasePages_jobs]
  rw [hjobs, ← List.count_eq_zero]
  have := (hk.lists hs hl).users n
  rw [users_eq_count, hu] at this
  exact Nat.le_zero.1 this

theorem keeps_docDelete {n : Nat} : Verdict.keeps u (docDelete n s) := by
  refine Verdict.keeps_unless ?_
  split
  · exact Verdict.keeps_error
  next h =>
    refine Verdict.keeps_ok (keeps_advance (keeps_deleteDocument hk ?_))
    simp only [not_or, Nat.not_lt, Nat.le_zero] at h
    exact h.1

theorem keeps_pageDrop {n i : Nat} : Verdict.keeps u (pageDrop n i s) := by
  unfold pageDrop
  split
  · exact Verdict.keeps_error
  · exact Verdict.keeps_unless (Verdict.keeps_ok (keeps_advance (keeps_erasePage hk)))

/-! ## JOB-START (R49 to R52) -/

omit hk in
/-- R52: the job slot filled adds its document to those of the jobs. -/
theorem jobDocs_fillSlot {k : Nat} (hslot : lowestFreeSlot s = some k) (j : Job) (n : Nat) :
    ((s.jobs.slots.set k (some j)).map (Option.map Job.document)).count (some n) =
      (jobDocs s).count (some n) + if n = j.document then 1 else 0 := by
  obtain ⟨hlt, hfree, -⟩ := (findIdx?_getD none).1 hslot
  have hnone : (jobDocs s)[k]? = some none := by
    rw [List.getD_eq_getElem _ _ hlt, Option.isNone_iff_eq_none] at hfree
    simp [jobDocs, hlt, hfree]
  obtain ⟨hlt', hget⟩ := List.getElem?_eq_some_iff.1 hnone
  have hset : (s.jobs.slots.set k (some j)).map (Option.map Job.document) = (jobDocs s).set k (some j.document) := by
    simp [jobDocs, List.map_set]
  rw [hset, List.count_set hlt', hget]
  by_cases hn : n = j.document
  · simp [hn]
  · simp [hn, Ne.symm hn]

/-- R50: the record of a job on a document that is not EMPTY, and the user it adds. -/
theorem keeps_fillSlot {k : Nat} {j : Job} (hslot : lowestFreeSlot s = some k) (hdoc : (docOf s j.document).state ≠ .empty) :
    Keeps u (fillSlot k j s) := by
  unfold fillSlot
  refine keeps_joinLists ?_
  generalize hv : s.onJobs _ = v
  have hdocs : ∀ n, (jobDocs v).count (some n) = (jobDocs s).count (some n) + if n = j.document then 1 else 0 := by
    intro n; rw [← hv]; exact jobDocs_fillSlot hslot j n
  have hdocument : docOf v = docOf s := by rw [← hv]; rfl
  generalize hf : (fun d : Document => { d with users := d.users + 1, writer := if j.kind.writes then some j.id else d.writer }) = f
  have doc : ∀ m, docOf (onDoc j.document f v) m = if m = j.document then f (docOf s m) else docOf s m := by
    intro m
    rw [docOf_onDoc_ite, hdocument]
    by_cases hm : m = j.document
    · subst hm
      obtain ⟨h₁, h₂⟩ := docOf_in_range hdoc
      rw [if_pos ⟨rfl, h₁, by rw [← hv]; exact h₂⟩, if_pos rfl]
    · rw [if_neg fun h => hm h.1, if_neg hm]
  have rest : ∃ documents, onDoc j.document f v = v.onStore (fun st => { st with documents := documents }) := by
    unfold onDoc
    split
    exacts [⟨v.store.documents, rfl⟩, ⟨_, rfl⟩]
  obtain ⟨documents, rest⟩ := rest
  have hjobs : jobDocs (onDoc j.document f v) = jobDocs v := by rw [rest]; rfl
  have pages : ∀ m, (docOf (onDoc j.document f v) m).pages = (docOf s m).pages := by
    intro m; rw [doc, ← hf]; split <;> rfl
  have state : ∀ m, (docOf (onDoc j.document f v) m).state = (docOf s m).state := by
    intro m; rw [doc, ← hf]; split <;> rfl
  have users : ∀ m, (docOf (onDoc j.document f v) m).users = (docOf s m).users + if m = j.document then 1 else 0 := by
    intro m; rw [doc, ← hf]; split <;> rfl
  have count : ∀ m, (jobDocs (onDoc j.document f v)).count (some m) = (jobDocs s).count (some m) + if m = j.document then 1 else 0 := by
    intro m; rw [hjobs]; exact hdocs m
  have jobs : ∀ m, some m ∈ jobDocs (onDoc j.document f v) → some m ∈ jobDocs s ∨ (docOf (onDoc j.document f v) m).state ≠ .empty := by
    intro m hm
    by_cases hn : m = j.document
    · rw [state, hn]; exact .inr hdoc
    · have := List.count_pos_iff.2 hm
      rw [count, if_neg hn] at this
      exact .inl (List.count_pos_iff.1 this)
  rw [rest] at pages state users count jobs ⊢
  refine Eased.keeps (s := s) ?_ hk
  rw [← hv] at pages state users count jobs ⊢
  exact { Eased.refl s with
    pages := pages, docs := fun m h => state m ▸ h, jobs := jobs
    users := fun m _ h => by rw [users, count]; exact Nat.add_le_add_right h _ }

omit hk in
theorem docExists_live {n : Nat} (h : docExists s n = true) : (docOf s n).state ≠ .empty := by
  simp only [docExists, Bool.and_eq_true, decide_eq_true_eq] at h
  exact h.2

omit hk in
/-- R51: the slot that passes the checks is the lowest free one, and the document exists. -/
theorem startChecks_ok {p : StartParams} {kind : JobKind} {k : Nat} (h : startChecks p kind s = .ok k) :
    lowestFreeSlot s = some k ∧ docExists s p.document = true := by
  unfold startChecks at h
  dsimp only at h
  split at h
  · cases h
  next k' hk' =>
    split at h
    · cases h
    next hd =>
      split at h
      · cases h
      split at h
      · cases h
      split at h <;> cases h
      exact ⟨hk', by simpa using hd⟩

theorem keeps_startJob {p : StartParams} : Verdict.keeps u (startJob p s) := by
  unfold startJob
  split
  · exact Verdict.keeps_error
  refine Verdict.keeps_unless ?_
  split
  · exact Verdict.keeps_error
  next k hc =>
    obtain ⟨hslot, hdoc⟩ := startChecks_ok hc
    exact Verdict.keeps_ok (keeps_advance (keeps_fillSlot hk hslot (docExists_live hdoc)))

/-! ## The answers (R64 to R73) -/

theorem keeps_carryFullMid {k : Nat} {j : Job} {c : Choice} : Keeps u (carryFullMid k j c s) := by
  unfold carryFullMid
  refine keeps_ite hk ?_
  split
  · exact keeps_onScanRest (keeps_onJob hk)
  · exact keeps_beginEject (keeps_discardScanPage hk)
  · exact keeps_beginEject (keeps_keepScanPage hk)

theorem keeps_carryFullStart {k : Nat} {j : Job} {c : Choice} : Keeps u (carryFullStart k j c s) := by
  unfold carryFullStart
  split
  · exact keeps_addWaiter (keeps_dropWaiter (keeps_onScanRest (keeps_onJob hk)))
  · exact keeps_endJob hk
  · exact keeps_ite (keeps_beginEject hk) (keeps_endJob hk)

theorem keeps_finishJam {k : Nat} {j : Job} : Keeps u (finishJam k j s) := by
  unfold finishJam
  split
  · exact keeps_afterEject hk
  · exact keeps_ite (keeps_beginEject hk) (keeps_endJob hk)

theorem keeps_finishPrint {k : Nat} {j : Job} : Keeps u (finishPrint k j s) := by
  have kept : Keeps u (keepScanPage (backToConsumed s)) := keeps_keepScanPage (keeps_backToConsumed hk)
  exact keeps_ite (keeps_ite hk (keeps_ite (keeps_onScanRest kept) (keeps_beginEject kept))) (keeps_endJob hk)

theorem keeps_carryPaper {k : Nat} {j : Job} {c : Choice} : Keeps u (carryPaper k j c s) := by
  unfold carryPaper
  split
  · exact keeps_backToConsumed hk
  · exact keeps_ite (keeps_setPrint (keeps_toStart hk)) (keeps_setPrint (keeps_whitenHistory hk))
  · exact keeps_moveOn (keeps_setPrint (keeps_leavePage (keeps_setPrint hk)))
  · exact keeps_finishPrint hk

theorem keeps_carryCut {k : Nat} {j : Job} {c : Choice} : Keeps u (carryCut k j c s) := by
  unfold carryCut
  split
  · exact keeps_setPrint hk
  · exact keeps_finishPrint hk

theorem keeps_carryChoice {k : Nat} {j : Job} {b : Boundary} {c : Choice} : Keeps u (carryChoice k j b c s) := by
  unfold carryChoice
  split
  · exact keeps_ite (keeps_carryFullMid hk) (keeps_carryFullStart hk)
  · exact keeps_ite (keeps_onScanRest hk) (keeps_finishJam hk)
  · exact keeps_carryPaper hk
  · exact keeps_carryCut hk
  · exact keeps_endJob hk
  · exact keeps_carryPageEnd hk

theorem keeps_takeAnswer {k : Nat} {j : Job} {b : Boundary} {c : Choice} : Keeps u (takeAnswer k j b c s) :=
  keeps_ite (keeps_raiseJob hk) (keeps_ite hk (keeps_advance (keeps_carryChoice (keeps_onJob hk))))

theorem keeps_answerJob {id c : Nat} : Verdict.keeps u (answerJob id c s) := by
  unfold answerJob
  split
  · exact Verdict.keeps_error
  split
  · exact Verdict.keeps_error
  refine Verdict.keeps_ite (Verdict.keeps_ok (keeps_advance (keeps_endJob hk))) (Verdict.keeps_unless ?_)
  split
  · exact Verdict.keeps_unless (Verdict.keeps_ok (keeps_takeAnswer hk))
  · exact Verdict.keeps_error

/-! ## The other job commands (R58 to R61, R78) -/

theorem keeps_holdJob {id : Nat} : Verdict.keeps u (holdJob id s) := by
  unfold holdJob
  split
  · exact Verdict.keeps_error
  · exact Verdict.keeps_ite (Verdict.keeps_ok (keeps_advance (keeps_stopJob hk))) Verdict.keeps_error

theorem keeps_resumed {k : Nat} {j : Job} : Keeps u (resumed k j s) := by
  have running : Keeps u (onJob k (fun x => { x with state := .running, compareDue := false }) s) := keeps_onJob hk
  exact keeps_ite (keeps_compareAtPageEnd (keeps_ite running (keeps_endIfDone running))) running

theorem keeps_resumeJob {id : Nat} : Verdict.keeps u (resumeJob id s) := by
  unfold resumeJob
  split
  · exact Verdict.keeps_error
  · exact Verdict.keeps_ite (Verdict.keeps_ok (keeps_advance (keeps_resumed hk))) Verdict.keeps_error

theorem keeps_abortJob {id : Nat} : Verdict.keeps u (abortJob id s) := by
  unfold abortJob
  split
  · exact Verdict.keeps_error
  · exact Verdict.keeps_ok (keeps_advance (keeps_endJob hk))

theorem keeps_sendCredit {id n : Nat} : Verdict.keeps u (sendCredit id n s) := by
  unfold sendCredit
  split
  · exact Verdict.keeps_error
  · exact Verdict.keeps_unless (Verdict.keeps_ok (keeps_advance (keeps_onJob hk)))

/-! ## The mechanism, the modes, the settings -/

theorem keeps_startCalibration : Keeps u (startCalibration s) := keeps_beginCalibration (keeps_enterActive (keeps_takeEngine hk))

theorem keeps_startEject : Keeps u (startEject s) := by
  unfold startEject
  exact keeps_onScanRest (keeps_enterActive (keeps_takeEngine hk))

theorem keeps_startAdvance {n : Nat} : Keeps u (startAdvance n s) := by
  unfold startAdvance
  exact keeps_enqueue (keeps_onMech (keeps_enterActive (keeps_takeEngine hk)))

theorem keeps_startCut : Keeps u (startCut s) := keeps_beginCycle (keeps_enterActive (keeps_takeEngine hk))

theorem keeps_modeSet {m : Nat} : Verdict.keeps u (modeSet m s) := by
  unfold modeSet
  split
  · exact Verdict.keeps_ok (keeps_enterActive (keeps_onPower hk))
  · exact Verdict.keeps_ite (Verdict.keeps_ok hk) (Verdict.keeps_unless (Verdict.keeps_ok (keeps_enterStandby hk)))
  · exact Verdict.keeps_unless (Verdict.keeps_ok (keeps_onLink hk))
  · exact Verdict.keeps_ok hk
  · exact Verdict.keeps_error

theorem keeps_alarmSet {n : Nat} : Verdict.keeps u (alarmSet n s) :=
  Verdict.keeps_unless (Verdict.keeps_ite (Verdict.keeps_ok (keeps_onWake hk)) (Verdict.keeps_ok (keeps_onWake hk)))

theorem keeps_settingSet {id v : Nat} : Verdict.keeps u (settingSet id v s) := by
  unfold settingSet
  split
  · exact Verdict.keeps_error
  · exact Verdict.keeps_unless (Verdict.keeps_unless (Verdict.keeps_unless (Verdict.keeps_ok (keeps_settingsEffect (keeps_onSettings hk)))))

theorem keeps_beginStore {op : StoreOp} : Keeps u (beginStore op s) := keeps_onSettings hk

theorem keeps_settingsDefault {option : Nat} : Verdict.keeps u (settingsDefault option s) := by
  have restored : Keeps u (s.onSettings Settings.restored) := keeps_onSettings hk
  exact Verdict.keeps_unless (Verdict.keeps_unless (Verdict.keeps_unless (Verdict.keeps_unless (Verdict.keeps_ite
    (Verdict.keeps_ok (keeps_settingsEffect restored)) (Verdict.keeps_ok (keeps_settingsEffect (keeps_beginStore (keeps_onSettings restored))))))))

end

end Sys2Proof.Machine
end

section
/-! The walks of the MEMORY phase: what they leave of the state (R173). -/

namespace Sys2Proof.Machine

-- One theorem at a time, as in the tests: a thread for each would exceed the memory allowed.
set_option Elab.async false

variable {s t u : State}

/-- R20, R173: only USED blocks have become SUSPECT and the recovered count has risen: the chains, their owners and the rest of the state
stand. -/
def SameChains (s t : State) : Prop :=
  ∃ blocks recovered, t = s.onStore (fun st => { st with blocks := blocks, recovered := recovered }) ∧
    blocks.length = s.store.blocks.length ∧
    ∀ b, (blockOf t b).next = (blockOf s b).next ∧ (blockOf t b).owner = (blockOf s b).owner ∧
      ((blockOf t b).inUse ↔ (blockOf s b).inUse)

theorem SameChains.refl (s : State) : SameChains s s := ⟨s.store.blocks, s.store.recovered, rfl, rfl, fun _ => ⟨rfl, rfl, .rfl⟩⟩

theorem SameChains.trans (a : SameChains s t) (b : SameChains t u) : SameChains s u := by
  obtain ⟨bl, r, rfl, hl, h⟩ := a
  obtain ⟨bl', r', rfl, hl', h'⟩ := b
  refine ⟨bl', r', rfl, hl'.trans hl, fun c => ?_⟩
  obtain ⟨hn, ho, hu⟩ := h c
  obtain ⟨hn', ho', hu'⟩ := h' c
  exact ⟨hn'.trans hn, ho'.trans ho, hu'.trans hu⟩

theorem sameChains_recovered (n : Nat) (s : State) : SameChains s (s.onStore (fun st => { st with recovered := n })) :=
  ⟨s.store.blocks, n, rfl, rfl, fun _ => ⟨rfl, rfl, .rfl⟩⟩

theorem sameChains_suspectBlocks (bs : List Nat) (s : State) : SameChains s (suspectBlocks bs s) := by
  refine List.foldlRecOn bs _ (motive := SameChains s) (.refl s) fun v h b _ => h.trans ?_
  refine ⟨_, v.store.recovered, rfl, length_modifyAt _ _ _, fun c => ?_⟩
  rw [blockOf_onBlock_ite]
  split
  · next hc =>
    rw [hc.1]
    split
    · next hu => exact ⟨rfl, rfl, by simp [Block.inUse, hu]⟩
    · exact ⟨rfl, rfl, .rfl⟩
  · exact ⟨rfl, rfl, .rfl⟩

/-- One record of a walk: its record ends the walk, or the walk goes on behind it (R173). -/
theorem walkLines_sameChains (chain : List Nat) (w : PageWidth) (n p done : Nat) (s : State) :
    SameChains s (walkLines chain w n p done s).1 := by
  induction n generalizing p done s with
  | zero => exact .refl s
  | succ n ih =>
    have recovered : SameChains s (if walkRecovered s.dramFaults chain p (bytesRead s.dramFaults chain p (walkRecord s chain w p)) then
        s.onStore (fun st => { st with recovered := satAdd 65535 st.recovered 1 }) else s) := by
      split
      exacts [sameChains_recovered _ s, .refl s]
    unfold walkLines
    dsimp only
    split
    · exact sameChains_suspectBlocks _ s
    · split
      · exact recovered.trans (ih _ _ _)
      · exact recovered

end Sys2Proof.Machine
end

section
/-! Every step keeps the page DRAM's form (R1, R8, R171), and outside the MEMORY phase the store's records and the lists (R5, R6, R8, R13, section 1.2). -/

namespace Sys2Proof.Machine

-- One theorem at a time, as in the tests: a thread for each would exceed the memory allowed.
set_option Elab.async false

variable {s t u : State}

/-- R24 to R209: every step but the end of the MEMORY phase. -/
theorem keeps_exec {i : Instr} (hk : Keeps u s) (hm : s.start.phase = .memory → ∀ a b l f, i ≠ .memoryPhaseEnd a b l f)
    (ht : exec i s = .next t) : Keeps u t := by
  cases i with
  | ping _ _ _ _ =>
    rw [exec_ping] at ht
    exact keeps_report hk ht
  | getEvents _ =>
    rw [exec_getEvents] at ht
    exact keeps_command hk ht fun v h => Verdict.keeps_ite (Verdict.keeps_ok (keeps_onEvents h)) (Verdict.keeps_ite (Verdict.keeps_ok (keeps_onEvents h)) Verdict.keeps_error)
  | eventMask _ =>
    rw [exec_eventMask] at ht
    exact keeps_command hk ht fun v h => Verdict.keeps_ok (keeps_onEvents h)
  | docCreate _ _ _ =>
    rw [exec_docCreate] at ht
    exact keeps_command hk ht fun _ h => keeps_docCreate h
  | docClose _ =>
    rw [exec_docClose] at ht
    exact keeps_command hk ht fun _ h => keeps_docClose h
  | docDelete _ =>
    rw [exec_docDelete] at ht
    exact keeps_command hk ht fun _ h => keeps_docDelete h
  | docInfo _ =>
    rw [exec_docInfo] at ht
    exact keeps_command hk ht fun _ h => Verdict.keeps_ite (Verdict.keeps_ok h) Verdict.keeps_error
  | docList =>
    rw [exec_docList] at ht
    exact keeps_report hk ht
  | pageInfo _ _ =>
    rw [exec_pageInfo] at ht
    refine keeps_command hk ht fun v h => ?_
    split
    exacts [Verdict.keeps_ok h, Verdict.keeps_error]
  | pageDrop _ _ =>
    rw [exec_pageDrop] at ht
    exact keeps_command hk ht fun _ h => keeps_pageDrop h
  | storeStatus =>
    rw [exec_storeStatus] at ht
    exact keeps_report hk ht
  | jobStart _ _ _ _ _ _ _ _ =>
    rw [exec_jobStart] at ht
    exact keeps_command hk ht fun _ h => keeps_startJob h
  | jobAnswer _ _ =>
    rw [exec_jobAnswer] at ht
    exact keeps_command hk ht fun _ h => keeps_answerJob h
  | jobHold _ =>
    rw [exec_jobHold] at ht
    exact keeps_command hk ht fun _ h => keeps_holdJob h
  | jobResume _ =>
    rw [exec_jobResume] at ht
    exact keeps_command hk ht fun _ h => keeps_resumeJob h
  | jobAbort _ =>
    rw [exec_jobAbort] at ht
    exact keeps_command hk ht fun _ h => keeps_abortJob h
  | jobStatus _ =>
    rw [exec_jobStatus] at ht
    refine keeps_command hk ht fun v h => ?_
    split
    exacts [Verdict.keeps_ok h, Verdict.keeps_error]
  | sendCredit _ _ =>
    rw [exec_sendCredit] at ht
    exact keeps_command hk ht fun _ h => keeps_sendCredit (keeps_onFaults h)
  | scanCalibrate =>
    rw [exec_scanCalibrate] at ht
    exact keeps_command hk ht fun _ h => Verdict.keeps_unless (Verdict.keeps_ok (keeps_startCalibration h))
  | docEject =>
    rw [exec_docEject] at ht
    exact keeps_command hk ht fun _ h => Verdict.keeps_unless (Verdict.keeps_ok (keeps_advance (keeps_startEject h)))
  | paperAdvance _ =>
    rw [exec_paperAdvance] at ht
    exact keeps_command hk ht fun _ h => Verdict.keeps_unless (Verdict.keeps_unless (Verdict.keeps_ok (keeps_startAdvance h)))
  | cut =>
    rw [exec_cut] at ht
    exact keeps_command hk ht fun _ h => Verdict.keeps_unless (Verdict.keeps_ok (keeps_startCut h))
  | sensorRead =>
    rw [exec_sensorRead] at ht
    exact keeps_report hk ht
  | modeSet _ =>
    rw [exec_modeSet] at ht
    exact keeps_command hk ht fun _ h => keeps_modeSet h
  | alarmSet _ =>
    rw [exec_alarmSet] at ht
    exact keeps_command hk ht fun _ h => keeps_alarmSet h
  | alarmRead =>
    rw [exec_alarmRead] at ht
    exact keeps_report hk ht
  | settingGet _ =>
    rw [exec_settingGet] at ht
    refine keeps_command hk ht fun v h => ?_
    split
    exacts [Verdict.keeps_ok h, Verdict.keeps_error]
  | settingSet _ _ =>
    rw [exec_settingSet] at ht
    exact keeps_command hk ht fun _ h => keeps_settingSet h
  | settingsStore =>
    rw [exec_settingsStore] at ht
    exact keeps_command hk ht fun _ h => Verdict.keeps_unless (Verdict.keeps_unless (Verdict.keeps_ok (keeps_beginStore h)))
  | settingsDefault _ =>
    rw [exec_settingsDefault] at ht
    exact keeps_command hk ht fun _ h => keeps_settingsDefault h
  | settingsProtect =>
    rw [exec_settingsProtect] at ht
    exact keeps_command hk ht fun _ h => Verdict.keeps_unless (Verdict.keeps_ok (keeps_beginStore (keeps_onSettings h)))
  | bootReport =>
    rw [exec_bootReport] at ht
    exact keeps_report hk ht
  | clearCauses =>
    rw [exec_clearCauses] at ht
    exact keeps_command hk ht fun _ h => Verdict.keeps_ok (keeps_onSilence (keeps_onStart h))
  | restart =>
    rw [exec_restart] at ht
    exact keeps_command hk ht fun _ h => Verdict.keeps_unless (Verdict.keeps_ok (keeps_onLink h))
  | unknownCommand _ =>
    rw [exec_unknownCommand] at ht
    exact keeps_event hk ht (keeps_placeReply (keeps_releaseCommand hk))
  | frameReceived =>
    rw [exec_frameReceived] at ht
    exact keeps_event hk ht (keeps_judgeFrame hk)
  | frameGapTimeout =>
    rw [exec_frameGapTimeout] at ht
    exact keeps_event hk ht (keeps_dropGap hk)
  | dataInRouting =>
    rw [exec_dataInRouting] at ht
    refine keeps_event hk ht ?_
    split
    exacts [keeps_routeFrame (keeps_onLink hk), hk]
  | receivedLineRecord =>
    rw [exec_receivedLineRecord] at ht
    exact keeps_jobEvent hk ht (keeps_receiveLine hk)
  | receivedPageBegin =>
    rw [exec_receivedPageBegin] at ht
    exact keeps_jobEvent hk ht (keeps_receiveBegin hk)
  | receivedPageEnd =>
    rw [exec_receivedPageEnd] at ht
    exact keeps_jobEvent hk ht (keeps_receiveEnd hk)
  | undelimitableItem =>
    rw [exec_undelimitableItem] at ht
    exact keeps_jobEvent hk ht (keeps_receiveLost hk)
  | replySent =>
    rw [exec_replySent] at ht
    exact keeps_event hk ht (keeps_replySent hk)
  | dataOutSent _ =>
    rw [exec_dataOutSent] at ht
    exact keeps_jobEvent hk ht (keeps_dataOutSent hk)
  | scanLineEntryAdmit =>
    rw [exec_scanLineEntryAdmit] at ht
    exact keeps_jobEvent hk ht (keeps_admitScanLine hk)
  | scanLineCaptured _ =>
    rw [exec_scanLineCaptured] at ht
    exact keeps_event hk ht (keeps_endCapture hk)
  | spanCodeLine =>
    rw [exec_spanCodeLine] at ht
    exact keeps_event hk ht (keeps_codeCaptured hk)
  | scanInTakeRecord =>
    rw [exec_scanInTakeRecord] at ht
    exact keeps_jobEvent hk ht (keeps_takeScanned hk)
  | lampWarm =>
    rw [exec_lampWarm] at ht
    exact keeps_jobEvent hk ht (keeps_onScanRest hk)
  | calibrationCaptureEnd _ =>
    rw [exec_calibrationCaptureEnd] at ht
    exact keeps_jobEvent hk ht (keeps_endCalibrationLine hk)
  | motionBegin _ =>
    rw [exec_motionBegin] at ht
    exact keeps_jobEvent hk ht (keeps_beginMotion hk)
  | feedStep _ =>
    rw [exec_feedStep] at ht
    exact keeps_jobEvent hk ht (keeps_takeStep hk)
  | motorRest _ =>
    rw [exec_motorRest] at ht
    exact keeps_jobEvent hk ht (keeps_onFeed hk)
  | energizingEnd _ =>
    rw [exec_energizingEnd] at ht
    exact keeps_jobEvent hk ht (keeps_endEnergizing hk)
  | holdDelayExpiry _ =>
    rw [exec_holdDelayExpiry] at ht
    exact keeps_event hk ht (keeps_setCurrent hk)
  | offDelayExpiry _ =>
    rw [exec_offDelayExpiry] at ht
    exact keeps_event hk ht (keeps_setCurrent hk)
  | pwmPeriodEnd _ =>
    rw [exec_pwmPeriodEnd] at ht
    exact keeps_event hk ht (by unfold endPeriod onGenerator; exact keeps_onMech hk)
  | docEntryChange _ =>
    rw [exec_docEntryChange] at ht
    exact keeps_jobEvent hk ht (keeps_wakeCause (keeps_raiseSensor (keeps_onLevels hk)))
  | docReadChange _ =>
    rw [exec_docReadChange] at ht
    exact keeps_jobEvent hk ht (keeps_docRead (keeps_onLevels hk))
  | paperChange _ =>
    rw [exec_paperChange] at ht
    exact keeps_jobEvent hk ht (keeps_wakeCause (keeps_raiseSensor (keeps_onLevels hk)))
  | coverChange _ =>
    rw [exec_coverChange] at ht
    exact keeps_jobEvent hk ht (keeps_wakeCause (keeps_ite (keeps_coverOpens (keeps_onLevels hk)) (keeps_coverCloses (keeps_onLevels hk))))
  | cutterHomeChange _ =>
    rw [exec_cutterHomeChange] at ht
    exact keeps_jobEvent hk ht (keeps_homeChanged hk)
  | wakeKeyChange _ =>
    rw [exec_wakeKeyChange] at ht
    exact keeps_event hk ht (keeps_ite (keeps_wakeCause (keeps_onLevels hk)) (keeps_onLevels hk))
  | cutterTimeout =>
    rw [exec_cutterTimeout] at ht
    exact keeps_jobEvent hk ht (keeps_cycleTimesOut hk)
  | printLineOffer _ _ _ =>
    rw [exec_printLineOffer] at ht
    exact keeps_jobEvent hk ht (keeps_offerLine (keeps_onFaults hk))
  | strobeSubpulseEnd =>
    rw [exec_strobeSubpulseEnd] at ht
    exact keeps_jobEvent hk ht (keeps_endSubpulse hk)
  | headTimerLimit =>
    rw [exec_headTimerLimit] at ht
    exact keeps_jobEvent hk ht (keeps_endSubpulse hk)
  | headReady =>
    rw [exec_headReady] at ht
    exact keeps_event hk ht (keeps_onEnergy hk)
  | converterTimedSample _ _ =>
    rw [exec_converterTimedSample] at ht
    exact keeps_jobEvent hk ht (keeps_onEnergy (keeps_takeSamples hk))
  | idleCountExpiry =>
    rw [exec_idleCountExpiry] at ht
    exact keeps_event hk ht (keeps_enterStandby hk)
  | dozeCountExpiry =>
    rw [exec_dozeCountExpiry] at ht
    exact keeps_event hk ht (keeps_enterDoze hk)
  | linkReceiveEdge =>
    rw [exec_linkReceiveEdge] at ht
    exact keeps_event hk ht (keeps_wakeCause hk)
  | wakingEnd =>
    rw [exec_wakingEnd] at ht
    exact keeps_event hk ht (keeps_reachStandby hk)
  | ringPulse =>
    rw [exec_ringPulse] at ht
    exact keeps_event hk ht (keeps_takePulse (keeps_ringOverdue hk))
  | ringBurstEnd =>
    rw [exec_ringBurstEnd] at ht
    exact keeps_event hk ht (keeps_judgeBurst hk)
  | ringGapExpiry =>
    rw [exec_ringGapExpiry] at ht
    exact keeps_event hk ht (keeps_ringStops hk)
  | alarmExpiry =>
    rw [exec_alarmExpiry] at ht
    exact keeps_event hk ht (keeps_alarmExpires hk)
  | silenceFirstExpiry =>
    rw [exec_silenceFirstExpiry] at ht
    exact keeps_jobEvent hk ht (keeps_firstExpiry hk)
  | silenceSecondExpiry =>
    rw [exec_silenceSecondExpiry] at ht
    exact keeps_jobEvent hk ht (keeps_secondExpiry hk)
  | hostrstPulseEnd =>
    rw [exec_hostrstPulseEnd] at ht
    exact keeps_event hk ht (keeps_onLink (keeps_onSilence hk))
  | batteryCheck _ =>
    rw [exec_batteryCheck] at ht
    exact keeps_event hk ht (keeps_readBattery hk)
  | powerOnReset =>
    rw [exec_powerOnReset] at ht
    exact keeps_event hk ht (keeps_onStart (keeps_resetBlocks hk))
  | supplyDropReset =>
    rw [exec_supplyDropReset] at ht
    exact keeps_event hk ht (keeps_onStart (keeps_resetBlocks hk))
  | supplyBelowPowerOff =>
    rw [exec_supplyBelowPowerOff] at ht
    exact keeps_event hk ht (keeps_resetBlocks hk)
  | pinReset =>
    rw [exec_pinReset] at ht
    exact keeps_event hk ht (keeps_resetBlocks hk)
  | resetEnd _ _ _ _ =>
    rw [exec_resetEnd] at ht
    exact keeps_event hk ht (keeps_judge (keeps_onLink hk))
  | settingsPhaseEnd _ =>
    rw [exec_settingsPhaseEnd] at ht
    exact keeps_event hk ht (keeps_loadSettings hk)
  | memoryPhaseEnd _ _ _ _ =>
    rw [exec_memoryPhaseEnd, event_idle (by simpa using fun h => hm h _ _ _ _ rfl)] at ht
    cases ht; exact hk
  | mechanismPhaseEnd =>
    rw [exec_mechanismPhaseEnd] at ht
    exact keeps_event hk ht (keeps_release hk)
  | settingsStoreEnd _ =>
    rw [exec_settingsStoreEnd] at ht
    refine keeps_event hk ht ?_
    split
    exacts [keeps_endStore hk, hk]
  | linkByteReceived _ _ =>
    rw [exec_linkByteReceived] at ht
    exact keeps_event hk ht (keeps_receiveByte (keeps_beforeByte hk))
  | mechanismLevelsTaken _ =>
    rw [exec_mechanismLevelsTaken] at ht
    exact keeps_event hk ht (keeps_beginStartCalibration (keeps_beginHoming (keeps_onStart (keeps_onLevels hk))))

/-- Every step outside the MEMORY phase; a microsecond of the clock is one (log 1). -/
theorem keeps_step (hm : s.start.phase ≠ .memory) (ht : step s = .next t) : Keeps s t := by
  unfold step at ht
  split at ht
  · next i rest _ => exact keeps_exec (keeps_of_same (t := { s with pending := rest }) (Keeps.refl s) rfl rfl rfl rfl) (fun h => absurd h hm) ht
  · cases ht; exact keeps_of_same (Keeps.refl s) rfl rfl rfl rfl

/-- Settles O59: every step outside MEMORY keeps what `Keeps` names, operation by operation. -/
theorem storeSoundKept : Obligations.StoreSoundKept := by
  unfold Obligations.StoreSoundKept
  exact ⟨fun s t hs hm ht => (keeps_step hm ht).store hs, fun s t hs hl hm ht => (keeps_step hm ht).lists hs hl⟩

/-! ## The MEMORY phase and the DRAM (R171 to R174) -/

theorem SameChains.dram (h : SameChains s t) : t.dram = s.dram := by
  obtain ⟨_, _, rfl, -⟩ := h; rfl

theorem walkPage_dram (v : Walks) (slot : Nat) : (walkPage v slot).state.dram = v.state.dram := by
  unfold walkPage
  dsimp only
  split
  · rfl
  split
  · rfl
  · exact (walkLines_sameChains _ _ _ _ _ _).dram

theorem walkAll_dram (s : State) : (walkAll s).state.dram = s.dram :=
  List.foldlRecOn (List.range s.store.pages.length) walkPage (motive := fun v => v.state.dram = s.dram) rfl
    fun v h slot _ => (walkPage_dram v slot).trans h

/-- R172 to R174: the walks read the DRAM and write none of it. -/
theorem buildRebuilt_dram (faults : ParityFaults) (s : State) : (buildRebuilt faults s).dram = s.dram := walkAll_dram _

theorem exec_dramWf {i : Instr} (hs : s.dramWf) (ht : exec i s = .next t) : t.dramWf := by
  by_cases hm : s.start.phase = .memory → ∀ a b l f, i ≠ .memoryPhaseEnd a b l f
  · exact (keeps_exec (Keeps.refl s) hm ht).dram hs
  · push Not at hm
    obtain ⟨hm, a, b, l, f, rfl⟩ := hm
    rw [exec_memoryPhaseEnd, event_due (by simpa using hm)] at ht
    cases ht
    show Memory.wf (if s.start.domainLost then buildFresh (sizeFound a b) l s else buildRebuilt f s).dram = true
    split
    · rfl
    · rw [buildRebuilt_dram]; exact hs

/-- Settles O19: the bytes stored keep the form (`memory_wf_storeBytes`), a FRESH build leaves no cell, and nothing else writes the DRAM. -/
theorem dramWfKept : Obligations.DramWfKept := by
  unfold Obligations.DramWfKept
  intro s t hs ht
  unfold step at ht
  split at ht
  · next i rest _ => exact exec_dramWf (s := { s with pending := rest }) hs ht
  · cases ht; exact hs

end Sys2Proof.Machine
end

section
/-! The page store's operations (O16 to O18): DRAM bytes, blocks taken and freed, page starts. -/

namespace Sys2Proof.Machine

-- One theorem at a time, as in the tests: a thread for each would exceed the memory allowed.
set_option Elab.async false

variable {s t u : State}

/-! ## The DRAM (R1, R8) -/

theorem dramByte_dramWrite {m : List Host.Cell} (h : Memory.wf m = true) (a : Nat) (bs : List Byte) (x : Nat) :
    dramByte (dramWrite m a bs) x = if a ≤ x ∧ x < a + bs.length then bs.getD (x - a) 0 else dramByte m x := by
  induction bs generalizing m a with
  | nil => rw [if_neg (by simp)]; rfl
  | cons b bs ih =>
    have put := dramByte_dramPut a b x ((memory_wf_iff m).1 h)
    refine (ih (memory_wf_dramPut m a b h) (a + 1)).trans ?_
    rw [put]
    by_cases hx : x = a
    · subst hx; simp
    · by_cases hlt : a < x
      · obtain ⟨i, rfl⟩ : ∃ i, x = a + 1 + i := ⟨x - (a + 1), by omega⟩
        have hi : a + 1 + i - a = i + 1 := by omega
        simp only [hi, List.getD_cons_succ, List.length_cons, hx, if_false]
        refine if_congr ?_ (by simp) rfl
        constructor <;> rintro ⟨h₁, h₂⟩ <;> constructor <;> omega
      · rw [if_neg (by omega), if_neg hx, if_neg (by omega)]

/-- Settles O18. -/
theorem dramReadsBack : Obligations.DramReadsBack := by
  unfold Obligations.DramReadsBack
  exact fun a bs s h => ⟨memory_wf_storeBytes s a bs h, dramByte_dramWrite h a bs⟩

/-! ## Counts of blocks -/

theorem countP_modifyAt {α : Type} {p : α → Bool} {f : α → α} {i : Nat} {l : List α} {x : α} (h : l[i]? = some x) :
    (modifyAt i f l).countP p + (p x).toNat = l.countP p + (p (f x)).toNat := by
  induction l generalizing i with
  | nil => cases h
  | cons y ys ih =>
    cases i with
    | zero =>
      obtain rfl := Option.some.inj h
      simp only [modifyAt, List.countP_cons]
      cases p y <;> cases p (f y) <;> simp
    | succ i =>
      have := ih (i := i) h
      simp only [modifyAt, List.countP_cons]
      omega

theorem countP_modifyAt_eq {α : Type} {p : α → Bool} {f : α → α} (h : ∀ x, p (f x) = p x) (i : Nat) (l : List α) :
    (modifyAt i f l).countP p = l.countP p := by
  have := congrArg (List.countP id) (map_modifyAt_eq (g := p) h i l)
  simpa [List.countP_map, Function.comp_def] using this

theorem freeBlocks_eq (s : State) : freeBlocks s = s.store.blocks.countP (fun b => decide (b.state = .free)) :=
  List.countP_eq_length_filter.symm

theorem blockOf_some {b : Nat} (h : b < s.store.blocks.length) : s.store.blocks[b]? = some (blockOf s b) := by
  simp [blockOf, h]

/-! ## Blocks taken (R2, R17) -/

theorem onStore_low {x : Bool} (h : s.store.low = x) : s.onStore (fun st => { st with low := x }) = s := by subst h; rfl

/-- R17: an allocation can set the low condition and raise STORE, and changes nothing else. -/
theorem lowAfterTaking_eq (s : State) : ∃ f : Events → Events, lowAfterTaking s =
    (s.onStore (fun st => { st with low := s.store.low || decide (freeBlocks s < s.settings.lowWater) })).onEvents f := by
  unfold lowAfterTaking
  split
  · next h =>
    simp only [Bool.and_eq_true, Bool.not_eq_true'] at h
    rw [h.2, Bool.or_true]
    unfold raise
    split
    exacts [⟨_, rfl⟩, ⟨id, rfl⟩]
  · next h =>
    refine ⟨id, (onStore_low ?_).symm⟩
    cases hl : s.store.low <;> simp_all

/-- R2: the blocks after block `b` has become the page's last. -/
theorem blockOf_chainBlock {slot b : Nat} (hb : b < s.store.blocks.length) (c : Nat) :
    blockOf (chainBlock slot b s) c =
      if (pageOf s slot).blockCount ≠ 0 ∧ c = (pageOf s slot).lastBlock ∧ c < s.store.blocks.length then
        { (if c = b then ⟨.used, none, slot⟩ else blockOf s c) with next := some b }
      else if c = b then ⟨.used, none, slot⟩ else blockOf s c := by
  have first : blockOf (onBlock b (fun _ => ⟨.used, none, slot⟩) s) c = if c = b then ⟨.used, none, slot⟩ else blockOf s c := by
    rw [blockOf_onBlock_ite]; simp [hb]
  unfold chainBlock
  by_cases h : (pageOf s slot).blockCount = 0
  · simp only [h, if_true, ne_eq, not_true, false_and, if_false]
    exact first
  · simp only [h, if_false, ne_eq, not_false_iff, true_and]
    rw [blockOf_onBlock_ite]
    have hlen : (onBlock b (fun _ => ⟨.used, none, slot⟩) s).store.blocks.length = s.store.blocks.length := length_modifyAt _ _ _
    rw [hlen]
    by_cases hc : c = (pageOf s slot).lastBlock
    · subst hc; simp only [true_and, first]
    · simp only [hc, false_and, if_false, first]

theorem freeBlocks_chainBlock {slot b : Nat} (hb : b < s.store.blocks.length) (hfree : (blockOf s b).state = .free) :
    freeBlocks (chainBlock slot b s) + 1 = freeBlocks s := by
  have first : freeBlocks (onBlock b (fun _ => ⟨.used, none, slot⟩) s) + 1 = freeBlocks s := by
    have : (onBlock b (fun _ => ⟨.used, none, slot⟩) s).store.blocks.countP _ + _ = _ := countP_modifyAt (p := fun b => decide (b.state = .free)) (f := fun _ => (⟨.used, none, slot⟩ : Block)) (blockOf_some hb)
    rw [freeBlocks_eq, freeBlocks_eq]
    simpa [hfree] using this
  unfold chainBlock
  split
  · exact first
  · rw [← first, freeBlocks_eq, freeBlocks_eq]
    refine congrArg (· + 1) (countP_modifyAt_eq (fun x => ?_) _ _)
    rfl

/-- R2: what an allocation comes to. -/
theorem allocate_eq {slot b : Nat} (h : lowestFree s = some b) :
    allocate slot s = some (lowAfterTaking (onPage slot (Page.withBlock b) (chainBlock slot b s))) := by
  unfold allocate; rw [h]; rfl

/-- R2: the first part: no block is FREE. -/
theorem allocate_none {slot : Nat} (h : ∀ b ∈ s.store.blocks, b.state ≠ .free) : allocate slot s = none := by
  unfold allocate lowestFree
  rw [List.findIdx?_eq_none_iff.2 fun b hb => by simpa using h b hb]; rfl

theorem chainBlock_rest (slot b : Nat) (s : State) :
    ∃ blocks, chainBlock slot b s = s.onStore (fun st => { st with blocks := blocks }) := by
  unfold chainBlock
  split <;> exact ⟨_, rfl⟩

/-- R3: what a freeing comes to. -/
theorem freeBlock_eq (b : Nat) (s : State) : freeBlock b s = (onBlock b Block.freed s).onStore (fun st => { st with
    low := s.store.low && !decide (s.settings.lowWater + 8 < freeBlocks (onBlock b Block.freed s)) }) := by
  unfold freeBlock lowAfterFreeing
  split
  · next h =>
    have h : decide (s.settings.lowWater + 8 < freeBlocks (onBlock b Block.freed s)) = true := h
    rw [h, Bool.not_true, Bool.and_false]
  · next h =>
    have h : decide (s.settings.lowWater + 8 < freeBlocks (onBlock b Block.freed s)) = false := decide_eq_false fun hc => h (decide_eq_true hc)
    rw [h, Bool.not_false, Bool.and_true]
    exact (onStore_low (s := onBlock b Block.freed s) rfl).symm

theorem freed_eq (b : Block) : b.freed =
    ⟨if b.state = .used then .free else if b.state = .suspect then .bad else b.state, none, b.owner⟩ := by
  unfold Block.freed
  cases b.state <;> rfl

/-- Settles O16: a taken block chained behind the page's last, a freed block by its state. -/
theorem blocksTakenAndFreed : Obligations.BlocksTakenAndFreed := by
  unfold Obligations.BlocksTakenAndFreed
  refine ⟨fun slot s h => allocate_none h, fun slot b s hslot hfree hb hlow hlast => ?_, fun b s hb => ?_⟩
  · have hl : lowestFree s = some b := lowestFree_eq.2 ⟨hb, hfree, hlow⟩
    refine ⟨_, allocate_eq hl, ?_⟩
    obtain ⟨f, he⟩ := lowAfterTaking_eq (onPage slot (Page.withBlock b) (chainBlock slot b s))
    have block := fun c => blockOf_chainBlock (slot := slot) hb c
    have count := freeBlocks_chainBlock (slot := slot) hb hfree
    obtain ⟨blocks, hc⟩ := chainBlock_rest slot b s
    rw [he]
    rw [hc] at block count ⊢
    refine ⟨(block b).trans ?_, ?_, fun hn hlt => (block _).trans ?_, fun c hcb hcl => (block c).trans ?_, fun p hp => ?_, count, rfl, rfl, rfl, rfl, rfl⟩
    · rcases hlast with h | h
      · simp [h]
      · simp [Ne.symm h]
    · exact (pageOf_onPage_ite _ slot slot _).trans (if_pos ⟨rfl, hslot⟩)
    · rw [if_pos ⟨hn, rfl, hlt⟩, if_neg ((hlast.resolve_left hn))]
    · rw [if_neg fun h => hcl.elim h.1 fun hne => hne h.2.1, if_neg hcb]
    · exact pageOf_onPage_ne hp
  · have low : freeBlocks (freeBlock b s) = freeBlocks (onBlock b Block.freed s) := by rw [freeBlock_eq]; rfl
    refine ⟨?_, fun c hc => ?_, ?_, ?_, ?_, ?_, ?_⟩
    · rw [blockOf_freeBlock]; simp [hb, freed_eq]
    · rw [blockOf_freeBlock]; simp [hc]
    · rw [low, freeBlock_eq]; rfl
    all_goals rw [freeBlock_eq]; rfl

/-! ## Page starts (R7) -/

/-- Settles O17: the three checks in their order, then the slot and its first block. -/
theorem pageStartChecks : Obligations.PageStartChecks := by
  unfold Obligations.PageStartChecks
  intro n r w far s
  have room : (docOf s n).pages.length < 64 → ¬Config.pagesPerDocument ≤ (docOf s n).pages.length := fun h => Nat.not_le.2 h
  refine ⟨fun h => ?_, fun hd hp => ?_, fun slot hd hs hf => ?_, fun slot b hd hs hf h1 hn => ?_⟩
  · unfold startPage
    exact if_pos h
  · unfold startPage lowestEmptyPage
    rw [if_neg (room hd), List.findIdx?_eq_none_iff.2 fun p h => by simpa using hp p h]
  · unfold startPage
    rw [if_neg (room hd), hs, hf]; rfl
  · have hopen : startPage n r w far s = .ok (slot, (allocate slot (openPage n r w far slot s)).getD (openPage n r w far slot s)) := by
      unfold startPage
      rw [if_neg (room hd), hs]
      dsimp only
      rw [hf]; rfl
    obtain ⟨hr, hempty, -⟩ := lowestEmptyPage_eq.1 hs
    obtain ⟨hb, hbf, hbl⟩ := lowestFree_eq.1 hf
    have page := fun p => pageOf_openPage (n := n) (r := r) (w := w) (far := far) p hr
    have doc := docOf_openPage n r w far slot n s
    obtain ⟨pages, documents, hrest⟩ := openPage_rest n r w far slot s
    have started := page slot
    rw [if_pos rfl] at started
    obtain ⟨t, ht, hblock, hpage, -, -, -, -, -, hdocs, -⟩ := blocksTakenAndFreed.2.1 slot b (openPage n r w far slot s)
      (pageOf_in_range (by rw [started]; simp [Page.started])) (by rw [hrest]; exact hbf) (by rw [hrest]; exact hb)
      (by rw [hrest]; exact hbl) (by rw [started]; exact .inl rfl)
    rw [ht, Option.getD_some] at hopen
    refine ⟨t, hopen, hpage.trans (by rw [started]; rfl), ?_, hblock⟩
    have : docOf t n = docOf (openPage n r w far slot s) n := by unfold docOf; rw [hdocs]
    rw [this, doc, if_pos ⟨rfl, h1, hn⟩]

end Sys2Proof.Machine
end

section
/-! The Event Unit (O12), the reports (O10), a DATA-OUT frame sent (O26), the values of a reset (O45). -/

namespace Sys2Proof.Machine

-- One theorem at a time, as in the tests: a thread for each would exceed the memory allowed.
set_option Elab.async false

variable {s t u : State}

/-! ## Records and counts (R198, R199) -/

theorem modifyAt_eq_set {α : Type} {f : α → α} {i : Nat} {l : List α} {x : α} (h : l[i]? = some x) : modifyAt i f l = l.set i (f x) := by
  induction l generalizing i with
  | nil => cases h
  | cons y ys ih =>
    cases i with
    | zero => rw [← Option.some.inj h]; rfl
    | succ i => exact congrArg (y :: ·) (ih h)

theorem raise_ready (n : Nat) (d : Detail) (h : s.start.phase = .ready) : raise n d s = s.onEvents (Events.raised n d) := if_pos h

theorem raise_unready (n : Nat) (d : Detail) (h : s.start.phase ≠ .ready) : raise n d s = s := if_neg h

/-- R199: a raise of a source whose record stands as `r`. -/
theorem raised_eq {n : Nat} {d : Detail} {e : Events} {r : Option Record} (h : e.pending[n]? = some r) :
    e.raised n d = { e with pending := e.pending.set n (some (Record.raised r d)) } := by
  unfold Events.raised; rw [modifyAt_eq_set h]

/-- R199: a value that only the latest raise may bring stays where it brings none. -/
theorem orElse_eq_ite {α : Type} (a b : Option α) : (a <|> b) = if a.isSome then a else b := by cases a <;> rfl

/-- Settles O12. -/
theorem eventRecordsAndFaultCounts : Obligations.EventRecordsAndFaultCounts := by
  unfold Obligations.EventRecordsAndFaultCounts
  refine ⟨fun n d s _ => ⟨raise_unready n d, fun hr h => ?_, fun r hr h => ?_⟩, ⟨fun _ _ => rfl, fun _ _ _ _ _ _ _ _ _ _ _ _ => rfl,
    fun _ _ _ _ _ _ => rfl, fun _ _ v _ _ => ?_, fun _ _ => rfl, fun a b => ?_, fun _ _ _ _ => rfl, fun _ _ => rfl,
    fun _ _ _ _ _ _ => rfl, fun _ _ => rfl, fun _ _ _ _ _ _ => rfl, fun _ _ _ _ _ _ => rfl, fun _ _ _ _ _ _ => rfl⟩,
    fun s => ⟨rfl, rfl, rfl, rfl, rfl, rfl, rfl, rfl⟩⟩
  · rw [raise_ready n d hr, State.onEvents, raised_eq h]; rfl
  · rw [raise_ready n d hr, State.onEvents, raised_eq h]; rfl
  · cases v <;> rfl
  · simp only [Detail.merge, StoreDetail.merge, orElse_eq_ite, satAdd]

/-! ## Reports (R27 to R30, R79, R143, R159, R178, R182, R203) -/

/-- A command taken whose verdict on its own state is DONE. -/
theorem command_replied {i : Instr} {judge : State → Verdict} {data : List Byte} {c : Nat} (h : takes i s = true)
    (hc : commandCode i = some c) (hj : judge (releaseCommand s) = .ok (u, data)) :
    command i judge s = replied (BitVec.ofNat 8 c) data u := command_done h hc hj

/-- Settles O10: the release of the command's frame touches the link alone, and no report but PING reads the buffer. -/
theorem reportsChangeNothing : Obligations.ReportsChangeNothing := by
  unfold Obligations.ReportsChangeNothing
  intro s
  refine ⟨fun _ _ _ _ h => (exec_ping _ _ _ _ s).trans (command_replied h rfl rfl), fun d h hd => ?_,
    fun h => (exec_docList s).trans (command_replied h rfl rfl), fun d p slot h hp => ?_,
    fun h => (exec_storeStatus s).trans (command_replied h rfl rfl), fun b k j h hj => ?_,
    fun h => (exec_sensorRead s).trans (command_replied h rfl rfl), fun h => (exec_alarmRead s).trans (command_replied h rfl rfl),
    fun b place h hb => ?_, fun h => (exec_bootReport s).trans (command_replied h rfl rfl)⟩
  · exact (exec_docInfo d s).trans (command_replied h rfl (if_pos hd))
  · rw [exec_pageInfo]
    refine command_replied h rfl ?_
    rw [show namedPage (releaseCommand s) d.toNat p.toNat = some slot from hp]; rfl
  · rw [exec_jobStatus]
    refine command_replied h rfl ?_
    rw [show namedJob (releaseCommand s) b.toNat = some (k, j) from hj]; rfl
  · rw [exec_settingGet]
    refine command_replied h rfl ?_
    rw [hb]; rfl

/-! ## DATA-OUT (R14, R76, R197) -/

/-- Settles O26. -/
theorem dataOutFrameSent : Obligations.DataOutFrameSent := by
  unfold Obligations.DataOutFrameSent
  intro faults o s hr hs ho
  have due : (receiverRuns s && decide (s.link.sending = some .dataOut)) = true := by simp [hr, hs]
  have sent : dataOutSent faults s = frameSent o { s with
      dramFaults := faults
      link := { s.link with dataOut := none, sending := if s.link.reply.isSome then some .reply else none } } := by
    unfold dataOutSent
    rw [ho]; rfl
  rw [exec_dataOutSent, jobEvent_due due, sent]
  unfold frameSent
  refine ⟨fun h => by rw [h], fun k h hp => by rw [h, hp]; rfl, fun k h hp => by rw [h, hp]; rfl⟩

/-! ## Resets (R164) -/

/-- R187: the store of the settings that a reset cuts off. -/
theorem cutOff_eq (g : Settings) : g.cutOff = { g with
    writing := none, eeprom := if g.writing.isSome then .partlyWritten else g.eeprom } := by
  unfold Settings.cutOff
  obtain ⟨_, _, _, writing, _⟩ := g
  cases writing <;> rfl

/-- Settles O45. -/
theorem resetValues : Obligations.ResetValues := by
  unfold Obligations.ResetValues
  intro kind s t
  have settings : t.settings = _ := cutOff_eq s.settings
  rw [settings]
  and_intros
  all_goals rfl

end Sys2Proof.Machine
end

section
/-! A store with no page, and the invariants at reset (O3). -/

namespace Sys2Proof.Machine

-- One theorem at a time, as in the tests: a thread for each would exceed the memory allowed.
set_option Elab.async false

variable {s t u : State}

/-! ## A store with no page (R31, R171) -/

theorem getD_replicate_self {α : Type} (n i : Nat) (x : α) : (List.replicate n x).getD i x = x := by
  rw [List.getD_eq_getElem?_getD, List.getElem?_replicate]
  split <;> rfl

theorem pageOf_replicate {n : Nat} (h : s.store.pages = List.replicate n .blank) (p : Nat) : pageOf s p = .blank := by
  unfold pageOf; rw [h, getD_replicate_self]

theorem docOf_replicate {n : Nat} (h : s.store.documents = List.replicate n .blank) (m : Nat) : docOf s m = .blank := by
  unfold docOf
  split
  · rfl
  · rw [h, getD_replicate_self]

/-- No page, no document, no block in use. -/
structure State.storeBlank (s : State) : Prop where
  pages : ∀ p, pageOf s p = .blank
  documents : ∀ n, docOf s n = .blank
  blocks : ∀ b ∈ s.store.blocks, ¬b.inUse

theorem State.storeBlank.storeSound (h : s.storeBlank) (hscan : s.store.scanIn = ⟨none, none⟩) (hlink : s.store.linkIn = none)
    (hslots : s.scan.slots = List.replicate 16 .free) : s.storeSound := by
  refine storeSound_of (fun b hb => absurd hb (h.blocks _ (block_inUse_mem hb))) (fun n p hp => ?_) (fun p => ?_) ?_ ?_ (fun n r b hb => ?_) ?_ ?_
  · rw [h.documents] at hp; cases hp
  · rw [h.pages]; exact blank_sized
  · rw [hscan]; exact fun _ h => nomatch h
  · rw [hlink]; exact fun _ h => nomatch h
  · rw [hslots] at hb; cases List.eq_of_mem_replicate hb
  · rw [hscan]; exact fun _ h => nomatch h
  · rw [hlink]; exact fun _ h => nomatch h

/-- R48: no job slot is filled. -/
theorem noJobs (h : s.jobs.slots = [none, none, none, none]) : (∀ k, jobIn s k = none) ∧ ∀ n, (jobDocs s).count (some n) = 0 := by
  constructor
  · intro k
    unfold jobIn
    rw [h]
    match k with
    | 0 | 1 | 2 | 3 => rfl
    | n + 4 => rfl
  · intro n
    simp [jobDocs, h]

theorem State.storeBlank.listsSound (h : s.storeBlank) (hjobs : s.jobs.slots = [none, none, none, none])
    (hprint : s.store.printOut.slot = none) (hsend : s.store.linkOut.slot = none) : s.listsSound where
  inList p hp := absurd (by rw [h.pages]; rfl) hp
  once n := by rw [h.documents]; exact List.nodup_nil
  emptyDoc n _ := by rw [h.documents]; rfl
  jobDoc k j hj := by rw [(noJobs hjobs).1] at hj; cases hj
  users n := by rw [users_eq_count, (noJobs hjobs).2]; exact Nat.zero_le _
  printPage p hp := by rw [hprint] at hp; cases hp
  sendPage p hp := by rw [hsend] at hp; cases hp

/-! ## Reset -/

theorem reset_storeBlank : State.reset.storeBlank where
  pages := pageOf_replicate rfl
  documents := docOf_replicate rfl
  blocks b hb := by rw [List.eq_of_mem_replicate (show b ∈ List.replicate 512 .blank from hb)]; simp [Block.inUse, Block.blank]

theorem reset_holders (e : Engine) : holderOf State.reset e = .free := by cases e <;> rfl

theorem reset_jobsSound : State.reset.jobsSound where
  holds k j hj := by rw [(noJobs rfl).1] at hj; cases hj
  held e k h := by rw [reset_holders] at h; cases h
  waits e k h := by cases e <;> cases h
  rests k j hj := by rw [(noJobs rfl).1] at hj; cases hj
  driven m h := by cases m <;> cases h

theorem reset_powerSafe : State.reset.powerSafe where
  headInActive h := absurd h (by decide)
  readyNeedsHead h := absurd h (by decide)
  scanNeedsReady h := absurd h (by decide)
  printNeedsReady h := absurd h (by decide)
  strobeNeedsReady h := absurd h (by decide)
  dozeHasNoJob _ := rfl
  dozeFromStandby h := absurd h (by decide)
  fourSlots := rfl

theorem reset_settingsLegal : State.reset.settingsLegal := by
  constructor <;> decide +kernel

theorem reset_levelsSound : State.reset.levelsSound :=
  ⟨⟨fun _ => rfl, fun _ => rfl, Nat.zero_le _⟩, ⟨fun _ => rfl, fun _ => rfl, Nat.zero_le _⟩⟩

/-- Settles O3. -/
theorem invariantsAtReset : Obligations.InvariantsAtReset := by
  unfold Obligations.InvariantsAtReset
  exact ⟨⟨rfl, rfl⟩, reset_settingsLegal, reset_powerSafe, memory_wf_reset, reset_storeBlank.storeSound rfl rfl rfl,
    reset_storeBlank.listsSound rfl rfl rfl, reset_jobsSound, reset_levelsSound⟩

end Sys2Proof.Machine
end

section
/-! The commands on documents (O20). -/

namespace Sys2Proof.Machine

-- One theorem at a time, as in the tests: a thread for each would exceed the memory allowed.
set_option Elab.async false

variable {s t u : State}

/-! ## What a document's removal leaves (R3, R26, R29) -/

/-- A page erased owns no block. -/
theorem ownedBlocks_erasePage (slot p : Nat) (s : State) (h : p = slot ∨ ownedBlocks s p = []) : ownedBlocks (erasePage slot s) p = [] := by
  refine List.eq_nil_iff_forall_not_mem.2 fun b hb => ?_
  obtain ⟨hu, ho⟩ := mem_ownedBlocks.1 hb
  have hblock : blockOf (erasePage slot s) b = blockOf (freeBlocksOf (ownedBlocks s slot) (forgetPage slot s)) b := by
    rw [erasePage_eq]
    obtain ⟨_, _, he⟩ := blankPage_rest slot (freeBlocksOf (ownedBlocks s slot) (forgetPage slot s))
    rw [he]; rfl
  rw [hblock] at hu ho
  obtain ⟨hnot, he⟩ := freeBlocksOf_inUse hu
  rw [he] at hu ho
  have howned : b ∈ ownedBlocks s p := mem_ownedBlocks.2 ⟨hu, ho⟩
  rcases h with hp | h
  · exact hnot (hp ▸ howned)
  · rw [h] at howned; cases howned

/-- R26: the pages erased one after another. -/
theorem erasePages_does (l : List Nat) (s : State) (p : Nat) (h : p ∈ l ∨ (pageOf s p = .blank ∧ ownedBlocks s p = [])) :
    pageOf (l.foldl (fun s p => erasePage p s) s) p = .blank ∧ ownedBlocks (l.foldl (fun s p => erasePage p s) s) p = [] := by
  induction l generalizing s with
  | nil => exact h.resolve_left List.not_mem_nil
  | cons x xs ih =>
    refine ih (erasePage x s) ?_
    by_cases hx : p = x
    · exact .inr ⟨by rw [pageOf_erasePage, if_pos hx], ownedBlocks_erasePage x p s (.inl hx)⟩
    · rcases h with hm | ⟨hp, ho⟩
      · exact .inl ((List.mem_cons.1 hm).resolve_left hx)
      · exact .inr ⟨by rw [pageOf_erasePage, if_neg hx, hp], ownedBlocks_erasePage x p s (.inr ho)⟩

/-- R26. -/
theorem deleteDocument_page {n p : Nat} (h : p ∈ (docOf s n).pages) :
    pageOf (deleteDocument n s) p = .blank ∧ ownedBlocks (deleteDocument n s) p = [] := by
  obtain ⟨hp, ho⟩ := erasePages_does (docOf s n).pages s p (.inl h)
  unfold deleteDocument
  refine ⟨(pageOf_onDoc _ _ _ _).trans hp, ?_⟩
  refine List.eq_nil_iff_forall_not_mem.2 fun b hb => ?_
  obtain ⟨hu, hw⟩ := mem_ownedBlocks.1 hb
  rw [blockOf_onDoc] at hu hw
  have := mem_ownedBlocks.2 ⟨hu, hw⟩
  rw [ho] at this; cases this

/-- A number that names no directory slot reads as an EMPTY document. -/
theorem docOf_out_of_range {n : Nat} (h : ¬(1 ≤ n ∧ n ≤ s.store.documents.length)) : docOf s n = .blank := by
  unfold docOf
  split
  · rfl
  · exact List.getD_eq_default _ _ (by omega)

/-- R26. -/
theorem docOf_deleteDocument (n : Nat) (s : State) : docOf (deleteDocument n s) n = .blank := by
  unfold deleteDocument
  rw [docOf_onDoc_ite]
  split
  · rfl
  · next hn => exact docOf_out_of_range fun hr => hn ⟨rfl, hr⟩

/-! ## The checks (section 1.11) -/

theorem docExists_iff (s : State) (n : Nat) : docExists s n = true ↔ ¬(n = 0 ∨ 32 < n ∨ (docOf s n).state = .empty) := by
  have hslots : Config.documentSlots = 32 := rfl
  unfold docExists
  rw [hslots, Bool.and_eq_true, Bool.and_eq_true, decide_eq_true_iff, decide_eq_true_iff, decide_eq_true_iff, not_or, not_or,
    Nat.one_le_iff_ne_zero, Nat.not_lt, and_assoc]

theorem docExists_false {n : Nat} (h : n = 0 ∨ 32 < n ∨ (docOf s n).state = .empty) : docExists s n = false :=
  Bool.eq_false_iff.2 fun he => (docExists_iff s n).1 he h

theorem namedPage_iff (s : State) (n i slot : Nat) :
    namedPage s n i = some slot ↔ docExists s n = true ∧ i ≠ 0 ∧ (docOf s n).pages[i - 1]? = some slot := by
  unfold namedPage pageAt
  cases docExists s n <;> by_cases hi : i = 0 <;> simp [hi]

/-- Section 1.11: no page is named by a document or an index that names none. -/
theorem namedPage_none {n i : Nat} (h : docExists s n = false ∨ i = 0 ∨ (docOf s n).pages.length < i) : namedPage s n i = none := by
  refine Option.eq_none_iff_forall_ne_some.2 fun slot hs => ?_
  obtain ⟨he, hi, hp⟩ := (namedPage_iff s n i slot).1 hs
  obtain ⟨hlt, -⟩ := List.getElem?_eq_some_iff.1 hp
  rcases h with h | h | h
  · rw [h] at he; cases he
  · exact hi h
  · omega

theorem hasFilling_iff (s : State) (n : Nat) : hasFilling s n = true ↔ ∃ p ∈ (docOf s n).pages, (pageOf s p).state = .filling := by
  simp [hasFilling]

theorem lowestEmptyDocument_none (h : ∀ d ∈ s.store.documents, d.state ≠ .empty) : lowestEmptyDocument s = none := by
  unfold lowestEmptyDocument
  rw [List.findIdx?_eq_none_iff.2 fun d hd => by simpa using h d hd]; rfl

/-! ## The codes of a document's fields (R24) -/

theorem originOfCode_none : ∀ {c : Nat}, 2 < c → Origin.ofCode c = none
  | _ + 3, _ => rfl

theorem originOfCode_some {c : Nat} (h : c ≤ 2) : ∃ o, Origin.ofCode c = some o := by
  interval_cases c <;> exact ⟨_, rfl⟩

theorem resolutionOfCode_none : ∀ {c : Nat}, 2 < c → Resolution.ofCode c = none
  | _ + 3, _ => rfl

theorem resolutionOfCode_some {c : Nat} (h : c ≤ 2) : ∃ r, Resolution.ofCode c = some r := by
  interval_cases c <;> exact ⟨_, rfl⟩

theorem widthOfCode_none : ∀ {c : Nat}, 1 < c → PageWidth.ofCode c = none
  | _ + 2, _ => rfl

theorem widthOfCode_some {c : Nat} (h : c ≤ 1) : ∃ w, PageWidth.ofCode c = some w := by
  interval_cases c <;> exact ⟨_, rfl⟩

/-! ## The verdicts -/

theorem docClose_noSuch {n : Nat} (h : docExists s n = false) : docClose n s = .error .noSuch := if_pos (by simp [h])

theorem docClose_busy {n : Nat} (h : docExists s n = true) (ho : (docOf s n).state = .opened) (hw : (docOf s n).writer.isSome = true) :
    docClose n s = .error .busy := by simp [docClose, h, ho, hw]

theorem docClose_ok {n : Nat} (h : docExists s n = true) (hc : (docOf s n).state = .closed ∨ (docOf s n).writer = none) :
    docClose n s = .ok (advance (onDoc n (fun d => { d with state := .closed }) s), []) := by
  rcases hc with hc | hc <;> simp [docClose, h, hc]

theorem docDelete_noSuch {n : Nat} (h : docExists s n = false) : docDelete n s = .error .noSuch := if_pos (by simp [h])

theorem docDelete_busy {n : Nat} (h : docExists s n = true)
    (hu : 0 < (docOf s n).users ∨ ∃ p ∈ (docOf s n).pages, (pageOf s p).state = .filling) : docDelete n s = .error .busy := by
  unfold docDelete
  rw [if_neg (by simp [h]), if_pos (hu.imp_right (hasFilling_iff s n).2)]

theorem docDelete_ok {n : Nat} (h : docExists s n = true) (hu : (docOf s n).users = 0)
    (hf : ∀ p ∈ (docOf s n).pages, (pageOf s p).state ≠ .filling) : docDelete n s = .ok (advance (deleteDocument n s), []) := by
  unfold docDelete
  rw [if_neg (by simp [h]), if_neg]
  rintro (hu' | hf')
  · omega
  · obtain ⟨p, hp, hs⟩ := (hasFilling_iff s n).1 hf'
    exact hf p hp hs

theorem pageDrop_noSuch {n i : Nat} (h : namedPage s n i = none) : pageDrop n i s = .error .noSuch := by
  unfold pageDrop; rw [h]

theorem pageDrop_busy {n i slot : Nat} (h : namedPage s n i = some slot)
    (hu : 0 < (docOf s n).users ∨ ∃ p ∈ (docOf s n).pages, (pageOf s p).state = .filling) : pageDrop n i s = .error .busy := by
  unfold pageDrop
  rw [h]
  exact if_pos (hu.imp_right (hasFilling_iff s n).2)

theorem pageDrop_ok {n i slot : Nat} (h : namedPage s n i = some slot) (hu : (docOf s n).users = 0)
    (hf : ∀ p ∈ (docOf s n).pages, (pageOf s p).state ≠ .filling) : pageDrop n i s = .ok (advance (erasePage slot s), []) := by
  unfold pageDrop
  rw [h]
  refine if_neg ?_
  rintro (hu' | hf')
  · omega
  · obtain ⟨p, hp, hs⟩ := (hasFilling_iff s n).1 hf'
    exact hf p hp hs

theorem docCreate_ok {o r w : Byte} {o' : Origin} {r' : Resolution} {w' : PageWidth} {n : Nat} (ho : Origin.ofCode o.toNat = some o')
    (hr : Resolution.ofCode r.toNat = some r') (hw : PageWidth.ofCode w.toNat = some w') (hn : lowestEmptyDocument s = some n) :
    docCreate o r w s = .ok (onDoc n (fun _ => newDocument o' r' w') s, be1 n) := by
  unfold docCreate; rw [ho, hr, hw, hn]

/-- R24: a field out of its range is found before the directory is searched (log 92). -/
theorem docCreate_badParam {o r w : Byte} (h : 2 < o.toNat ∨ 2 < r.toNat ∨ 1 < w.toNat) : docCreate o r w s = .error .badParam := by
  unfold docCreate
  rcases h with h | h | h
  · rw [originOfCode_none h]
  · rw [resolutionOfCode_none h]; split <;> simp_all
  · rw [widthOfCode_none h]; split <;> simp_all

theorem docCreate_noRoom {o r w : Byte} (ho : o.toNat ≤ 2) (hr : r.toNat ≤ 2) (hw : w.toNat ≤ 1)
    (h : ∀ d ∈ s.store.documents, d.state ≠ .empty) : docCreate o r w s = .error .noRoom := by
  obtain ⟨o', ho⟩ := originOfCode_some ho
  obtain ⟨r', hr⟩ := resolutionOfCode_some hr
  obtain ⟨w', hw⟩ := widthOfCode_some hw
  unfold docCreate; rw [ho, hr, hw, lowestEmptyDocument_none h]

/-- A refused command (R196). -/
theorem command_refuses {i : Instr} {judge : State → Verdict} {a : Answer} {c : Nat} (h : takes i s = true)
    (hc : commandCode i = some c) (hj : judge (releaseCommand s) = .error a) :
    command i judge s = refused (BitVec.ofNat 8 c) a s := command_refused h hc hj

/-- Settles O20: each check passes or fails by what the document's record says, and the erasing of a page, alone or of a whole
document, leaves it neither record nor block. -/
theorem documentCommandsAct : Obligations.DocumentCommandsAct := by
  unfold Obligations.DocumentCommandsAct
  intro s
  refine ⟨fun o r w o' r' w' n ht ho hr hw hn => (exec_docCreate o r w s).trans (command_replied ht rfl (docCreate_ok ho hr hw hn)),
    fun d ht he hc => (exec_docClose d s).trans (command_replied ht rfl (docClose_ok he hc)),
    fun d ht he hu hf => ⟨(exec_docDelete d s).trans (command_replied ht rfl (docDelete_ok he hu hf)),
      docOf_deleteDocument d.toNat s, fun p hp => deleteDocument_page hp⟩,
    fun d i slot ht hp hu hf => ⟨(exec_pageDrop d i s).trans (command_replied ht rfl (pageDrop_ok hp hu hf)),
      (pageOf_erasePage slot slot s).trans (if_pos rfl), ownedBlocks_erasePage slot slot s (.inl rfl)⟩,
    fun o r w ht => ⟨fun hbad => (exec_docCreate o r w s).trans (command_refuses ht rfl (docCreate_badParam hbad)),
      fun ho hr hw hfull => (exec_docCreate o r w s).trans (command_refuses ht rfl (docCreate_noRoom ho hr hw hfull))⟩, ?_⟩
  intro d i absent pages used
  have hexists : docExists s d.toNat = true ↔ ¬absent := docExists_iff s d.toNat
  have hnone (hab : absent) : docExists s d.toNat = false := docExists_false hab
  have hnamed (slot : Nat) : namedPage s d.toNat i.toNat = some slot ↔ ¬absent ∧ i.toNat ≠ 0 ∧ pages[i.toNat - 1]? = some slot := by
    rw [namedPage_iff, hexists]
  have hunnamed (h : absent ∨ i.toNat = 0 ∨ pages.length < i.toNat) : namedPage s d.toNat i.toNat = none :=
    namedPage_none (h.imp_left hnone)
  refine ⟨hexists, hnamed, fun ht => ⟨?_, ?_⟩, fun ht => ⟨?_, ?_⟩, ?_, ?_, fun ht => ⟨?_, ?_⟩⟩
  · exact fun hab => (exec_docClose d s).trans (command_refuses ht rfl (docClose_noSuch (hnone hab)))
  · exact fun hab ho hw => (exec_docClose d s).trans (command_refuses ht rfl (docClose_busy (hexists.2 hab) ho hw))
  · exact fun hab => (exec_docDelete d s).trans (command_refuses ht rfl (docDelete_noSuch (hnone hab)))
  · exact fun hab hu => (exec_docDelete d s).trans (command_refuses ht rfl (docDelete_busy (hexists.2 hab) hu))
  · exact fun ht hab => (exec_docInfo d s).trans (command_refuses ht rfl (if_neg (Bool.eq_false_iff.1 (hnone hab))))
  · refine fun ht h => (exec_pageInfo d i s).trans (command_refuses ht rfl ?_)
    have hnot : namedPage (releaseCommand s) d.toNat i.toNat = none := hunnamed h
    rw [hnot]
  · exact fun h => (exec_pageDrop d i s).trans (command_refuses ht rfl (pageDrop_noSuch (hunnamed h)))
  · intro hab hi hl hu
    have hslot : namedPage s d.toNat i.toNat = some (pages[i.toNat - 1]'(by omega)) :=
      (hnamed _).2 ⟨hab, hi, List.getElem?_eq_getElem (by omega)⟩
    exact (exec_pageDrop d i s).trans (command_refuses ht rfl (pageDrop_busy hslot hu))

end Sys2Proof.Machine
end

section
/-! The reception of lines into the store (O23). -/

namespace Sys2Proof.Machine

-- One theorem at a time, as in the tests: a thread for each would exceed the memory allowed.
set_option Elab.async false

variable {s t u : State}

/-! ## A record appended (R8, R9) -/

/-- R2: the block just allocated holds no byte of the page. -/
theorem bytesUsed_allocate {slot : Nat} (h : allocate slot s = some t) : (pageOf t slot).bytesUsed = 0 := by
  by_cases hp : (pageOf t slot).state = .empty ∧ (pageOf t slot).bytesUsed = 0
  · exact hp.2
  obtain ⟨b, -, rfl⟩ := Option.map_eq_some_iff.1 h
  rw [pageOf_lowAfterTaking, linkBlock_eq, pageOf_onPage_ite]
  rw [pageOf_lowAfterTaking, linkBlock_eq, pageOf_onPage_ite] at hp
  split
  · rfl
  · next hr =>
    rw [if_neg hr] at hp
    refine absurd ?_ hp
    rw [pageOf_out_of_range (Nat.not_lt.1 fun hlt => hr ⟨rfl, hlt⟩)]
    exact ⟨rfl, rfl⟩

/-- R8: the record fits in the page's last block. -/
theorem appendRecord_fits {slot : Nat} {bs : List Byte} (h : (putBytes slot bs s).2 = []) :
    appendRecord slot bs s = ((putBytes slot bs s).1, []) := by
  rw [← h]; exact if_pos h

/-- R9: the record goes on in the block that follows, which takes all that is left of it. -/
theorem appendRecord_spans {slot : Nat} {bs : List Byte} (h : (putBytes slot bs s).2 ≠ []) (hl : bs.length ≤ 2048)
    (ha : allocate slot (putBytes slot bs s).1 = some t) :
    appendRecord slot bs s = ((putBytes slot (putBytes slot bs s).2 t).1, []) := by
  have hall : (putBytes slot (putBytes slot bs s).2 t).2 = [] := by
    show List.drop (2048 - (pageOf t slot).bytesUsed) (bs.drop (2048 - (pageOf s slot).bytesUsed)) = []
    rw [bytesUsed_allocate ha, List.drop_drop]
    exact List.drop_eq_nil_of_le (by omega)
  unfold appendRecord
  rw [if_neg h, ha, ← hall]

/-- R9: no block is FREE. -/
theorem appendRecord_waits {slot : Nat} {bs : List Byte} (h : (putBytes slot bs s).2 ≠ []) (ha : allocate slot (putBytes slot bs s).1 = none) :
    appendRecord slot bs s =
      (onPage slot (fun p => { p with part := bs.length - (putBytes slot bs s).2.length }) (putBytes slot bs s).1, (putBytes slot bs s).2) := by
  unfold appendRecord
  rw [if_neg h, ha]

theorem storeReceived_whole {k slot : Nat} {bs : List Byte} {c : Bool} (h : appendRecord slot bs s = (t, [])) :
    storeReceived k slot bs c s = commitRecord slot c t := by
  unfold storeReceived; rw [h]; exact if_pos rfl

theorem storeReceived_waits {k slot : Nat} {bs left : List Byte} {c : Bool} (hl : left ≠ []) (h : appendRecord slot bs s = (t, left)) :
    storeReceived k slot bs c s = meetRxFull k .blocks (addWaiter .linkRecord
      (onLinkIn (fun x => { x with reception := .waiting, held := some ⟨left, c⟩ }) t)) := by
  unfold storeReceived; rw [h]; exact if_neg hl

/-! ## The item taken from its frame (R194) -/

theorem took_reception (rest : List Byte) (c : LinkIn) : (c.took rest).reception = c.reception := by
  unfold LinkIn.took; split <;> rfl

/-- The state as it is judged for the item just taken: the channel's queue and the link's counts and records apart, it is the state
before. -/
structure ItemTaken (s u : State) : Prop where
  channel : ∃ rest, u.store.linkIn = s.store.linkIn.map (LinkIn.took rest)
  jobs : u.jobs = s.jobs
  pages : u.store.pages = s.store.pages
  documents : u.store.documents = s.store.documents
  settings : u.settings = s.settings

theorem itemTaken_takeItem (rest : List Byte) (s : State) : ItemTaken s (takeItem rest s) := ⟨⟨rest, rfl⟩, rfl, rfl, rfl, rfl⟩

theorem itemTaken_lost (s : State) : ItemTaken s (linkFault .badRecord (takeItem [] s)) := by
  unfold linkFault raise
  split <;> exact ⟨⟨[], rfl⟩, rfl, rfl, rfl, rfl⟩

namespace ItemTaken

theorem pageOf_eq (h : ItemTaken s u) (p : Nat) : pageOf u p = pageOf s p := by
  unfold pageOf; rw [h.pages]

theorem docOf_eq (h : ItemTaken s u) (n : Nat) : docOf u n = docOf s n := by
  unfold docOf; rw [h.documents]

theorem receiveJob_eq (h : ItemTaken s u) : receiveJob u = receiveJob s := by
  unfold receiveJob jobHolding holderOf jobIn; rw [h.jobs]

/-- The job, its slot and what its channel has of a page are those before. -/
theorem reception {k : Nat} {j : Job} {c : LinkIn} (h : ItemTaken s u) (hr : reception s = some (k, j, c)) :
    ∃ c', Machine.reception u = some (k, j, c') ∧ c'.reception = c.reception ∧ c'.slot = c.slot := by
  unfold Machine.reception at hr ⊢
  rw [h.receiveJob_eq]
  split at hr
  · next k' j' c' hj hc =>
    cases hr
    obtain ⟨rest, hrest⟩ := h.channel
    rw [hj, hrest, hc]
    exact ⟨_, rfl, took_reception rest c, (took_slot rest c).1⟩
  · cases hr

end ItemTaken

/-! ## What the channel does with a line (R38 to R43) -/

section
variable {k slot : Nat} {j : Job} {c : LinkIn} {record : List Byte} {conceals : Bool} (hr : reception s = some (k, j, c))
  (hu : ItemTaken s u)
include hr hu

theorem takeLine_stored (hc : c.reception = .receiving) (hs : c.slot = some slot)
    (hlim : (pageOf s slot).committed < s.settings.pageLineLimit) : takeLine record conceals u = storeReceived k slot record conceals u := by
  obtain ⟨c', hr', hc', hs'⟩ := hu.reception hr
  unfold takeLine
  rw [hr']
  dsimp only
  rw [hc', hs', hc, hs]
  refine if_neg ?_
  unfold atLineLimit
  rw [decide_eq_true_iff, hu.pageOf_eq, hu.settings]
  omega

theorem takeLine_atLimit (hc : c.reception = .receiving) (hs : c.slot = some slot)
    (hlim : s.settings.pageLineLimit ≤ (pageOf s slot).committed) : takeLine record conceals u = dropAtLimit slot u := by
  obtain ⟨c', hr', hc', hs'⟩ := hu.reception hr
  unfold takeLine
  rw [hr']
  dsimp only
  rw [hc', hs', hc, hs]
  refine if_pos ?_
  unfold atLineLimit
  rwa [decide_eq_true_iff, hu.pageOf_eq, hu.settings]

/-- R43: NO-PAGE, or a page gone from under the channel (log 45). -/
theorem takeLine_noPage (h : c.reception = .noPage ∨ c.slot = none) : takeLine record conceals u = dropJobLine k u := by
  obtain ⟨c', hr', hc', hs'⟩ := hu.reception hr
  have hdrop : dropReceived k c' u = dropJobLine k u := by
    unfold dropReceived
    rcases h with h | h
    · rw [hc', h]; rfl
    · rw [hs', h, ite_self]
  unfold takeLine
  rw [hr']
  dsimp only
  split
  · next h1 h2 =>
    rw [hc'] at h1
    rw [hs'] at h2
    rcases h with h | h
    · rw [h] at h1; cases h1
    · rw [h] at h2; cases h2
  · exact hdrop

theorem takeLine_discarding (hc : c.reception = .discarding) (hs : c.slot = some slot) :
    takeLine record conceals u = dropJobLine k (dropPageLine slot u) := by
  obtain ⟨c', hr', hc', hs'⟩ := hu.reception hr
  unfold takeLine
  rw [hr']
  dsimp only
  unfold dropReceived
  rw [hc', hs', hc, hs]
  rfl

end

/-! ## Markers (R41) -/

/-- What PAGE-END comes to, by the page that the channel has begun. -/
theorem endReceived_noPage {k : Nat} {j : Job} {c : LinkIn} (hr : reception u = some (k, j, c)) (hc : c.reception = .noPage) :
    endReceived u = u := by
  unfold endReceived; rw [hr]; exact if_pos hc

theorem endReceived_pageGone {k : Nat} {j : Job} {c : LinkIn} (hr : reception u = some (k, j, c)) (hc : c.reception ≠ .noPage)
    (hs : c.slot = none) :
    endReceived u = onJob k (Job.receivedPage false ((docOf u j.document).pages.length + 1))
      (onLinkIn (fun x => { x with reception := .noPage, slot := none, held := none }) u) := by
  unfold endReceived
  rw [hr]
  dsimp only
  rw [if_neg hc, hs]
  rfl

theorem endReceived_page {k slot : Nat} {j : Job} {c : LinkIn} (hr : reception u = some (k, j, c)) (hc : c.reception ≠ .noPage)
    (hs : c.slot = some slot) :
    endReceived u = onJob k (Job.receivedPage (decide ((pageOf u slot).state = .filling)) ((docOf u j.document).pages.length + 1))
      (onLinkIn (fun x => { x with reception := .noPage, slot := none, held := none }) (endPageNormally slot u)) := by
  unfold endReceived
  rw [hr]
  dsimp only
  rw [if_neg hc, hs]
  dsimp only
  unfold nextIndex endPageNormally
  rw [docOf_onPage]

theorem receiveJob_iff {k : Nat} {j : Job} : receiveJob s = some (k, j) ↔ jobHolding s .linkIn = some k ∧ jobIn s k = some j := by
  refine Iff.intro jobHeld_eq fun ⟨hk, hj⟩ => ?_
  unfold receiveJob
  rw [hk, Option.bind_some, hj]; rfl

theorem reception_iff {k : Nat} {j : Job} {c : LinkIn} :
    reception s = some (k, j, c) ↔ receiveJob s = some (k, j) ∧ s.store.linkIn = some c := by
  unfold reception
  split
  · next hj hc => rw [hj, hc]; simp [and_assoc]
  · next hno => exact ⟨fun h => (nomatch h), fun ⟨hj, hc⟩ => absurd hc (hno k j c hj)⟩

/-- What becomes of the job and of its channel where both are worked on. -/
theorem reception_onJob_onLinkIn {k : Nat} {j : Job} {c : LinkIn} (f : Job → Job) (g : LinkIn → LinkIn)
    (hr : reception u = some (k, j, c)) : reception (onJob k f (onLinkIn g u)) = some (k, f j, g c) := by
  obtain ⟨hj, hc⟩ := reception_iff.1 hr
  obtain ⟨hk, hj⟩ := receiveJob_iff.1 hj
  refine reception_iff.2 ⟨receiveJob_iff.2 ⟨hk, ?_⟩, ?_⟩
  · rw [jobIn_onJob, if_pos rfl]
    exact congrArg (Option.map f) hj
  · exact congrArg (Option.map g) hc

/-- R41: the end of a page leaves the job and its channel in place. -/
theorem reception_endReceived {k : Nat} {j : Job} {c : LinkIn} (hr : reception u = some (k, j, c)) :
    ∃ j' c', reception (endReceived u) = some (k, j', c') ∧ j'.document = j.document := by
  by_cases hc : c.reception = .noPage
  · exact ⟨j, c, by rw [endReceived_noPage hr hc, hr], rfl⟩
  cases hs : c.slot with
  | none =>
    rw [endReceived_pageGone hr hc hs]
    exact ⟨_, _, reception_onJob_onLinkIn _ _ hr, rfl⟩
  | some slot =>
    rw [endReceived_page hr hc hs]
    exact ⟨_, _, reception_onJob_onLinkIn _ _ (show reception (endPageNormally slot u) = _ from hr), rfl⟩

/-- The state in which the end of the page leaves the channel, by the page begun before the marker is taken. -/
def Ended (s u v : State) (k : Nat) (j : Job) (c : LinkIn) : Prop :=
  (c.reception = .noPage ∧ v = u) ∨
  (c.reception ≠ .noPage ∧ c.slot = none ∧ v = onJob k (Job.receivedPage false ((docOf s j.document).pages.length + 1))
    (onLinkIn (fun x => { x with reception := .noPage, slot := none, held := none }) u)) ∨
  (∃ slot, c.reception ≠ .noPage ∧ c.slot = some slot ∧
    v = onJob k (Job.receivedPage (decide ((pageOf s slot).state = .filling)) ((docOf s j.document).pages.length + 1))
      (onLinkIn (fun x => { x with reception := .noPage, slot := none, held := none }) (endPageNormally slot u)))

theorem endReceived_of_ended {v : State} {k : Nat} {j : Job} {c : LinkIn} (hr : reception s = some (k, j, c)) (hu : ItemTaken s u)
    (h : Ended s u v k j c) : endReceived u = v := by
  obtain ⟨c', hr', hc', hs'⟩ := hu.reception hr
  unfold Ended at h
  rw [← hc', ← hs'] at h
  rcases h with ⟨hc, rfl⟩ | ⟨hc, hs, rfl⟩ | ⟨slot, hc, hs, rfl⟩
  · exact endReceived_noPage hr' hc
  · rw [endReceived_pageGone hr' hc hs, hu.docOf_eq]
  · rw [endReceived_page hr' hc hs, hu.docOf_eq, hu.pageOf_eq]

theorem beginReceived_ok {k slot : Nat} {j : Job} {c : LinkIn} {r : Resolution} {w : PageWidth} (hr : reception s = some (k, j, c))
    (h : startPage j.document r w false s = .ok (slot, t)) :
    beginReceived r w s = onJob k (fun x => { x with currentPage := (docOf t j.document).pages.length })
      (onLinkIn (fun x => { x with reception := .receiving, width := w, slot := some slot }) t) := by
  unfold beginReceived
  rw [hr]
  dsimp only
  rw [h]

theorem beginReceived_error {k : Nat} {j : Job} {c : LinkIn} {r : Resolution} {w : PageWidth} {reason : FullReason}
    (hr : reception s = some (k, j, c)) (h : startPage j.document r w false s = .error reason) :
    beginReceived r w s = meetRxFull k reason s := by
  unfold beginReceived
  rw [hr]
  dsimp only
  rw [h]

/-! ## The events of the channel -/

theorem itemDue_true {sort : Received → Bool} {i : Received} (ht : channelTakes s = true) (hi : headItem s = some i) (hs : sort i = true) :
    itemDue sort s = true := by
  unfold itemDue; rw [ht, hi]; exact hs

/-- A line begins what is left of the head frame: the event that takes it, what is stored of it, whether that conceals, and the state
in which it is taken. -/
def LineTaken (s : State) (i : Instr) (record : List Byte) (conceals : Bool) (u : State) : Prop :=
  (∃ rest, i = .receivedLineRecord ∧ headItem s = some (.usable record rest) ∧ conceals = false ∧ u = takeItem rest s) ∨
  (∃ rest, i = .receivedLineRecord ∧ headItem s = some (.unusable rest) ∧ record = [0x01] ∧ conceals = true ∧
    u = takeItem rest s) ∨
  (i = .undelimitableItem ∧ headItem s = some (.lost true) ∧ record = [0x01] ∧ conceals = true ∧
    u = linkFault .badRecord (takeItem [] s))

/-- R38, R39, R40: each of the three is handed on the same way. -/
theorem exec_lineTaken {i : Instr} {record : List Byte} {conceals : Bool} (ht : channelTakes s = true)
    (h : LineTaken s i record conceals u) : exec i s = .next (settle (advance (takeLine record conceals u))) ∧ ItemTaken s u := by
  rcases h with ⟨rest, rfl, hi, rfl, rfl⟩ | ⟨rest, rfl, hi, rfl, rfl, rfl⟩ | ⟨rfl, hi, rfl, rfl, rfl⟩
  · have he : receiveLine s = takeLine record false (takeItem rest s) := by unfold receiveLine; rw [hi]
    exact ⟨he ▸ jobEvent_due (itemDue_true ht hi rfl), itemTaken_takeItem rest s⟩
  · have he : receiveLine s = takeLine [0x01] true (takeItem rest s) := by unfold receiveLine; rw [hi]; rfl
    exact ⟨he ▸ jobEvent_due (itemDue_true ht hi rfl), itemTaken_takeItem rest s⟩
  · have he : receiveLost s = takeLine [0x01] true (linkFault .badRecord (takeItem [] s)) := by unfold receiveLost; rw [hi]; rfl
    exact ⟨he ▸ jobEvent_due (itemDue_true ht hi rfl), itemTaken_lost s⟩

/-- Settles O23: what is taken from the frame leaves page, job and channel as they stood, so the channel judges the line or the
marker by the state before it; the storing is by the record's fit in the page's last block. -/
theorem receivedItemsTaken : Obligations.ReceivedItemsTaken := by
  unfold Obligations.ReceivedItemsTaken
  intro k j c s ht hr line ended
  refine ⟨?_, ?_, ?_, ?_, ?_, ?_, ?_, ?_⟩
  · intro i record conceals u slot hline hc hs hlim first left
    obtain ⟨hexec, hu⟩ := exec_lineTaken ht hline
    have hleft : left = first.2 := by
      show _ = List.drop (2048 - (pageOf u slot).bytesUsed) record
      rw [hu.pageOf_eq]
    rw [takeLine_stored hr hu hc hs hlim] at hexec
    rw [hleft]
    refine ⟨fun hnil => ?_, fun v hne hl ha => ?_, fun hne ha => ?_⟩
    · rw [hexec, storeReceived_whole (appendRecord_fits hnil)]
    · rw [hexec, storeReceived_whole (appendRecord_spans hne hl ha)]
    · rw [hexec, storeReceived_waits hne (appendRecord_waits hne ha)]
  · intro i record conceals u slot hline hc hs hlim
    obtain ⟨hexec, hu⟩ := exec_lineTaken ht hline
    rw [hexec, takeLine_atLimit hr hu hc hs hlim]
  · intro i record conceals u hline hc
    obtain ⟨hexec, hu⟩ := exec_lineTaken ht hline
    rw [hexec, takeLine_noPage hr hu hc]
  · intro i record conceals u slot hline hc hs
    obtain ⟨hexec, hu⟩ := exec_lineTaken ht hline
    rw [hexec, takeLine_discarding hr hu hc hs]
  · intro rest v hi hv
    have he : receiveEnd s = v := by
      unfold receiveEnd; rw [hi]
      exact endReceived_of_ended hr (itemTaken_takeItem rest s) hv
    exact he ▸ jobEvent_due (itemDue_true ht hi rfl)
  · intro r w rest v slot t hi hv hstart
    have hv : endReceived (takeItem rest s) = v := endReceived_of_ended hr (itemTaken_takeItem rest s) hv
    obtain ⟨c', hr', -, -⟩ := (itemTaken_takeItem rest s).reception hr
    obtain ⟨j', c', hr', hd⟩ := reception_endReceived hr'
    rw [hv] at hr'
    have hb := beginReceived_ok hr' (hd.symm ▸ hstart)
    have he : receiveBegin s = beginReceived r w v := by
      unfold receiveBegin; rw [hi]; dsimp only; rw [hv]
    rw [← hd, ← hb, ← he]
    exact jobEvent_due (itemDue_true ht hi rfl)
  · intro r w rest v reason hi hv hstart
    have hv : endReceived (takeItem rest s) = v := endReceived_of_ended hr (itemTaken_takeItem rest s) hv
    obtain ⟨c', hr', -, -⟩ := (itemTaken_takeItem rest s).reception hr
    obtain ⟨j', c', hr', hd⟩ := reception_endReceived hr'
    rw [hv] at hr'
    have hb := beginReceived_error hr' (hd.symm ▸ hstart)
    have he : receiveBegin s = beginReceived r w v := by
      unfold receiveBegin; rw [hi]; dsimp only; rw [hv]
    rw [← hb, ← he]
    exact jobEvent_due (itemDue_true ht hi rfl)
  · intro hi
    have he : receiveLost s = linkFault .badRecord (takeItem [] s) := by unfold receiveLost; rw [hi]; rfl
    exact he ▸ jobEvent_due (itemDue_true ht hi rfl)

end Sys2Proof.Machine
end

section
/-! The lines of the scan path (O27). -/

namespace Sys2Proof.Machine

-- One theorem at a time, as in the tests: a thread for each would exceed the memory allowed.
set_option Elab.async false

variable {s t u : State}

/-! ## The line buffer (R92, R93) -/

/-- The first slot that holds what `p` says is set. -/
theorem replaceFirst_eq_set {p : LineSlot → Bool} {l : List LineSlot} (v : LineSlot) (h : l.any p = true) :
    ∃ i x, l[i]? = some x ∧ p x = true ∧ (∀ j y, j < i → l[j]? = some y → p y = false) ∧ replaceFirst p v l = l.set i v := by
  induction l with
  | nil => cases h
  | cons y ys ih =>
    unfold replaceFirst
    cases hy : p y with
    | true => exact ⟨0, y, rfl, hy, fun j _ hj => absurd hj (Nat.not_lt_zero j), rfl⟩
    | false =>
      obtain ⟨i, x, hx, hp, hbefore, hset⟩ := ih (by simpa [hy] using h)
      refine ⟨i + 1, x, hx, hp, fun j z hj hz => ?_, by rw [hset]; rfl⟩
      cases j with
      | zero => cases hz; exact hy
      | succ j => exact hbefore j z (Nat.lt_of_succ_lt_succ hj) hz

/-- R92: the lowest FREE slot is RESERVED. -/
theorem reserve_lowest {l : List LineSlot} (n : Nat) (h : l.any LineSlot.isFree = true) :
    ∃ i : Nat, l[i]? = some .free ∧ (∀ j, j < i → l[j]? ≠ some .free) ∧
      replaceFirst LineSlot.isFree (.reserved n) l = l.set i (.reserved n) := by
  obtain ⟨i, x, hx, hp, hbefore, hset⟩ := replaceFirst_eq_set (.reserved n) h
  refine ⟨i, hx.trans (congrArg some (of_decide_eq_true hp)), fun j hj hfree => ?_, hset⟩
  have := hbefore j .free hj hfree
  cases this

theorem lineEntryDue_free (h : lineEntryDue s = true) : s.scan.slots.any LineSlot.isFree = true := by
  unfold lineEntryDue at h
  simp only [Bool.and_eq_true] at h
  exact h.1.1.1.2

/-! ## The events of the line (R92, R93) -/

theorem captureDue_true {c : Capture} (hc : s.scan.capture = some c) (h : c.since + scanTime (scanPageOf s).width ≤ s.now) :
    captureDue s = true := by
  unfold captureDue; rw [hc]; exact decide_eq_true h

theorem endCapture_eq {c : Capture} (raw : List Byte) (hc : s.scan.capture = some c) :
    endCapture raw s = { s with scan := { s.scan with
      capture := none, background := (binarize s c.line raw).2
      slots := replaceFirst (LineSlot.isReserved c.line) (.captured c.line (binarize s c.line raw).1) s.scan.slots } } := by
  unfold endCapture; rw [hc]; rfl

theorem codeCaptured_eq {c : Coder} {image : Line} (h : codable s = some (c, image)) :
    codeCaptured s = { s with scan := { s.scan with
      coder := some ⟨image, c.line + 1⟩
      slots := replaceFirst (fun v => (v.capturedLine c.line).isSome)
        (.coded c.line (codeLine (scanPageOf s).width c.previous image) false) s.scan.slots } } := by
  unfold codeCaptured; rw [h]; rfl

/-! ## The record SCAN-IN takes (R8, R9, R22, R42) -/

section
variable {n slot : Nat} {record : List Byte} (ht : takeable s = some (n, record)) (hs : s.store.scanIn.slot = some slot)
include ht

theorem exec_taken (u : State) (h : takeScanned s = u) : exec .scanInTakeRecord s = .next (settle (advance u)) := by
  rw [exec_scanInTakeRecord, jobEvent_due (by rw [ht]; rfl), h]

include hs

theorem takeScanned_atLimit (h : s.settings.pageLineLimit ≤ (pageOf s slot).committed) :
    takeScanned s = onUntaken .free (dropAtLimit slot s) := by
  unfold takeScanned
  rw [ht, hs]
  exact if_pos (decide_eq_true h)

theorem takeScanned_damaged (h : (pageOf s slot).committed < s.settings.pageLineLimit) (hd : (pageOf s slot).state ≠ .filling) :
    takeScanned s = onUntaken .free (dropPageLine slot s) := by
  unfold takeScanned
  rw [ht, hs]
  exact (if_neg (by simpa [atLineLimit] using h)).trans (if_pos hd)

theorem takeScanned_stored (h : (pageOf s slot).committed < s.settings.pageLineLimit) (hd : (pageOf s slot).state = .filling) :
    takeScanned s = storeScanned slot n record s := by
  unfold takeScanned
  rw [ht, hs]
  exact (if_neg (by simpa [atLineLimit] using h)).trans (if_neg (not_not.2 hd))

end

theorem storeScanned_whole {slot n : Nat} {record : List Byte} (h : appendRecord slot record s = (t, [])) :
    storeScanned slot n record s = onUntaken .free (commitRecord slot false t) := by
  unfold storeScanned; rw [h]; exact if_pos rfl

theorem storeScanned_waits {slot n : Nat} {record left : List Byte} (hl : left ≠ []) (h : appendRecord slot record s = (t, left)) :
    storeScanned slot n record s = addWaiter .scanRecord (onUntaken (.coded n record true)
      (t.onStore (fun st => { st with scanIn := { st.scanIn with held := some ⟨left, false⟩ } }))) := by
  unfold storeScanned; rw [h]; exact if_neg hl

/-! ## The wait in mid-page (R65, R67) -/

theorem raise_jobs (n : Nat) (d : Detail) (s : State) : (raise n d s).jobs = s.jobs := by
  unfold raise; split <;> rfl

theorem jobIn_raiseJob (k i : Nat) (final : Option FinalStatus) (s : State) : jobIn (raiseJob k final s) i = jobIn s i := by
  have hjobs : (raiseJob k final s).jobs = s.jobs := by
    unfold raiseJob
    split
    exacts [raise_jobs _ _ _, rfl]
  unfold jobIn; rw [hjobs]

theorem codeEffect_blocks_jobs (reason : Option Bool) (s : State) : (codeEffect ⟨.scFull, some FullReason.blocks.reason, reason⟩ s).jobs = s.jobs :=
  raise_jobs _ _ _

/-- R57, R63: a job that stops for a code: in BOUNDARY at once where its motors rest, and HOLDING for it where they do not. -/
theorem stopJob_code {k : Nat} {j : Job} {b : Boundary} (hj : jobIn s k = some j) (hjobs : (codeEffect b s).jobs = s.jobs) :
    (jobIn (stopJob k (.code b) s) k).map Job.state = some (if jobRests s k then .boundary else .holding) ∧
    (jobRests s k = true → (jobIn (stopJob k (.code b) s) k).bind Job.boundary = some b) ∧
    (jobRests s k = false → (jobIn (stopJob k (.code b) s) k).bind Job.pendingStop = some (.code b)) := by
  have hj' : jobIn (codeEffect b s) k = some j := by unfold jobIn; rw [hjobs]; exact hj
  cases hr : jobRests s k with
  | true =>
    have hin : jobIn (stopJob k (.code b) s) k = some { j with state := .boundary, boundary := some b, pendingStop := none } := by
      rw [stopJob, if_pos hr, enterStopped, enterBoundary, jobIn_raiseJob, jobIn_onJob, if_pos rfl, hj']; rfl
    rw [hin]
    exact ⟨rfl, fun _ => rfl, fun h => (nomatch h)⟩
  | false =>
    have hin : jobIn (stopJob k (.code b) s) k = some { j with state := .holding, pendingStop := some (.code b) } := by
      rw [stopJob, if_neg (by simp [hr]), jobIn_onJob, if_pos rfl, hj]; rfl
    rw [hin]
    exact ⟨rfl, fun h => (nomatch h), fun _ => rfl⟩

/-- R67: the job as it meets SC-FULL. -/
theorem jobIn_meetingFull {k : Nat} {j : Job} (hj : jobIn s k = some j) :
    jobIn (onJob k (fun j => { j with starvedWrite := false }) (dropWaiter .pageStart s)) k = some { j with starvedWrite := false } := by
  rw [jobIn_onJob, if_pos rfl]
  exact congrArg (Option.map _) hj

/-- R65, R67: a SCAN whose record waits for a block meets SC-FULL. -/
theorem midPageRule_scan {k : Nat} {j : Job} (hj : jobIn s k = some j) (hkind : j.kind = .scan) (hrun : j.state = .running)
    (hheld : s.store.scanIn.held.isSome = true) (hw : s.scan.waitAnswered = false) :
    midPageRule k j s = some (stopJob k (.code ⟨.scFull, some FullReason.blocks.reason, some true⟩)
      (onJob k (fun j => { j with starvedWrite := false }) (dropWaiter .pageStart s))) := by
  have hmeet : canMeet j .scFull = true := by simp [canMeet, hrun]
  have hin := jobIn_meetingFull hj
  have hauto : automatic { j with starvedWrite := false } .scFull = none := by
    unfold automatic; split <;> rfl
  unfold midPageRule
  rw [if_pos hheld, noRoom, if_neg (by simp [hw]), if_neg (by simp [hkind]), if_pos hmeet, meetFull, meet, hin]
  dsimp only
  rw [hauto]

/-- Settles O27: each event of the line by the equation of its effect; the record's fit in the page's last block decides how SCAN-IN
stores it, and what it cannot store stops a SCAN in mid-page. -/
theorem scanLineGoesThrough : Obligations.ScanLineGoesThrough := by
  unfold Obligations.ScanLineGoesThrough
  intro s
  refine ⟨fun hdue => ⟨jobEvent_due hdue, rfl, rfl, reserve_lowest _ (lineEntryDue_free hdue)⟩, ?_, ?_, ?_, ?_, ?_, ?_⟩
  · intro raw c hc hdue
    rw [exec_scanLineCaptured, event_due (captureDue_true hc hdue), endCapture_eq raw hc]
  · intro c image h
    rw [exec_spanCodeLine, event_due (by rw [h]; rfl), codeCaptured_eq h]
  · intro n slot record ht hs hd hlim hfit
    have hnil : (putBytes slot record s).2 = [] :=
      (putBytes_rest slot record s).trans (List.drop_eq_nil_of_le (Nat.le_sub_of_add_le' hfit))
    exact exec_taken ht _ ((takeScanned_stored ht hs hlim hd).trans (storeScanned_whole (appendRecord_fits hnil)))
  · intro n slot record ht hs hd hlim first left
    have hstored := takeScanned_stored ht hs hlim hd
    refine ⟨fun v hne hl ha => exec_taken ht _ (hstored.trans (storeScanned_whole (appendRecord_spans hne hl ha))), fun hne ha => ?_⟩
    refine ⟨_, exec_taken ht _ (hstored.trans (storeScanned_waits hne (appendRecord_waits hne ha))), ?_, rfl, rfl, rfl, rfl⟩
    show (⟨s.store.scanIn.slot, some ⟨left, false⟩⟩ : ScanIn) = _
    rw [hs]
  · intro k j hjob hkind hrun hheld hw b
    have hj := scanJob_eq hjob
    exact ⟨_, midPageRule_scan hj hkind hrun hheld hw, stopJob_code (jobIn_meetingFull hj) (codeEffect_blocks_jobs _ _)⟩
  · intro n slot record ht hs
    exact ⟨fun hlim => exec_taken ht _ (takeScanned_atLimit ht hs hlim),
      fun hlim hd => exec_taken ht _ (takeScanned_damaged ht hs hlim hd)⟩

end Sys2Proof.Machine
end

section
/-! The head's events and the reading of a stored record (O30). -/

namespace Sys2Proof.Machine

-- One theorem at a time, as in the tests: a thread for each would exceed the memory allowed.
set_option Elab.async false

variable {s t u : State}

/-! ## A reading leaves the print side (R13, R19 to R21) -/

theorem onReader_jobs (o : Outlet) (f : Reader → Reader) (s : State) : (onReader o f s).jobs = s.jobs := by cases o <;> rfl

theorem onReaderJob_print (o : Outlet) (f : Job → Job) (s : State) : (onReaderJob o f s).jobs.print = s.jobs.print := by
  unfold onReaderJob; split <;> rfl

theorem suspectBlocks_jobs (bs : List Nat) (s : State) : (suspectBlocks bs s).jobs = s.jobs := by
  unfold suspectBlocks
  induction bs generalizing s with
  | nil => rfl
  | cons b bs ih => exact ih _

theorem freeBlocksOf_jobs (bs : List Nat) (s : State) : (freeBlocksOf bs s).jobs = s.jobs := by
  obtain ⟨_, _, h⟩ := freeBlocksOf_frame bs s
  rw [h]; rfl

theorem writerLosesPage_print (slot : Nat) (s : State) : (writerLosesPage slot s).jobs.print = s.jobs.print := by
  unfold writerLosesPage
  dsimp only
  split <;> split <;> rfl

theorem damagePage_print (slot lines : Nat) (place : Option Cursor) (s : State) :
    (damagePage slot lines place s).jobs.print = s.jobs.print := by
  have trimmed : (trimPage slot lines place s).jobs.print = s.jobs.print := by
    unfold trimPage
    rw [freeBlocksOf_jobs]
    cases place <;> rfl
  unfold damagePage
  dsimp only
  split
  · exact (writerLosesPage_print slot _).trans trimmed
  · exact trimmed

theorem chainFault_print (o : Outlet) (slot : Nat) (s : State) : (chainFault o slot s).jobs.print = s.jobs.print := by
  unfold chainFault
  rw [onReader_jobs, raise_jobs]
  exact damagePage_print _ _ _ _

theorem conceal_print (o : Outlet) (slot : Nat) (w : PageWidth) (bs failing : List ChainByte) (s : State) :
    (conceal o slot w bs failing s).jobs.print = s.jobs.print := by
  have counted (c : List Nat) (f : Page → Page) (g : Job → Job) :
      (onReaderJob o g (onPage slot f (suspectBlocks c s))).jobs.print = s.jobs.print :=
    (onReaderJob_print _ _ _).trans (congrArg (fun w => w.print) (suspectBlocks_jobs c s))
  unfold conceal handOn
  dsimp only
  split
  · rw [onReader_jobs, onReader_jobs, raise_jobs, damagePage_print, counted]
  · rw [onReader_jobs, raise_jobs, counted]

theorem countRecovered_print (bs : List ChainByte) (s : State) : (countRecovered bs s).jobs.print = s.jobs.print := by
  unfold countRecovered; split <;> rfl

theorem readHere_print (o : Outlet) (slot : Nat) (s : State) : (readHere o slot s).jobs.print = s.jobs.print := by
  unfold readHere handOn
  dsimp only
  split
  · exact conceal_print _ _ _ _ _ _
  · split
    · rw [chainFault_print, countRecovered_print]
    · rw [onReader_jobs, countRecovered_print]

theorem readLineOf_print (o : Outlet) (s : State) : (readLineOf o s).jobs.print = s.jobs.print := by
  have here (c : Cursor) (slot : Nat) : (readHere o slot (arriveAt o c s)).jobs.print = s.jobs.print := by
    unfold arriveAt; rw [readHere_print, onReader_jobs]
  unfold readLineOf
  dsimp only
  split
  · rfl
  · split
    · split
      exacts [chainFault_print _ _ _, here _ _]
    · split
      exacts [chainFault_print _ _ _, here _ _]

/-! ## The reading of a record, by the place it begins at (R13, R21) -/

section
variable {o : Outlet} {slot : Nat} (hs : (readerOf s o).slot = some slot)
include hs

theorem readLineOf_slot : readLineOf o s =
    if (readerOf s o).readAt.offset = 2048 then
      match followed s slot (readerOf s o).readAt.block with
      | none => chainFault o slot s
      | some b => readHere o slot (arriveAt o ⟨b, 0, false⟩ s)
    else if (readerOf s o).readAt.unchecked && !(blockGood s slot (readerOf s o).readAt.block) then chainFault o slot s
    else readHere o slot (arriveAt o (readerOf s o).readAt s) := by
  unfold readLineOf
  dsimp only
  rw [hs]
  rfl

theorem readLineOf_followed {b : Nat} (he : (readerOf s o).readAt.offset = 2048)
    (hb : followed s slot (readerOf s o).readAt.block = some b) : readLineOf o s = readHere o slot (arriveAt o ⟨b, 0, false⟩ s) := by
  rw [readLineOf_slot hs, if_pos he, hb]

theorem readLineOf_chainEnds (he : (readerOf s o).readAt.offset = 2048) (hb : followed s slot (readerOf s o).readAt.block = none) :
    readLineOf o s = chainFault o slot s := by
  rw [readLineOf_slot hs, if_pos he, hb]

theorem readLineOf_badBlock (he : (readerOf s o).readAt.offset ≠ 2048) (hu : (readerOf s o).readAt.unchecked = true)
    (hb : blockGood s slot (readerOf s o).readAt.block = false) : readLineOf o s = chainFault o slot s := by
  rw [readLineOf_slot hs, if_neg he, if_pos (by rw [hu, hb]; rfl)]

theorem readLineOf_here (he : (readerOf s o).readAt.offset ≠ 2048)
    (hb : (readerOf s o).readAt.unchecked = false ∨ blockGood s slot (readerOf s o).readAt.block = true) :
    readLineOf o s = readHere o slot (arriveAt o (readerOf s o).readAt s) := by
  rw [readLineOf_slot hs, if_neg he, if_neg (by rcases hb with h | h <;> simp [h])]

end

theorem onReader_onReader (o : Outlet) (f g : Reader → Reader) (s : State) : onReader o f (onReader o g s) = onReader o (f ∘ g) s := by
  cases o <;> rfl

/-- R13: a block followed is read as from its own start. -/
theorem readLineOf_moved {o : Outlet} {slot b : Nat} (hs : (readerOf s o).slot = some slot) (he : (readerOf s o).readAt.offset = 2048)
    (hb : followed s slot (readerOf s o).readAt.block = some b) :
    readLineOf o s = readLineOf o (onReader o (fun x => { x with readAt := ⟨b, 0, false⟩ }) s) := by
  have hreader : readerOf (onReader o (fun x => { x with readAt := ⟨b, 0, false⟩ }) s) o = { readerOf s o with readAt := ⟨b, 0, false⟩ } :=
    readerOf_onReader _ _ _
  rw [readLineOf_followed hs he hb, readLineOf_here (slot := slot) (by rw [hreader]; exact hs) (by rw [hreader]; exact Nat.zero_ne_add_one 2047)
    (.inl (by rw [hreader])), hreader]
  unfold arriveAt
  rw [onReader_onReader]; rfl

theorem delimit_arriveAt (o : Outlet) (c c' : Cursor) (slot : Nat) (w : PageWidth) (s : State) :
    delimit (arriveAt o c s) slot w c' = delimit s slot w c' := by
  have run (committedOnly : Bool) (fuel : Nat) (c' : Cursor) (n : Nat) :
      chainRun (arriveAt o c s) slot committedOnly fuel c' n = chainRun s slot committedOnly fuel c' n := by
    induction fuel generalizing c' n with
    | zero => rfl
    | succ fuel ih =>
      have hrun (limit : Nat) : blockRun (arriveAt o c s) c' n limit = blockRun s c' n limit := rfl
      have hextent : extentOf (arriveAt o c s) slot c' = extentOf s slot c' := by cases o <;> rfl
      have hnext : followed (arriveAt o c s) slot c'.block = followed s slot c'.block := by cases o <;> rfl
      unfold chainRun
      simp only [hrun, hextent, hnext, ih]
  have hlength : (arriveAt o c s).store.blocks.length = s.store.blocks.length := by cases o <;> rfl
  unfold delimit
  simp only [run, hlength]

/-! ## What a record read comes to (R13, R19, R20, R44) -/

section
variable {o : Outlet} {slot : Nat}

/-- The record at the read position. -/
def recordAt (o : Outlet) (slot : Nat) (s : State) : Delimited := delimit s slot (pageOf s slot).width (readerOf s o).readAt

theorem readHere_record {bs : List ChainByte} (hf : twiceFailing s.dramFaults (recordAt o slot s).bytes = [])
    (hd : recordAt o slot s = .record bs) :
    readHere o slot s = handOn o (expandRecord (pageOf s slot).width (readerOf s o).lastRead (bs.map ChainByte.value))
      (bs.map ChainByte.value) (placeAfter (readerOf s o).readAt bs) (countRecovered bs s) := by
  unfold recordAt at hf hd
  unfold readHere
  dsimp only
  rw [if_neg (not_not.2 hf), hd]

theorem readHere_malformed {bs : List ChainByte} (hf : twiceFailing s.dramFaults (recordAt o slot s).bytes = [])
    (hd : recordAt o slot s = .malformed bs) : readHere o slot s = chainFault o slot (countRecovered bs s) := by
  unfold recordAt at hf hd
  unfold readHere
  dsimp only
  rw [if_neg (not_not.2 hf), hd]

theorem readHere_failing (hf : twiceFailing s.dramFaults (recordAt o slot s).bytes ≠ []) :
    readHere o slot s = conceal o slot (pageOf s slot).width (recordAt o slot s).bytes
      (twiceFailing s.dramFaults (recordAt o slot s).bytes) s := if_pos hf

end

/-- The state in which the reader has come to the place its next record begins at, and nothing else has changed. -/
structure Arrived (o : Outlet) (slot : Nat) (here : Cursor) (s a : State) : Prop where
  reader : readerOf a o = { readerOf s o with readAt := here }
  record : recordAt o slot a = delimit s slot (pageOf s slot).width here
  pages : a.store.pages = s.store.pages
  blocks : a.store.blocks = s.store.blocks
  recovered : a.store.recovered = s.store.recovered
  faults : a.dramFaults = s.dramFaults
  checked : here.unchecked = false

theorem arrived_arriveAt (o : Outlet) (c : Cursor) (slot : Nat) (s : State) :
    Arrived o slot { c with unchecked := false } s (arriveAt o c s) := by
  have hrecord : recordAt o slot (arriveAt o c s) = delimit s slot (pageOf s slot).width { c with unchecked := false } := by
    unfold recordAt
    rw [delimit_arriveAt]
    cases o <;> rfl
  cases o <;> exact ⟨rfl, hrecord, rfl, rfl, rfl, rfl, rfl⟩

theorem pageOf_countRecovered (bs : List ChainByte) (p : Nat) (s : State) : pageOf (countRecovered bs s) p = pageOf s p := by
  unfold pageOf; rw [countRecovered_store]

theorem readerOf_countRecovered (bs : List ChainByte) (o : Outlet) (s : State) : readerOf (countRecovered bs s) o = readerOf s o := by
  unfold readerOf; rw [countRecovered_store]

theorem onReader_rest (o : Outlet) (f : Reader → Reader) (s : State) :
    (onReader o f s).store.recovered = s.store.recovered ∧ (onReader o f s).store.pages = s.store.pages ∧
    (onReader o f s).store.blocks = s.store.blocks := by
  cases o <;> exact ⟨rfl, rfl, rfl⟩

/-- The blocks that hold a failing byte. -/
theorem mem_failingBlocks {n : Nat} {failing : List ChainByte} :
    n ∈ (failing.map fun x => x.place.block).dedup ↔ failing.any (fun b => decide (b.place.block = n)) = true := by
  simp [List.mem_dedup]

/-- R20: a USED block is SUSPECT where it holds a failing byte. -/
theorem suspectBlocks_used {n : Nat} {failing : List ChainByte} (hu : (blockOf s n).state = .used) (hn : n < s.store.blocks.length) :
    (blockOf (suspectBlocks ((failing.map fun x => x.place.block).dedup) s) n).state =
      if failing.any (fun b => decide (b.place.block = n)) then .suspect else .used := by
  rw [suspectBlocks_state _ _ hn (.inl hu), hu]
  exact if_congr mem_failingBlocks rfl rfl

/-- Where the length of a failing record is lost. -/
theorem cut_iff {failing bs : List ChainByte} :
    (failing.any (fun b => decide (some b.address = bs.head?.map ChainByte.address)) ||
      decide (bs.head?.map ChainByte.value = some headRuns)) = true ↔
    (failing.any (fun b => decide (some b.address = bs.head?.map ChainByte.address)) = true ∨
      bs.head?.map ChainByte.value = some 0x02) := by
  rw [Bool.or_eq_true, decide_eq_true_iff]; rfl

namespace Arrived
variable {o : Outlet} {slot : Nat} {here : Cursor} {a : State} (h : Arrived o slot here s a)
include h

theorem pageOf_eq : pageOf a slot = pageOf s slot := by
  unfold pageOf; rw [h.pages]

theorem blockOf_eq (n : Nat) : blockOf a n = blockOf s n := by
  unfold blockOf; rw [h.blocks]

theorem failing_eq : twiceFailing a.dramFaults (recordAt o slot a).bytes =
    twiceFailing s.dramFaults (delimit s slot (pageOf s slot).width here).bytes := by
  rw [h.faults, h.record]

/-- R19: the recovered count after the read. -/
theorem recovered_eq (bs : List ChainByte) : (countRecovered bs a).store.recovered =
    if recoveredRead s.dramFaults bs then min 65535 (s.store.recovered + 1) else s.store.recovered := by
  rw [countRecovered_store, h.faults, h.recovered]

/-- R13, R19: a record whole, and read without an error that stays, is expanded and handed on. -/
theorem passes {bs : List ChainByte} :
    let r := readerOf s o
    let d := delimit s slot (pageOf s slot).width here
    let t := readHere o slot a
    twiceFailing s.dramFaults d.bytes = [] → d = .record bs →
    let record := bs.map ChainByte.value
    let image := expandRecord (pageOf s slot).width r.lastRead record
    t.store.recovered = (if recoveredRead s.dramFaults d.bytes then min 65535 (s.store.recovered + 1) else s.store.recovered) ∧
    t.store.pages = s.store.pages ∧ t.store.blocks = s.store.blocks ∧
    readerOf t o = { r with readLine := r.readLine + 1, readAt := placeAfter here bs, lastRead := image
                            inFlight := r.inFlight ++ [⟨r.readLine, image, record, placeAfter here bs⟩] } := by
  intro r d t hf hd record image
  have hread : t = _ := readHere_record (h.failing_eq.trans hf) (h.record.trans hd)
  rw [h.reader, h.pageOf_eq] at hread
  obtain ⟨hr, hp, hb⟩ := onReader_rest o (fun r => { r with
    readLine := r.readLine + 1, readAt := placeAfter here bs, lastRead := image
    inFlight := r.inFlight ++ [⟨r.readLine, image, record, placeAfter here bs⟩] }) (countRecovered bs a)
  rw [h.recovered_eq] at hr
  rw [countRecovered_store] at hp hb
  rw [hread, hd]
  refine ⟨hr, hp.trans h.pages, hb.trans h.blocks, (readerOf_onReader _ _ _).trans ?_⟩
  rw [readerOf_countRecovered, h.reader]

/-- R21, R44: a malformed record ends the page where it begins (log 66). -/
theorem ends {bs : List ChainByte} (hlt : slot < s.store.pages.length) :
    let r := readerOf s o
    let d := delimit s slot (pageOf s slot).width here
    let t := readHere o slot a
    twiceFailing s.dramFaults d.bytes = [] → d = .malformed bs →
    t.store.recovered = (if recoveredRead s.dramFaults d.bytes then min 65535 (s.store.recovered + 1) else s.store.recovered) ∧
    (pageOf t slot).state = .damaged ∧ (pageOf t slot).committed = r.readLine ∧
    (pageOf t slot).lastBlock = here.block ∧ (pageOf t slot).bytesUsed = here.offset ∧ (readerOf t o).ended = true := by
  intro r d t hf hd
  have hread : t = _ := readHere_malformed (h.failing_eq.trans hf) (h.record.trans hd)
  obtain ⟨hp, hend, hr⟩ := chainFault_does (o := o) (slot := slot) (s := countRecovered bs a)
    (by rw [countRecovered_store]; exact h.pages ▸ hlt)
  rw [readerOf_countRecovered, h.reader, pageOf_countRecovered, h.pageOf_eq] at hp
  have hplace : (if here.unchecked then none else some here) = some here := if_neg (by simp [h.checked])
  dsimp only at hp
  rw [hplace] at hp
  rw [hread, hp, hd]
  exact ⟨hr.trans (h.recovered_eq bs), rfl, rfl, rfl, rfl, hend⟩

/-- R20: a record that fails twice is concealed, and the page is cut behind it where its length is lost (logs 15, 77). -/
theorem conceals (hlt : slot < s.store.pages.length) :
    let r := readerOf s o
    let w := (pageOf s slot).width
    let d := delimit s slot w here
    let t := readHere o slot a
    let failing := twiceFailing s.dramFaults d.bytes
    failing ≠ [] →
    let image := if r.readLine = 0 then blankLine w else r.lastRead
    let record : List Byte := if r.readLine = 0 then [0x00] else [0x01]
    let cut := failing.any (fun b => decide (some b.address = d.bytes.head?.map ChainByte.address)) ∨
      d.bytes.head?.map ChainByte.value = some 0x02
    let after := if cut then here else placeAfter here d.bytes
    (pageOf t slot).concealed = min 65535 ((pageOf s slot).concealed + 1) ∧
    (readerOf t o).readLine = r.readLine + 1 ∧ (readerOf t o).lastRead = image ∧
    (readerOf t o).inFlight = r.inFlight ++ [⟨r.readLine, image, record, after⟩] ∧
    (¬cut → (pageOf t slot).state = (pageOf s slot).state ∧ (pageOf t slot).committed = (pageOf s slot).committed ∧
      (readerOf t o).ended = r.ended ∧
      ∀ n, (blockOf s n).state = .used → n < s.store.blocks.length →
        (blockOf t n).state = if failing.any (fun b => decide (b.place.block = n)) then .suspect else .used) ∧
    (cut → (pageOf t slot).state = .damaged ∧ (pageOf t slot).committed = r.readLine + 1 ∧ (readerOf t o).ended = true) := by
  intro r w d t failing hf image record cut after
  have hread : t = _ := readHere_failing (h.failing_eq ▸ hf)
  rw [h.failing_eq, h.record, h.pageOf_eq] at hread
  obtain ⟨hconcealed, hreads, hcut, hgoes⟩ := conceal_does (o := o) (w := w) (bs := d.bytes) (failing := failing)
    (show slot < a.store.pages.length from h.pages ▸ hlt)
  rw [← hread] at hconcealed hreads hcut hgoes
  rw [h.pageOf_eq] at hconcealed hgoes
  rw [h.reader] at hreads hcut
  have hlost : _ ↔ cut := cut_iff
  have hpast : after = if _ then here else placeAfter here d.bytes := (if_congr hlost rfl rfl).symm
  rw [hreads]
  refine ⟨hconcealed, rfl, rfl, by rw [hpast]; rfl, fun hc => ?_, fun hc => ?_⟩
  · have hkeep := Bool.eq_false_iff.2 fun h => hc (hlost.1 h)
    obtain ⟨hp, hb⟩ := hgoes hkeep
    refine ⟨by rw [hp], by rw [hp], by rw [hkeep]; rfl, fun n hu hn => ?_⟩
    rw [hb]
    exact suspectBlocks_used (h.blockOf_eq n ▸ hu) (h.blocks ▸ hn)
  · have hloses := hlost.2 hc
    obtain ⟨hstate, hcommitted⟩ := hcut hloses
    exact ⟨hstate, hcommitted, by rw [hloses]; rfl⟩

end Arrived

/-! ## The samples and the firing (R103, R114 to R119) -/

theorem judgeThermal_eq (g : Settings) (c : Nat) (hold : Bool) :
    judgeThermal g c hold = (decide (g.hotLimit ≤ c) || (hold && decide (g.resumeLimit < c))) := by
  unfold judgeThermal
  by_cases h1 : g.hotLimit ≤ c
  · simp [h1]
  · by_cases h2 : c ≤ g.resumeLimit
    · simp [h1, h2, Nat.not_lt.2 h2]
    · simp [h1, h2, Nat.not_le.1 h2]

theorem judgeSupply_eq (g : Settings) (v : Nat) (hold : Bool) :
    judgeSupply g v hold = (decide (v < 3 * g.vnom / 4) || (hold && decide (v < 7 * g.vnom / 8))) := by
  unfold judgeSupply
  by_cases h1 : v < 3 * g.vnom / 4
  · simp [h1]
  · by_cases h2 : 7 * g.vnom / 8 ≤ v
    · simp [h1, h2, Nat.not_lt.2 h2]
    · simp [h1, h2, Nat.not_le.1 h2]

theorem raiseIf_energy (c : Prop) [Decidable c] (n : Nat) (d : Detail) (u : State) :
    (if c then raise n d u else u).energy = u.energy := by
  unfold raise; split <;> [split; skip] <;> rfl

/-- R103, R118, R119: what a pair of samples leaves in the print energy unit. -/
theorem takeSamples_energy (c v : Byte) (s : State) : (takeSamples c v s).energy = { s.energy with
    thermistor := c.toNat, supply := v.toNat, thermalHold := judgeThermal s.settings c.toNat s.energy.thermalHold
    supplyHold := if decide (s.power.mode = .active) && s.energy.ready then judgeSupply s.settings v.toNat s.energy.supplyHold
      else s.energy.supplyHold } := by
  unfold takeSamples
  rw [raiseIf_energy]; rfl

theorem endSubpulse_goes {f g : Firing} (hf : s.energy.firing = some f) (ha : f.after s.now = some g) :
    endSubpulse s = s.onEnergy (fun e => { e with firing := some g }) := by
  unfold endSubpulse; rw [hf]; dsimp only; rw [ha]

theorem endSubpulse_strobes {f : Firing} (hf : s.energy.firing = some f) (ha : f.after s.now = none) :
    endSubpulse s = lineStrobed f.tag (s.onEnergy (fun e => { e with firing := none })) := by
  unfold endSubpulse; rw [hf]; dsimp only; rw [ha]

theorem exec_subpulseEnds {f : Firing} (hf : s.energy.firing = some f) (hl : f.since + f.lasts ≤ s.now) (hu : endSubpulse s = u) :
    exec .strobeSubpulseEnd s = .next (settle (advance u)) :=
  hu ▸ jobEvent_due (by unfold subpulseDue; rw [hf]; exact decide_eq_true hl)

theorem exec_subpulseLimited {f : Firing} (hf : s.energy.firing = some f) (hs : f.stage ≠ .gap) (hl : f.since + 4000 ≤ s.now)
    (hu : endSubpulse s = u) : exec .headTimerLimit s = .next (settle (advance u)) :=
  hu ▸ jobEvent_due (by unfold headTimerDue; rw [hf]; exact Bool.and_eq_true_iff.2 ⟨decide_eq_true hs, decide_eq_true hl⟩)

/-! ## A line offered (R45, R46, R105) -/

theorem exec_offers {c v : Byte} {faults : ParityFaults} (h : offerDue s = true) :
    exec (.printLineOffer c v faults) s = .next (settle (advance (offerLine c v { s with dramFaults := faults }))) :=
  (exec_printLineOffer c v faults s).trans (jobEvent_due h)

theorem offerLine_line {c v : Byte} {l : StoredLine} (h : (nextLine s).jobs.print.line = some l) :
    offerLine c v s = if (takeSamples c v (nextLine s)).energy.thermalHold || (takeSamples c v (nextLine s)).energy.supplyHold
      then takeSamples c v (nextLine s) else admitLine l (takeSamples c v (nextLine s)) := by
  unfold offerLine
  dsimp only
  rw [h]

theorem offerLine_none {c v : Byte} (h : (nextLine s).jobs.print.line = none) : offerLine c v s = nextLine s := by
  unfold offerLine
  dsimp only
  rw [h]

theorem nextLine_pending {l : StoredLine} (h : s.jobs.print.line = some l) : nextLine s = s := by
  unfold nextLine; rw [h]; rfl

/-- R13: nothing was handed on. -/
theorem nextLine_none (h : s.jobs.print.line = none)
    (hr : (readLineOf .print s).store.printOut.readLine ≠ s.store.printOut.readLine + 1) : nextLine s = readLineOf .print s := by
  unfold nextLine
  rw [h, if_neg (by simp)]
  dsimp only
  split
  · exact if_neg hr
  · rfl

/-- R45, R46: the line handed on, as the head takes it. -/
theorem nextLine_read {slot : Nat} {x : ReadLine} (h : s.jobs.print.line = none) (hs : s.store.printOut.slot = some slot)
    (hr : (readLineOf .print s).store.printOut.readLine = s.store.printOut.readLine + 1)
    (hx : (readLineOf .print s).store.printOut.inFlight.getLast? = some x) :
    nextLine s = setPrint (fun y => { y with line := some ⟨slot, false, x.line, headLine (pageOf s slot).width x.image,
      (pageOf s slot).resolution.physicalLines, (pageOf s slot).resolution.physicalSteps⟩ }) (readLineOf .print s) := by
  unfold nextLine
  rw [h, if_neg (by simp)]
  dsimp only
  rw [hx, hs]
  dsimp only
  rw [if_pos hr]

/-- Settles O30: the head's timers by the stage of the firing, an offer by the line pending or read, and a reading by the place the
reader stands at and what fails of the record there. -/
theorem headEventsAct : Obligations.HeadEventsAct := by
  unfold Obligations.HeadEventsAct
  intro s
  refine ⟨?_, ?_, ?_, ?_, ?_, ?_⟩
  · intro t0 hready hon hdue
    refine (exec_headReady s).trans (event_due ?_)
    unfold headReadyDue
    rw [hready, hon]
    exact decide_eq_true hdue
  · intro c v t0 hmode hlast hdue
    have hsample : timedSampleDue s = true := by
      unfold timedSampleDue
      rw [hmode, hlast]
      exact decide_eq_true hdue
    refine ⟨_, (exec_converterTimedSample c v s).trans (jobEvent_due hsample), ?_⟩
    have he (u : State) : (u.onEnergy (fun e => { e with lastTimed := some s.now })).energy = { u.energy with lastTimed := some s.now } := rfl
    rw [he, takeSamples_energy, judgeThermal_eq, judgeSupply_eq, hmode]
    exact ⟨rfl, rfl, rfl, rfl, fun hr => by rw [hr]; rfl, fun hr => by rw [hr]; rfl⟩
  · intro c v faults l hdue hl u
    have hnext : nextLine { s with dramFaults := faults } = { s with dramFaults := faults } := nextLine_pending hl
    rw [exec_offers hdue, offerLine_line (by rw [hnext]; exact hl), hnext]
  · intro c v faults slot hdue hl hs f read
    have hline : read.jobs.print.line = none := (congrArg PrintSide.line (readLineOf_print .print f)).trans hl
    refine ⟨fun hr => ?_, ?_⟩
    · have hnext : nextLine f = read := nextLine_none hl hr
      rw [exec_offers hdue, offerLine_none (by rw [hnext]; exact hline), hnext]
    · intro x hr hx p l u
      have hnext : nextLine f = setPrint (fun y => { y with line := some l }) read := nextLine_read hl hs hr hx
      rw [exec_offers hdue, offerLine_line (l := l) (by rw [hnext]; rfl), hnext]
  · intro o slot hs hlt r w t
    refine ⟨fun he => ⟨fun b hb => readLineOf_moved hs he hb, fun hb => ?_⟩, fun he hu hb => ?_, ?_⟩
    · obtain ⟨hp, hend, -⟩ := chainFault_does (o := o) hlt
      have ht : t = chainFault o slot s := readLineOf_chainEnds hs he hb
      rw [ht, hp]
      exact ⟨rfl, rfl, hend⟩
    · obtain ⟨hp, hend, -⟩ := chainFault_does (o := o) hlt
      have ht : t = chainFault o slot s := readLineOf_badBlock hs he hu hb
      rw [ht, hp, if_pos hu]
      exact ⟨rfl, rfl, rfl, hend⟩
    · intro he hb here d failing recovered
      have ht : t = readHere o slot (arriveAt o r.readAt s) := readLineOf_here hs he hb
      have arrived : Arrived o slot here s (arriveAt o r.readAt s) := arrived_arriveAt o r.readAt slot s
      rw [ht]
      exact ⟨fun bs => arrived.passes, fun bs => arrived.ends hlt, arrived.conceals hlt⟩
  · intro tag image fresh p rest t0
    refine ⟨fun hf => ?_, fun hf => ?_, fun hf hl => ⟨fun hrest => ?_, fun hrest => ?_⟩⟩
    · have hgoes := endSubpulse_goes hf (g := ⟨tag, image, fresh, p :: rest, if p.fireS2 then .s2 else .gap, s.now⟩) rfl
      exact ⟨fun hl => exec_subpulseEnds hf hl hgoes, fun hl => exec_subpulseLimited hf (fun h => nomatch h) hl hgoes⟩
    · have hgoes := endSubpulse_goes hf (g := ⟨tag, image, fresh, p :: rest, .gap, s.now⟩) rfl
      exact ⟨fun hl => exec_subpulseEnds hf hl hgoes, fun hl => exec_subpulseLimited hf (fun h => nomatch h) hl hgoes⟩
    · exact exec_subpulseEnds hf hl (endSubpulse_strobes hf (if_pos hrest))
    · exact exec_subpulseEnds hf hl (endSubpulse_goes hf (if_neg hrest))

end Sys2Proof.Machine
end

section
/-! The store that the MEMORY phase leaves: the states and lists of a REBUILT store (R172). -/

namespace Sys2Proof.Machine

-- One theorem at a time, as in the tests: a thread for each would exceed the memory allowed.
set_option Elab.async false

variable {s t u : State}

/-! ## Lists checked entry by entry (R172, 3) -/

theorem mem_keepFirst {x : Nat} {seen l : List Nat} : x ∈ keepFirst seen l ↔ x ∈ l ∧ x ∉ seen := by
  induction l generalizing seen with
  | nil => simp [keepFirst]
  | cons y ys ih =>
    unfold keepFirst
    split
    · next hy =>
      rw [ih, List.mem_cons]
      have hy : y ∈ seen := List.contains_iff_mem.1 hy
      exact ⟨fun ⟨hx, hs⟩ => ⟨.inr hx, hs⟩, fun ⟨hx, hs⟩ => ⟨hx.resolve_left fun he => hs (he ▸ hy), hs⟩⟩
    · next hy =>
      have hy : y ∉ seen := fun h => hy (List.contains_iff_mem.2 h)
      rw [List.mem_cons, ih, List.mem_cons, List.mem_cons]
      constructor
      · rintro (rfl | ⟨hx, hs⟩)
        · exact ⟨.inl rfl, hy⟩
        · exact ⟨.inr hx, fun h => hs (.inr h)⟩
      · rintro ⟨hx, hs⟩
        by_cases he : x = y
        · exact .inl he
        · exact .inr ⟨hx.resolve_left he, fun h => h.elim he hs⟩

theorem keepFirst_nodup (seen l : List Nat) : (keepFirst seen l).Nodup := by
  induction l generalizing seen with
  | nil => exact List.nodup_nil
  | cons y ys ih =>
    unfold keepFirst
    split
    · exact ih seen
    · exact List.nodup_cons.2 ⟨fun h => (mem_keepFirst.1 h).2 List.mem_cons_self, ih _⟩

theorem mem_checkedList {pages : List Page} {n slot : Nat} {l : List Nat} : slot ∈ checkedList pages n l ↔
    slot ∈ l ∧ (pages.getD slot .blank).state ≠ .empty ∧ (pages.getD slot .blank).document = n := by
  simp [checkedList, mem_keepFirst]

/-! ## States and lists (R172) -/

theorem getD_map_of {α β : Type} (f : α → β) (l : List α) (i : Nat) (d : α) : (l.map f).getD i (f d) = f (l.getD i d) := by
  rw [List.getD_eq_getElem?_getD, List.getD_eq_getElem?_getD, List.getElem?_map]
  cases l[i]? <;> rfl

theorem pageOf_settledStore (p : Nat) (s : State) : pageOf (s.onStore settledStore) p = (pageOf s p).settled :=
  getD_map_of Page.settled s.store.pages p .blank

theorem docOf_settledStore (n : Nat) (s : State) : docOf (s.onStore settledStore) n =
    { (docOf s n).settled with pages := checkedList (s.store.pages.map Page.settled) n (docOf s n).pages } := by
  unfold docOf
  by_cases hn : n = 0
  · rw [if_pos hn, if_pos hn]; rfl
  · rw [if_neg hn, if_neg hn]
    show ((s.store.documents.zipIdx.map fun p : Document × Nat =>
      { p.1.settled with pages := checkedList (s.store.pages.map Page.settled) (p.2 + 1) p.1.pages }).getD (n - 1) .blank) = _
    rw [List.getD_eq_getElem?_getD, List.getD_eq_getElem?_getD, List.getElem?_map, List.getElem?_zipIdx]
    cases s.store.documents[n - 1]? with
    | none => rfl
    | some d => simp [show n - 1 + 1 = n by omega]

theorem getD_foldl_blank (slots : List Nat) (l : List Page) (p : Nat) :
    (slots.foldl (fun ps slot => modifyAt slot (fun _ => Page.blank) ps) l).getD p .blank = if p ∈ slots then .blank else l.getD p .blank := by
  induction slots generalizing l with
  | nil => simp
  | cons x xs ih =>
    rw [List.foldl_cons, ih, getD_modifyAt_ite]
    by_cases hx : p = x
    · subst hx
      rw [if_pos List.mem_cons_self]
      split
      · rfl
      split
      · rfl
      · next hr => exact List.getD_eq_default _ _ (by simpa using hr)
    · simp [hx]

theorem pageOf_emptySlots (slots : List Nat) (p : Nat) (s : State) :
    pageOf (s.onStore (emptySlots slots)) p = if p ∈ slots then .blank else pageOf s p := getD_foldl_blank slots s.store.pages p

theorem docOf_emptySlots (slots : List Nat) (n : Nat) (s : State) : docOf (s.onStore (emptySlots slots)) n =
    { docOf s n with pages := (docOf s n).pages.filter (fun x => !slots.contains x) } := by
  unfold docOf
  by_cases hn : n = 0
  · rw [if_pos hn, if_pos hn]; rfl
  · rw [if_neg hn, if_neg hn]
    exact getD_map_of (fun d : Document => { d with pages := d.pages.filter (fun x => !slots.contains x) }) s.store.documents (n - 1) .blank

/-- R172: pages and documents as the rebuilding leaves them, but for pages still to be made EMPTY: no page FILLING or read, no document
in use, and each page kept once in the list of the document it names. -/
structure SettledBut (gone : List Nat) (s : State) : Prop where
  page : ∀ p, (pageOf s p).state ≠ .filling ∧ (pageOf s p).readers = 0
  whole : ∀ p, p ∉ gone → (pageOf s p).state ≠ .empty → (pageOf s p).freeAsRead = false
  doc : ∀ n, (docOf s n).state ≠ .opened ∧ (docOf s n).writer = none ∧ (docOf s n).users = 0
  listed : ∀ n, ∀ p ∈ (docOf s n).pages, (pageOf s p).state ≠ .empty ∧ (pageOf s p).document = n
  inList : ∀ p, p ∉ gone → (pageOf s p).state ≠ .empty → p ∈ (docOf s (pageOf s p).document).pages
  once : ∀ n, (docOf s n).pages.Nodup

theorem SettledBut.weaken {gone : List Nat} (h : SettledBut [] s) : SettledBut gone s :=
  { h with whole := fun p _ => h.whole p List.not_mem_nil, inList := fun p _ => h.inList p List.not_mem_nil }

/-- R172: the pages made EMPTY leave their lists. -/
theorem SettledBut.emptied {gone : List Nat} (h : SettledBut gone s) : SettledBut [] (s.onStore (emptySlots gone)) := by
  have live {p : Nat} (hp : (pageOf (s.onStore (emptySlots gone)) p).state ≠ .empty) :
      p ∉ gone ∧ pageOf (s.onStore (emptySlots gone)) p = pageOf s p := by
    rw [pageOf_emptySlots] at hp ⊢
    by_cases hg : p ∈ gone
    · rw [if_pos hg] at hp; exact absurd rfl hp
    · exact ⟨hg, if_neg hg⟩
  refine ⟨fun p => ?_, fun p _ hp => ?_, fun n => ?_, fun n p hp => ?_, fun p _ hp => ?_, fun n => ?_⟩
  · rw [pageOf_emptySlots]
    split
    · exact ⟨fun h => (nomatch h), rfl⟩
    · exact h.page p
  · obtain ⟨hg, he⟩ := live hp
    rw [he] at hp ⊢
    exact h.whole p hg hp
  · rw [docOf_emptySlots]; exact h.doc n
  · rw [docOf_emptySlots] at hp
    obtain ⟨hp, hg⟩ := List.mem_filter.1 hp
    have hg : p ∉ gone := by simpa using hg
    rw [pageOf_emptySlots, if_neg hg]
    exact h.listed n p hp
  · obtain ⟨hg, he⟩ := live hp
    rw [he] at hp ⊢
    rw [docOf_emptySlots]
    exact List.mem_filter.2 ⟨h.inList p hg hp, by simpa using hg⟩
  · rw [docOf_emptySlots]; exact (h.once n).filter _

theorem not_mem_droppedSlots {p : Nat} (hd : p ∉ droppedSlots s.store) (hp : (pageOf s p).state ≠ .empty) :
    listed s.store p = true ∧ (pageOf s p).freeAsRead = false := by
  have hr := pageOf_in_range hp
  unfold droppedSlots at hd
  rw [List.mem_filter, List.mem_range] at hd
  have hkeep : ¬((decide ((pageOf s p).state ≠ .empty) && (!listed s.store p || (pageOf s p).freeAsRead)) = true) := fun h => hd ⟨hr, h⟩
  simpa [hp] using hkeep

theorem mem_docOf_pages {p : Nat} (h : listed s.store p = true) : ∃ n, p ∈ (docOf s n).pages := by
  obtain ⟨d, hd, hp⟩ := List.any_eq_true.1 h
  obtain ⟨i, hi, rfl⟩ := List.mem_iff_getElem.1 hd
  refine ⟨i + 1, ?_⟩
  unfold docOf
  rw [if_neg (Nat.succ_ne_zero i), Nat.add_sub_cancel, List.getD_eq_getElem _ _ hi]
  exact List.contains_iff_mem.1 hp

/-- R172, 1 to 3: the pages that are in no list, or free-as-read, are still there. -/
theorem settledBut_settledStore (s : State) : SettledBut (droppedSlots (settledStore s.store)) (s.onStore settledStore) := by
  have listedOf (n p : Nat) (hp : p ∈ (docOf (s.onStore settledStore) n).pages) :
      (pageOf (s.onStore settledStore) p).state ≠ .empty ∧ (pageOf (s.onStore settledStore) p).document = n := by
    rw [docOf_settledStore] at hp
    exact (mem_checkedList.1 hp).2
  refine ⟨fun p => ?_, fun p hd hp => (not_mem_droppedSlots hd hp).2, fun n => ?_, listedOf, fun p hd hp => ?_, fun n => ?_⟩
  · rw [pageOf_settledStore]
    refine ⟨?_, rfl⟩
    unfold Page.settled
    split
    · exact fun h => nomatch h
    · next h => exact h
  · rw [docOf_settledStore]
    refine ⟨?_, rfl, rfl⟩
    unfold Document.settled
    split
    · exact fun h => nomatch h
    · next h => exact h
  · obtain ⟨n, hn⟩ := mem_docOf_pages (not_mem_droppedSlots hd hp).1
    exact (listedOf n p hn).2 ▸ hn
  · rw [docOf_settledStore]; exact keepFirst_nodup _ _

end Sys2Proof.Machine
end

section
/-! The store that the MEMORY phase leaves: the walks, the sweep, and both builds (O49). -/

namespace Sys2Proof.Machine

-- One theorem at a time, as in the tests: a thread for each would exceed the memory allowed.
set_option Elab.async false

variable {s t u : State}

/-! ## What the rebuilding changes (R172 to R174) -/

/-- Only the page table, the directory, the blocks' records and the recovered count change; no document becomes EMPTY, and no list gains
a page. -/
structure Rebuilds (s t : State) : Prop where
  rest : ∃ pages documents blocks recovered, t = s.onStore (fun st =>
    { st with pages := pages, documents := documents, blocks := blocks, recovered := recovered })
  pages : t.store.pages.length = s.store.pages.length
  blocks : t.store.blocks.length = s.store.blocks.length
  doc : ∀ n, ((docOf t n).state = .empty → (docOf s n).state = .empty) ∧ (docOf t n).pages ⊆ (docOf s n).pages

theorem Rebuilds.refl (s : State) : Rebuilds s s := ⟨⟨_, _, _, _, rfl⟩, rfl, rfl, fun _ => ⟨id, List.Subset.refl _⟩⟩

theorem Rebuilds.trans (a : Rebuilds s t) (b : Rebuilds t u) : Rebuilds s u where
  rest := by
    obtain ⟨_, _, _, _, rfl⟩ := a.rest
    obtain ⟨_, _, _, _, rfl⟩ := b.rest
    exact ⟨_, _, _, _, rfl⟩
  pages := b.pages.trans a.pages
  blocks := b.blocks.trans a.blocks
  doc n := ⟨fun h => (a.doc n).1 ((b.doc n).1 h), fun _ hp => (a.doc n).2 ((b.doc n).2 hp)⟩

theorem rebuilds_settledStore (s : State) : Rebuilds s (s.onStore settledStore) where
  rest := ⟨_, _, _, _, rfl⟩
  pages := List.length_map ..
  blocks := rfl
  doc n := by
    rw [docOf_settledStore]
    refine ⟨?_, fun p hp => (mem_checkedList.1 hp).1⟩
    unfold Document.settled
    split
    · exact fun h => nomatch h
    · exact id

theorem length_foldl_blank (slots : List Nat) (l : List Page) :
    (slots.foldl (fun ps slot => modifyAt slot (fun _ => Page.blank) ps) l).length = l.length := by
  induction slots generalizing l with
  | nil => rfl
  | cons x xs ih => rw [List.foldl_cons, ih, length_modifyAt]

theorem rebuilds_emptySlots (slots : List Nat) (s : State) : Rebuilds s (s.onStore (emptySlots slots)) where
  rest := ⟨_, _, _, _, rfl⟩
  pages := length_foldl_blank slots s.store.pages
  blocks := rfl
  doc n := by
    rw [docOf_emptySlots]
    exact ⟨id, fun p hp => (List.mem_filter.1 hp).1⟩

/-! ## The walk of a page (R173) -/

theorem mem_walkBlocks {slot b c fuel : Nat} {reached : List Nat} (h : b ∈ walkBlocks s slot fuel reached c) : blockGood s slot b = true := by
  induction fuel generalizing reached c with
  | zero => cases h
  | succ fuel ih =>
    unfold walkBlocks at h
    split at h
    · next hgood =>
      rcases List.mem_cons.1 h with rfl | h
      · exact (Bool.and_eq_true_iff.1 hgood).1
      · split at h
        · exact ih h
        · cases h
    · cases h

theorem blockGood_owner {slot b : Nat} (h : blockGood s slot b = true) : (blockOf s b).owner = slot :=
  of_decide_eq_true (Bool.and_eq_true_iff.1 h).2

/-- R173: a record delimited takes a byte or more. -/
theorem walkRecord_pos {chain : List Nat} {w : PageWidth} {p len : Nat} (h : (walkRecord s chain w p).length = some len) : 1 ≤ len := by
  have runs {total : Nat} (h : (walkRuns s chain w p total).length = some len) : 1 ≤ len := by
    unfold walkRuns at h
    dsimp only at h
    split at h
    · cases h; omega
    · cases h
    · split at h
      · cases h; omega
      · cases h
      · cases h
  unfold walkRecord at h
  dsimp only at h
  split at h
  · cases h
  · split at h
    · cases h; exact Nat.le_refl 1
    · cases h; exact Nat.le_refl 1
    · split at h
      · cases h; exact Nat.le_add_right 1 _
      · cases h
    · exact runs h
    · cases h

/-- R173: the place a walk ends at lies a byte or more behind for each record it delimited. -/
theorem walkLines_lines (chain : List Nat) (w : PageWidth) (n p done : Nat) (s : State) (h : done ≤ p) :
    (walkLines chain w n p done s).2.lines ≤ (walkLines chain w n p done s).2.past := by
  induction n generalizing p done s with
  | zero => exact h
  | succ n ih =>
    unfold walkLines
    dsimp only
    split
    · exact h
    · split
      · next len hlen => exact ih _ _ _ (Nat.add_le_add h (walkRecord_pos hlen))
      · exact h

/-- R173: the page record that a walk sets holds the lines it delimited. -/
theorem walked_sized (chain : List Nat) (e : WalkEnd) (p : Page) (h : e.lines ≤ e.past) : (Page.walked chain e p).sized := by
  intro _
  have hplace : lastPlace e.past * 2048 ≤ e.past ∧ e.past ≤ lastPlace e.past * 2048 + 2048 := by
    unfold lastPlace Config.blockBytes
    split <;> omega
  obtain ⟨hle, hfits⟩ := hplace
  refine ⟨Nat.le_add_left 1 _, Nat.sub_le_iff_le_add'.2 hfits, Nat.zero_le _, ?_⟩
  show e.lines ≤ (lastPlace e.past + 1 - 1) * 2048 + (e.past - lastPlace e.past * 2048 - 0)
  omega

/-- Pages and documents stand as settled where pages change in nothing that concerns it. -/
theorem SettledBut.updated (h : SettledBut [] s) (hd : ∀ n, docOf t n = docOf s n)
    (hp : ∀ p, (pageOf t p).readers = (pageOf s p).readers ∧ (pageOf t p).freeAsRead = (pageOf s p).freeAsRead ∧
      (pageOf t p).document = (pageOf s p).document ∧ ((pageOf t p).state = .empty ↔ (pageOf s p).state = .empty) ∧
      ((pageOf t p).state = .filling → (pageOf s p).state = .filling)) : SettledBut [] t := by
  refine ⟨fun p => ?_, fun p hg hl => ?_, fun n => hd n ▸ h.doc n, fun n p hm => ?_, fun p hg hl => ?_, fun n => hd n ▸ h.once n⟩
  · obtain ⟨hr, -, -, -, hfill⟩ := hp p
    exact ⟨fun hf => (h.page p).1 (hfill hf), hr.trans (h.page p).2⟩
  · obtain ⟨-, hf, -, he, -⟩ := hp p
    exact hf.trans (h.whole p hg fun h => hl (he.2 h))
  · obtain ⟨-, -, hn, he, -⟩ := hp p
    rw [hd] at hm
    obtain ⟨hl, hdoc⟩ := h.listed n p hm
    exact ⟨fun h => hl (he.1 h), hn.trans hdoc⟩
  · obtain ⟨-, -, hn, he, -⟩ := hp p
    rw [hd, hn]
    exact h.inList p hg fun h => hl (he.2 h)

/-- R173: what holds once the pages below `i` have been walked: each holds its lines, and a block that a walk has reached belongs to one
of them that is kept. -/
structure Walking (s : State) (i : Nat) (v : Walks) : Prop where
  frame : Rebuilds s v.state
  settled : SettledBut [] v.state
  sized : ∀ p, p < i → (pageOf v.state p).sized
  reached : ∀ b ∈ v.reached, (blockOf v.state b).owner < i ∧ (pageOf v.state (blockOf v.state b).owner).state ≠ .empty

theorem empty_sized {p : Page} (h : p.state = .empty) : p.sized := fun hw => by simp [Page.holdsWhole, h] at hw

/-- The state of a page's walk: its record set, its chain cut behind its last block. -/
def walkedState (slot : Nat) (chain : List Nat) (r : State × WalkEnd) : State :=
  onBlock (chain.getD (lastPlace r.2.past) 0) (fun b => { b with next := none }) (onPage slot (Page.walked chain r.2) r.1)

theorem pageOf_walkedState {slot : Nat} {chain : List Nat} {r : State × WalkEnd} (h : SameChains s r.1)
    (hl : slot < s.store.pages.length) (p : Nat) :
    pageOf (walkedState slot chain r) p = if p = slot then Page.walked chain r.2 (pageOf s slot) else pageOf s p := by
  obtain ⟨bl, n, he, -, -⟩ := h
  unfold walkedState
  rw [pageOf_onBlock, pageOf_onPage_ite, he]
  exact if_congr ⟨fun h => h.1, fun h => ⟨h, hl⟩⟩ rfl rfl

theorem owner_walkedState {slot : Nat} {chain : List Nat} {r : State × WalkEnd} (h : SameChains s r.1) (b : Nat) :
    (blockOf (walkedState slot chain r) b).owner = (blockOf s b).owner := by
  obtain ⟨-, -, -, -, hb⟩ := h
  unfold walkedState
  rw [blockOf_onBlock_ite, ← (hb b).2.1]
  split
  · next hc => rw [hc.1]; rfl
  · rfl

theorem rebuilds_walkedState {slot : Nat} {chain : List Nat} {r : State × WalkEnd} (h : SameChains s r.1) :
    Rebuilds s (walkedState slot chain r) := by
  obtain ⟨bl, n, he, hl, -⟩ := h
  unfold walkedState
  rw [he]
  exact ⟨⟨_, _, _, _, rfl⟩, length_modifyAt _ _ _, (length_modifyAt _ _ _).trans hl, fun _ => ⟨id, List.Subset.refl _⟩⟩

theorem walking_walkPage {i : Nat} {v : Walks} (h : Walking s i v) : Walking s (i + 1) (walkPage v i) := by
  have kept (b : Nat) (hb : b ∈ v.reached) : (blockOf v.state b).owner ≠ i := Nat.ne_of_lt (h.reached b hb).1
  have below {P : Nat → Prop} (hlt : ∀ p, p < i → P p) (hi : P i) (p : Nat) (hp : p < i + 1) : P p :=
    (Nat.lt_succ_iff_lt_or_eq.1 hp).elim (hlt p) fun he => he ▸ hi
  unfold walkPage
  dsimp only
  split
  · next he =>
    exact ⟨h.frame, h.settled, below h.sized (empty_sized he), fun b hb => (h.reached b hb).imp_left Nat.lt_succ_of_lt⟩
  next hlive =>
  split
  · refine ⟨h.frame.trans (rebuilds_emptySlots _ _), h.settled.weaken.emptied, below (fun p hp => ?_) ?_, fun b hb => ?_⟩
    · rw [pageOf_emptySlots, if_neg (by simpa using Nat.ne_of_lt hp)]
      exact h.sized p hp
    · rw [pageOf_emptySlots, if_pos List.mem_cons_self]
      exact blank_sized
    · obtain ⟨ho, hl⟩ := h.reached b hb
      refine ⟨Nat.lt_succ_of_lt ho, ?_⟩
      show (pageOf (v.state.onStore (emptySlots [i])) (blockOf v.state b).owner).state ≠ .empty
      rw [pageOf_emptySlots, if_neg fun hm => kept b hb (List.mem_singleton.1 hm)]
      exact hl
  · generalize hchain : walkBlocks v.state i v.state.store.blocks.length v.reached (pageOf v.state i).firstBlock = chain
    have hgood (b : Nat) (hb : b ∈ chain) : (blockOf v.state b).owner = i := blockGood_owner (mem_walkBlocks (hchain ▸ hb))
    have same := walkLines_sameChains chain (pageOf v.state i).width (pageOf v.state i).committed 0 0 v.state
    have hlines := walkLines_lines chain (pageOf v.state i).width (pageOf v.state i).committed 0 0 v.state (Nat.le_refl 0)
    generalize walkLines chain (pageOf v.state i).width (pageOf v.state i).committed 0 0 v.state = r at same hlines
    have hpage (p : Nat) := pageOf_walkedState (slot := i) (chain := chain) same (pageOf_in_range hlive) p
    have hstate : (Page.walked chain r.2 (pageOf v.state i)).state ≠ .empty := by
      show (if r.2.passed then (pageOf v.state i).state else .damaged) ≠ _
      split
      · exact hlive
      · exact fun h => nomatch h
    have hsettled : SettledBut [] (walkedState i chain r) := by
      refine h.settled.updated (fun n => ?_) fun p => ?_
      · obtain ⟨_, _, he, -, -⟩ := same
        unfold walkedState
        rw [docOf_onBlock, docOf_onPage, he]; rfl
      · rw [hpage]
        split
        · next hp =>
          subst hp
          refine ⟨rfl, rfl, rfl, ⟨fun he => absurd he hstate, fun he => absurd he hlive⟩, fun hf => ?_⟩
          change (if r.2.passed then (pageOf v.state p).state else .damaged) = .filling at hf
          split at hf
          · exact hf
          · cases hf
        · exact ⟨rfl, rfl, rfl, .rfl, id⟩
    refine ⟨h.frame.trans (rebuilds_walkedState same), hsettled, below (fun p hp => ?_) ?_, fun b hb => ?_⟩
    · show (pageOf (walkedState i chain r) p).sized
      rw [hpage, if_neg (Nat.ne_of_lt hp)]
      exact h.sized p hp
    · show (pageOf (walkedState i chain r) i).sized
      rw [hpage, if_pos rfl]
      exact walked_sized chain r.2 _ hlines
    · show (blockOf (walkedState i chain r) b).owner < i + 1 ∧
        (pageOf (walkedState i chain r) (blockOf (walkedState i chain r) b).owner).state ≠ .empty
      rw [owner_walkedState same, hpage]
      rcases List.mem_append.1 hb with hb | hb
      · obtain ⟨ho, hl⟩ := h.reached b hb
        rw [if_neg (kept b hb)]
        exact ⟨Nat.lt_succ_of_lt ho, hl⟩
      · have ho := hgood b (List.mem_of_mem_take hb)
        rw [if_pos ho, ho]
        exact ⟨Nat.lt_succ_self i, hstate⟩

/-- R173: the walks of all pages, in ascending slot order. -/
theorem walking_walkAll (h : SettledBut [] s) : Walking s s.store.pages.length (walkAll s) := by
  unfold walkAll
  generalize s.store.pages.length = n
  induction n with
  | zero => exact ⟨.refl s, h, fun _ hp => absurd hp (Nat.not_lt_zero _), fun _ hb => nomatch hb⟩
  | succ n ih =>
    rw [List.range_succ, List.foldl_append]
    exact walking_walkPage ih

/-! ## The sweep (R174) -/

theorem blockOf_sweep (reached : List Nat) (b : Nat) (s : State) :
    blockOf (s.onStore (sweep reached)) b = if isOrphan reached b (blockOf s b) then (blockOf s b).freed else blockOf s b := by
  show ((s.store.blocks.zipIdx.map fun p : Block × Nat => if isOrphan reached p.2 p.1 then p.1.freed else p.1).getD b .blank) = _
  unfold blockOf
  rw [List.getD_eq_getElem?_getD, List.getD_eq_getElem?_getD, List.getElem?_map, List.getElem?_zipIdx]
  cases s.store.blocks[b]? with
  | none => rfl
  | some x => simp

/-- R174: a block in use after the sweep has been reached by a walk, and its record stands. -/
theorem blockOf_sweep_inUse {reached : List Nat} {b : Nat} (h : (blockOf (s.onStore (sweep reached)) b).inUse) :
    b ∈ reached ∧ (blockOf (s.onStore (sweep reached)) b).owner = (blockOf s b).owner := by
  rw [blockOf_sweep] at h ⊢
  split at h
  · rcases h with h | h <;> unfold Block.freed at h <;> split at h <;> simp_all
  · next hkept =>
    have hin : b ∈ reached := by
      by_contra hb
      apply hkept
      unfold isOrphan
      rcases h with h | h <;> simp [h, hb]
    exact ⟨hin, by rw [if_neg hkept]⟩

/-! ## The store rebuilt -/

/-- R172 to R174: what a REBUILT store is. -/
structure Rebuilt (s t : State) : Prop where
  frame : Rebuilds s t
  settled : SettledBut [] t
  sized : ∀ p, (pageOf t p).sized
  owned : ∀ b, (blockOf t b).inUse → (pageOf t (blockOf t b).owner).state ≠ .empty

/-- R172 to R174. -/
def rebuiltStore (s : State) : State :=
  let v := walkAll ((s.onStore settledStore).onStore (emptySlots (droppedSlots (settledStore s.store))))
  v.state.onStore (sweep v.reached)

theorem rebuilt_rebuiltStore (s : State) : Rebuilt s (rebuiltStore s) := by
  have hstart := (settledBut_settledStore s).emptied
  have hframe := (rebuilds_settledStore s).trans (rebuilds_emptySlots (droppedSlots (settledStore s.store)) (s.onStore settledStore))
  have hwalks := walking_walkAll hstart
  unfold rebuiltStore
  dsimp only
  generalize (s.onStore settledStore).onStore (emptySlots (droppedSlots (settledStore s.store))) = u at hstart hframe hwalks
  generalize walkAll u = v at hwalks
  obtain ⟨hrest, hsettled, hsized, hreached⟩ := hwalks
  refine ⟨(hframe.trans hrest).trans ⟨⟨_, _, _, _, rfl⟩, rfl, ?_, fun _ => ⟨id, List.Subset.refl _⟩⟩,
    hsettled.updated (fun _ => rfl) (fun _ => ⟨rfl, rfl, rfl, .rfl, id⟩), fun p => ?_, fun b hb => ?_⟩
  · simp [sweep, State.onStore]
  · show (pageOf v.state p).sized
    by_cases hp : p < u.store.pages.length
    · exact hsized p hp
    · rw [pageOf_out_of_range (by rw [hrest.pages]; omega)]
      exact blank_sized
  · obtain ⟨hin, ho⟩ := blockOf_sweep_inUse hb
    rw [ho]
    exact (hreached b hin).2

end Sys2Proof.Machine
end

section
/-! The end of the MEMORY phase (O49). -/

namespace Sys2Proof.Machine

-- One theorem at a time, as in the tests: a thread for each would exceed the memory allowed.
set_option Elab.async false

variable {s t u : State}

/-! ## A FRESH store (R170, R171) -/

theorem freshBlocks (size : Nat) (failing : List Nat) (st : Store) {b : Nat} (h : b < 512 * size) :
    (freshStore size failing st).blocks[b]? = some (if b ∈ failing then ⟨.bad, none, 0⟩ else ⟨.free, none, 0⟩) := by
  simp [freshStore, h, Block.blank]

theorem buildFresh_storeBlank (size : Nat) (failing : List Nat) (s : State) : (buildFresh size failing s).storeBlank where
  pages := pageOf_replicate rfl
  documents := docOf_replicate rfl
  blocks b hb := by
    obtain ⟨i, -, rfl⟩ := List.mem_map.1 hb
    split <;> simp [Block.inUse, Block.blank]

/-! ## A REBUILT store (R172 to R174) -/

theorem Rebuilt.storeSound (h : Rebuilt s t) (hscan : s.store.scanIn = ⟨none, none⟩) (hlink : s.store.linkIn = none)
    (hslots : s.scan.slots = List.replicate 16 .free) : t.storeSound := by
  obtain ⟨_, _, _, _, he⟩ := h.frame.rest
  have hscan : t.store.scanIn = ⟨none, none⟩ := he ▸ hscan
  have hlink : t.store.linkIn = none := he ▸ hlink
  have hslots : t.scan.slots = List.replicate 16 .free := he ▸ hslots
  refine storeSound_of h.owned h.settled.listed h.sized ?_ ?_ (fun n r b hb => ?_) ?_ ?_
  · rw [hscan]; exact fun _ h => nomatch h
  · rw [hlink]; exact fun _ h => nomatch h
  · rw [hslots] at hb; cases List.eq_of_mem_replicate hb
  · rw [hscan]; exact fun _ h => nomatch h
  · rw [hlink]; exact fun _ h => nomatch h

theorem emptyDoc_pages (h : ∀ d ∈ s.store.documents, d.state = .empty → d.pages = []) (n : Nat) (hn : (docOf s n).state = .empty) :
    (docOf s n).pages = [] := by
  by_cases hr : 1 ≤ n ∧ n ≤ s.store.documents.length
  · refine h _ ?_ hn
    unfold docOf
    rw [if_neg (by omega), List.getD_eq_getElem _ _ (by omega)]
    exact List.getElem_mem _
  · rw [docOf_out_of_range hr]; rfl

theorem Rebuilt.listsSound (h : Rebuilt s t) (hjobs : s.jobs.slots = [none, none, none, none]) (hprint : s.store.printOut.slot = none)
    (hsend : s.store.linkOut.slot = none) (hempty : ∀ d ∈ s.store.documents, d.state = .empty → d.pages = []) : t.listsSound := by
  obtain ⟨_, _, _, _, he⟩ := h.frame.rest
  have hjobs : t.jobs.slots = [none, none, none, none] := he ▸ hjobs
  have hprint : t.store.printOut.slot = none := he ▸ hprint
  have hsend : t.store.linkOut.slot = none := he ▸ hsend
  exact {
    inList := fun p => h.settled.inList p List.not_mem_nil
    once := h.settled.once
    emptyDoc := fun n hn => List.subset_nil.1 (emptyDoc_pages hempty n ((h.frame.doc n).1 hn) ▸ (h.frame.doc n).2)
    jobDoc := fun k j hj => by rw [(noJobs hjobs).1] at hj; cases hj
    users := fun n => by rw [users_eq_count, (noJobs hjobs).2]; exact Nat.zero_le _
    printPage := fun p hp => by rw [hprint] at hp; cases hp
    sendPage := fun p hp => by rw [hsend] at hp; cases hp }

theorem docOf_of_mem {d : Document} (h : d ∈ s.store.documents) : ∃ n, docOf s n = d := by
  obtain ⟨i, hi, rfl⟩ := List.mem_iff_getElem.1 h
  refine ⟨i + 1, ?_⟩
  unfold docOf
  rw [if_neg (Nat.succ_ne_zero i), Nat.add_sub_cancel, List.getD_eq_getElem _ _ hi]

/-! ## The end of the phase (R169) -/

theorem exec_memoryEnds {b0 b512 : TagRead} {failing : List Nat} {faults : ParityFaults} (hm : s.start.phase = .memory)
    (hu : (if s.start.domainLost then buildFresh (sizeFound b0 b512) failing s else buildRebuilt faults s) = u) :
    exec (.memoryPhaseEnd b0 b512 failing faults) s = .next (settle (u.onStart fun t => { t with phase := .levels })) := by
  rw [exec_memoryPhaseEnd, event_due (decide_eq_true hm), hu]

/-- What follows the building touches no record of the store. -/
theorem storeSound_endMemory {f : StartUp → StartUp} (h : u.storeSound) : (settle (u.onStart f)).storeSound :=
  (keeps_settle (keeps_onStart (.refl u))).store h

theorem listsSound_endMemory {f : StartUp → StartUp} (h : u.listsSound) : (settle (u.onStart f)).listsSound :=
  ⟨h.inList, h.once, h.emptyDoc, h.jobDoc, h.users, h.printPage, h.sendPage⟩

/-- R172 to R174, R178: the store rebuilt, and the counts of the boot report. -/
theorem buildRebuilt_eq (faults : ParityFaults) (s : State) : ∃ u counts, counts.rebuilt = true ∧
    buildRebuilt faults s = u.onStart (fun t => { t with counts := counts }) ∧ Rebuilt (s.onFaults fun _ => faults) u :=
  ⟨_, _, rfl, rfl, rebuilt_rebuiltStore _⟩

/-- Settles O49: a FRESH store is blank; in a REBUILT one each stage keeps what the one before has settled, and what the walks have not
reached the sweep frees. -/
theorem memoryPhaseBuilds : Obligations.MemoryPhaseBuilds := by
  unfold Obligations.MemoryPhaseBuilds
  refine ⟨fun b0 b512 failing faults s hm hlost => ?_, fun b0 b512 failing faults s hm hkept => ?_⟩
  · have blank := buildFresh_storeBlank (sizeFound b0 b512) failing s
    exact ⟨_, exec_memoryEnds hm (if_pos hlost), rfl, rfl, rfl, (List.length_map ..).trans List.length_range,
      fun b hb => freshBlocks _ failing s.store hb, rfl, rfl, rfl,
      fun hscan hlink hslots => storeSound_endMemory (blank.storeSound hscan hlink hslots),
      fun hjobs hprint hsend => listsSound_endMemory (blank.listsSound hjobs hprint hsend)⟩
  · obtain ⟨u, counts, hcounts, hbuilt, rebuilt⟩ := buildRebuilt_eq faults s
    obtain ⟨_, _, _, _, he⟩ := rebuilt.frame.rest
    refine ⟨_, exec_memoryEnds hm ((if_neg (by simp [hkept])).trans hbuilt), rfl, hcounts, rebuilt.frame.blocks, fun p hp => ?_,
      fun d hd => ?_, fun b hb hu => ?_, ?_, ?_, fun hscan hlink hslots => ?_, fun hjobs hprint hsend hempty => ?_⟩
    · obtain ⟨slot, -, rfl⟩ := pageOf_mem (s := u) hp
      obtain ⟨hf, hr⟩ := rebuilt.settled.page slot
      exact ⟨hf, hr, rebuilt.settled.whole slot List.not_mem_nil⟩
    · obtain ⟨n, rfl⟩ := docOf_of_mem (s := u) hd
      obtain ⟨ho, hw, hu⟩ := rebuilt.settled.doc n
      exact ⟨ho, hw, hu, fun p hp => (rebuilt.settled.listed n p hp).1⟩
    · obtain ⟨n, -, rfl⟩ := blockOf_mem (s := u) hb
      exact rebuilt.owned n hu
    · show u.settings = s.settings
      rw [he]; rfl
    · show { u.link with hold := true } = { s.link with hold := true }
      rw [he]; rfl
    · exact storeSound_endMemory (u := u.onStart _) ((keeps_onStart (.refl u)).store (rebuilt.storeSound hscan hlink hslots))
    · have hlists := rebuilt.listsSound hjobs hprint hsend hempty
      exact ⟨hlists.inList, hlists.once, hlists.emptyDoc, hlists.jobDoc, hlists.users, hlists.printPage, hlists.sendPage⟩

end Sys2Proof.Machine
end

section
/-! The span coder's records (O21) and the head's line (O22). -/

namespace Sys2Proof.Machine

-- One theorem at a time, as in the tests: a thread for each would exceed the memory allowed.
set_option Elab.async false

/-! ## The runs of a line (R33, R36) -/

/-- R44: the runs counted of a line, laid out again, are the dots already counted and the line. -/
theorem layRuns_runsFrom (c : Bool) (n : Nat) (l : Line) : layRuns c (runsFrom c n l) = List.replicate n c ++ l := by
  induction l generalizing c n with
  | nil => rfl
  | cons d ds ih =>
    unfold runsFrom
    split
    · next h => rw [ih, h, List.replicate_succ', List.append_assoc, List.singleton_append]
    · next h => rw [layRuns, ← Bool.eq_not_of_ne h, ih]; rfl

theorem layRuns_runsOf (l : Line) : layRuns false (runsOf l) = l := layRuns_runsFrom false 0 l

theorem length_layRuns (c : Bool) (ns : List Nat) : (layRuns c ns).length = ns.sum := by
  induction ns generalizing c with
  | nil => rfl
  | cons n ns ih => simp [layRuns, ih]

theorem sum_runsOf (l : Line) : (runsOf l).sum = l.length := by
  rw [← length_layRuns false, layRuns_runsOf]

/-- R33: only the first run of a line may be empty. -/
theorem runsFrom_eq_cons (c : Bool) (n : Nat) (l : Line) : ∃ m ms, runsFrom c n l = m :: ms ∧ n ≤ m ∧ ∀ x ∈ ms, 0 < x := by
  induction l generalizing c n with
  | nil => exact ⟨n, [], rfl, Nat.le_refl n, fun _ h => nomatch h⟩
  | cons d ds ih =>
    unfold runsFrom
    split
    · obtain ⟨m, ms, he, hm, hpos⟩ := ih c (n + 1)
      exact ⟨m, ms, he, Nat.le_of_succ_le hm, hpos⟩
    · obtain ⟨m, ms, he, hm, hpos⟩ := ih d 1
      exact ⟨n, _, rfl, Nat.le_refl n, he ▸ List.forall_mem_cons.2 ⟨hm, hpos⟩⟩

/-! ## The bytes of a run (R33) -/

/-- The two forms of a run, by the value of its bytes. -/
theorem runBytes_cases {n : Nat} (h : n < 0x8000) :
    (∃ b, runBytes n = [b] ∧ b.toNat < 0x80 ∧ b.toNat = n) ∨
    (∃ b c, runBytes n = [b, c] ∧ ¬b.toNat < 0x80 ∧ (b.toNat - 0x80) * 256 + c.toNat = n) := by
  unfold runBytes
  split
  · exact .inl ⟨_, rfl, by rw [BitVec.toNat_ofNat]; omega, by rw [BitVec.toNat_ofNat]; omega⟩
  · refine .inr ⟨_, _, rfl, ?_, ?_⟩ <;> simp only [BitVec.toNat_ofNat] <;> omega

theorem readRuns_runBytes {n : Nat} (h : n < 0x8000) (rest : List Byte) : readRuns (runBytes n ++ rest) = n :: readRuns rest := by
  rcases runBytes_cases h with ⟨b, he, hb, rfl⟩ | ⟨b, c, he, hb, rfl⟩
  · rw [he]; exact (readRuns.eq_def _).trans (if_pos hb)
  · rw [he]; exact if_neg hb

theorem readRuns_flatMap {ns : List Nat} (h : ∀ n ∈ ns, n < 0x8000) : readRuns (ns.flatMap runBytes) = ns := by
  induction ns with
  | nil => rfl
  | cons n ns ih =>
    obtain ⟨hn, hns⟩ := List.forall_mem_cons.1 h
    rw [List.flatMap_cons, readRuns_runBytes hn, ih hns]

/-- R38: the receiver judges a body run by run. -/
theorem delimitRuns_runBytes {n : Nat} (h : n < 0x8000) (width sum len : Nat) (rest : List Byte) :
    delimitRuns width sum len (runBytes n ++ rest) =
      runsJudge width (sum + n) (len + (runBytes n).length) (delimitRuns width (sum + n) (len + (runBytes n).length) rest) := by
  rcases runBytes_cases h with ⟨b, he, hb, rfl⟩ | ⟨b, c, he, hb, rfl⟩
  · rw [he]; exact (delimitRuns.eq_def _ _ _ _).trans (if_pos hb)
  · rw [he]; exact if_neg hb

/-- R33, R38: since every run but the first has a dot or more, the sum reaches the width with the last run and not before. -/
theorem delimitRuns_flatMap {n : Nat} {ns : List Nat} (hn : n < 0x8000) (hns : ∀ m ∈ ns, 0 < m ∧ m < 0x8000) {width sum : Nat}
    (hsum : sum + (n :: ns).sum = width) (len : Nat) (rest : List Byte) :
    delimitRuns width sum len ((n :: ns).flatMap runBytes ++ rest) = .whole (len + ((n :: ns).flatMap runBytes).length) := by
  induction ns generalizing n sum len with
  | nil =>
    have hlast : sum + n = width := by simpa using hsum
    simp [delimitRuns_runBytes hn, runsJudge, hlast]
  | cons m ms ih =>
    obtain ⟨⟨hpos, hm⟩, hms⟩ := List.forall_mem_cons.1 hns
    simp only [List.sum_cons] at hsum
    rw [List.flatMap_cons, List.append_assoc, delimitRuns_runBytes hn, runsJudge, if_neg (by omega), if_neg (by omega),
      ih hm hms (by simp only [List.sum_cons]; omega), List.length_append, Nat.add_assoc]

/-! ## The runs of a line of a page's width -/

theorem PageWidth.dots_lt (w : PageWidth) : w.dots < 0x8000 := by cases w <;> decide
theorem PageWidth.dots_eq_bytes (w : PageWidth) : w.dots = 8 * (w.dots / 8) := by cases w <;> rfl

section

variable {w : PageWidth} {l : Line} (hl : l.length = w.dots)
include hl

/-- R33: every run of a line can be written. -/
theorem runsOf_lt {n : Nat} (h : n ∈ runsOf l) : n < 0x8000 :=
  calc n ≤ (runsOf l).sum := List.le_sum_of_mem h
    _ = w.dots := (sum_runsOf l).trans hl
    _ < 0x8000 := w.dots_lt

theorem readRuns_runsOf : readRuns ((runsOf l).flatMap runBytes) = runsOf l := readRuns_flatMap fun _ => runsOf_lt hl

theorem delimitRuns_runsOf (rest : List Byte) :
    delimitRuns w.dots 0 0 ((runsOf l).flatMap runBytes ++ rest) = .whole ((runsOf l).flatMap runBytes).length := by
  obtain ⟨n, ns, he, hpos⟩ : ∃ n ns, runsOf l = n :: ns ∧ ∀ m ∈ ns, 0 < m := by
    obtain ⟨n, ns, he, -, hpos⟩ := runsFrom_eq_cons false 0 l
    exact ⟨n, ns, he, hpos⟩
  have hsum := (sum_runsOf l).trans hl
  have hlt := fun m => runsOf_lt hl (n := m)
  rw [he] at hsum hlt ⊢
  obtain ⟨hn, hns⟩ := List.forall_mem_cons.1 hlt
  rw [delimitRuns_flatMap hn (fun m hm => ⟨hpos m hm, hns m hm⟩) ((Nat.zero_add _).trans hsum), Nat.zero_add]

end

/-! ## Bitmaps (R32) -/

theorem byteDots_dotsByte {ds : Line} (h : ds.length = 8) : byteDots (dotsByte ds) = ds := by
  have eight : ∀ a b c d e f g h : Bool, byteDots (dotsByte [a, b, c, d, e, f, g, h]) = [a, b, c, d, e, f, g, h] := by decide
  match ds, h with
  | [a, b, c, d, e, f, g, h], _ => exact eight a b c d e f g h

theorem length_lineBitmap (n : Nat) (l : Line) : (lineBitmap n l).length = n := by
  induction n generalizing l with
  | zero => rfl
  | succ n ih => exact congrArg (· + 1) (ih _)

theorem bitmapDots_lineBitmap {n : Nat} {l : Line} (h : l.length = 8 * n) : bitmapDots (lineBitmap n l) = l := by
  induction n generalizing l with
  | zero => exact (List.length_eq_zero_iff.1 h).symm
  | succ n ih =>
    have hfirst : (l.take 8).length = 8 := by rw [List.length_take]; omega
    have hrest : (l.drop 8).length = 8 * n := by rw [List.length_drop]; omega
    calc bitmapDots (lineBitmap (n + 1) l)
      _ = byteDots (dotsByte (l.take 8)) ++ bitmapDots (lineBitmap n (l.drop 8)) := List.flatMap_cons
      _ = l.take 8 ++ l.drop 8 := by rw [byteDots_dotsByte hfirst, ih hrest]
      _ = l := List.take_append_drop 8 l

/-! ## The records of a line (R36) -/

/-- A record that serves for a line: R44, R36 and R38 in turn. -/
structure CodesLine (w : PageWidth) (previous l : Line) (record : List Byte) : Prop where
  expands : expandRecord w previous record = l
  fits : record.length ≤ w.literalLength
  delimited : ∀ rest, receivedItem w (record ++ rest) = some (.usable record rest)

theorem one_le_literalLength (w : PageWidth) : 1 ≤ w.literalLength := Nat.le_add_right 1 _

theorem codesLine_white (w : PageWidth) (previous : Line) : CodesLine w previous (blankLine w) [headWhite] where
  expands := rfl
  fits := one_le_literalLength w
  delimited _ := rfl

theorem codesLine_repeat (w : PageWidth) (previous : Line) : CodesLine w previous previous [headRepeat] where
  expands := rfl
  fits := one_le_literalLength w
  delimited _ := rfl

/-- R38, R39: the receiver keeps a RUNS record shorter than the LITERAL as it is. -/
theorem codesLine_runs {w : PageWidth} {l : Line} (hl : l.length = w.dots) (previous : Line)
    (hshort : (runsRecord l).length < w.literalLength) : CodesLine w previous l (runsRecord l) where
  expands :=
    calc layRuns false (readRuns ((runsOf l).flatMap runBytes))
      _ = layRuns false (runsOf l) := by rw [readRuns_runsOf hl]
      _ = l := layRuns_runsOf l
  fits := Nat.le_of_lt hshort
  delimited rest := by
    show some (receivedRuns w ((runsOf l).flatMap runBytes ++ rest)) = _
    unfold receivedRuns
    rw [delimitRuns_runsOf hl]
    dsimp only
    rw [List.take_left, List.drop_left]
    exact congrArg some (if_pos hshort)

theorem codesLine_literal {w : PageWidth} {l : Line} (hl : l.length = w.dots) (previous : Line) :
    CodesLine w previous l (literalRecord w l) where
  expands := bitmapDots_lineBitmap (hl.trans w.dots_eq_bytes)
  fits := by simp [literalRecord, length_lineBitmap, PageWidth.literalLength, Nat.add_comm]
  delimited rest := by
    have hlen := length_lineBitmap (w.dots / 8) l
    have hroom : w.dots / 8 ≤ (lineBitmap (w.dots / 8) l ++ rest).length := by
      rw [List.length_append, hlen]
      exact Nat.le_add_right _ _
    calc receivedItem w (literalRecord w l ++ rest)
      _ = some (.usable (headLiteral :: (lineBitmap (w.dots / 8) l ++ rest).take (w.dots / 8))
            ((lineBitmap (w.dots / 8) l ++ rest).drop (w.dots / 8))) := congrArg some (if_pos hroom)
      _ = some (.usable (literalRecord w l) rest) := by rw [List.take_left' hlen, List.drop_left' hlen]; rfl

theorem eq_blankLine {w : PageWidth} {l : Line} (hl : l.length = w.dots) (hwhite : l.all (fun d => !d) = true) : l = blankLine w :=
  List.eq_replicate_iff.2 ⟨hl, fun d hd => (Bool.not_eq_true' d).mp (List.all_eq_true.1 hwhite d hd)⟩

/-- R36: the three tests in order. -/
theorem codesLine_codeLine {w : PageWidth} {l : Line} (hl : l.length = w.dots) (previous : Line) :
    CodesLine w previous l (codeLine w previous l) := by
  unfold codeLine
  split
  · next hwhite => exact eq_blankLine hl hwhite ▸ codesLine_white w previous
  split
  · next hsame => exact hsame ▸ codesLine_repeat w l
  split
  · next hshort => exact codesLine_runs hl previous hshort
  · exact codesLine_literal hl previous

/-- Settles O21: each of the four records the span coder can choose serves for its line. -/
theorem codedLineExpands : Obligations.CodedLineExpands := by
  unfold Obligations.CodedLineExpands
  intro w previous l rest hl
  have hcodes := codesLine_codeLine hl previous
  exact ⟨hcodes.expands, hcodes.fits, hcodes.delimited rest⟩

/-! ## The head's line (R45) -/

/-- The OR of the dots of a line from `a` to `b`. -/
theorem any_drop_take (l : Line) (a b : Nat) :
    ((l.drop a).take (b + 1 - a)).any id = true ↔ ∃ i, a ≤ i ∧ i ≤ b ∧ l[i]? = some true := by
  have hmem : ((l.drop a).take (b + 1 - a)).any id = true ↔ ∃ k, k < b + 1 - a ∧ l[a + k]? = some true := by
    simp [List.mem_iff_getElem?, List.getElem?_take]
  rw [hmem]
  constructor
  · rintro ⟨k, hk, hdot⟩
    exact ⟨a + k, by omega, by omega, hdot⟩
  · rintro ⟨i, hfrom, hto, hdot⟩
    exact ⟨i - a, by omega, by rwa [Nat.add_sub_cancel' hfrom]⟩

theorem length_headLine (l : Line) : (headLine .w2048 l).length = 1728 := by simp [headLine, Config.headDots]

theorem headLine_getElem? (l : Line) {j : Nat} (hj : j < 1728) :
    (headLine .w2048 l)[j]? = some (((l.drop (coveredFrom j)).take (coveredTo j + 1 - coveredFrom j)).any id) := by
  unfold headLine Config.headDots
  rw [List.getElem?_map, List.getElem?_range hj]
  rfl

/-- Settles O22: a head dot is the OR of the source dots it covers. -/
theorem headLineByRule : Obligations.HeadLineByRule := by
  unfold Obligations.HeadLineByRule
  refine ⟨fun l => rfl, fun l => ⟨length_headLine l, fun j hj => ?_⟩⟩
  rw [headLine_getElem? l hj, Option.some_inj]
  exact any_drop_take l (coveredFrom j) (coveredTo j)

end Sys2Proof.Machine
end

section
/-! What the engines and the jobs agree on (R50, R53, R54, R57): the part of the state that `State.jobsSound` reads, and the operations of the
store, the readers, the lamp and the link, which leave it as it stands. -/

namespace Sys2Proof.Machine

-- One theorem at a time, as in the tests: a thread for each would exceed the memory allowed.
set_option Elab.async false

/-! ## The work in hand -/

/-- What the jobs read of a motor: its motion, whether its queue is empty, whether it is ENERGIZING. -/
structure FeedView where
  moving     : Bool
  idle       : Bool
  energizing : Bool

def Feed.view (f : Feed) : FeedView := ⟨f.moving, f.queue.isEmpty, decide (f.current = .energizing)⟩

/-- A job's kind and state. -/
def Job.mark (j : Job) : JobKind × JobState := (j.kind, j.state)

/-- The kinds and states of the jobs, who holds the engines and who waits for them, and the two motors. -/
structure Work where
  slots   : List (Option (JobKind × JobState))
  holders : Engines Holder
  waits   : Engines (List Nat)
  scan    : FeedView
  print   : FeedView

def State.work (s : State) : Work :=
  ⟨s.jobs.slots.map (Option.map Job.mark), s.jobs.holders, s.jobs.waits, s.mech.scanFeed.view, s.mech.printFeed.view⟩

/-- The kind and the state of the job in a slot. -/
def markIn (s : State) (k : Nat) : Option (JobKind × JobState) := (jobIn s k).map Job.mark

variable {s t u : State}

theorem markIn_eq_work (s : State) (k : Nat) : markIn s k = (s.work.slots[k]?).join := by
  simp only [markIn, jobIn, State.work, List.getElem?_map]
  cases s.jobs.slots[k]? <;> rfl

theorem markIn_of_job {k : Nat} {j : Job} (h : jobIn s k = some j) : markIn s k = some (j.kind, j.state) := by
  rw [markIn, h]; rfl

theorem markIn_some {k : Nat} {kind : JobKind} {st : JobState} :
    markIn s k = some (kind, st) ↔ ∃ j, jobIn s k = some j ∧ j.kind = kind ∧ j.state = st := by
  simp [markIn, Option.map_eq_some_iff, Job.mark]

section
variable (h : t.work = s.work)
include h

theorem markIn_of_work (k : Nat) : markIn t k = markIn s k := by rw [markIn_eq_work, markIn_eq_work, h]
theorem holderOf_of_work (e : Engine) : holderOf t e = holderOf s e := congrArg (fun w => w.holders.at e) h
theorem waits_of_work (e : Engine) : t.jobs.waits.at e = s.jobs.waits.at e := congrArg (fun w => w.waits.at e) h

theorem view_of_work (m : Motor) : (feedOf t m).view = (feedOf s m).view := by
  cases m
  · exact congrArg Work.scan h
  · exact congrArg Work.print h
end

theorem rests_iff_view (f : Feed) : f.rests = true ↔ f.view.moving = false ∧ f.view.idle = true := by simp [Feed.rests, Feed.view]

/-! ## The updates of the blocks -/

section
variable (s : State)

@[simp] theorem work_onStore (f : Store → Store) : (s.onStore f).work = s.work := rfl
@[simp] theorem work_onScan (f : ScanPath → ScanPath) : (s.onScan f).work = s.work := rfl
@[simp] theorem work_onEnergy (f : Energy → Energy) : (s.onEnergy f).work = s.work := rfl
@[simp] theorem work_onLink (f : Link → Link) : (s.onLink f).work = s.work := rfl
@[simp] theorem work_onPower (f : Power → Power) : (s.onPower f).work = s.work := rfl
@[simp] theorem work_onStart (f : StartUp → StartUp) : (s.onStart f).work = s.work := rfl
@[simp] theorem work_onLevels (f : Levels → Levels) : (s.onLevels f).work = s.work := rfl
@[simp] theorem work_onRing (f : Ring → Ring) : (s.onRing f).work = s.work := rfl
@[simp] theorem work_onWake (f : WakeTimer → WakeTimer) : (s.onWake f).work = s.work := rfl
@[simp] theorem work_onSilence (f : Silence → Silence) : (s.onSilence f).work = s.work := rfl
@[simp] theorem work_onSettings (f : Settings → Settings) : (s.onSettings f).work = s.work := rfl
@[simp] theorem work_onEvents (f : Events → Events) : (s.onEvents f).work = s.work := rfl
@[simp] theorem work_onDram (f : List Host.Cell → List Host.Cell) : (s.onDram f).work = s.work := rfl
@[simp] theorem work_onFaults (f : ParityFaults → ParityFaults) : (s.onFaults f).work = s.work := rfl
@[simp] theorem work_settle : (settle s).work = s.work := rfl
@[simp] theorem work_onPage (slot : Nat) (f : Page → Page) : (onPage slot f s).work = s.work := rfl
@[simp] theorem work_onBlock (b : Nat) (f : Block → Block) : (onBlock b f s).work = s.work := rfl
@[simp] theorem work_onReader (o : Outlet) (f : Reader → Reader) : (onReader o f s).work = s.work := rfl
@[simp] theorem work_storeBytes (a : Nat) (bs : List Byte) : (storeBytes a bs s).work = s.work := rfl

@[simp] theorem work_onDoc (n : Nat) (f : Document → Document) : (onDoc n f s).work = s.work := by unfold onDoc; split <;> rfl

/-- The print and the send side are no part of it. -/
theorem work_onJobs {f : WorkOrders → WorkOrders} (hs : (f s.jobs).slots = s.jobs.slots)
    (hh : (f s.jobs).holders = s.jobs.holders) (hw : (f s.jobs).waits = s.jobs.waits) : (s.onJobs f).work = s.work := by
  simp [State.work, hs, hh, hw]

@[simp] theorem work_setPrint (f : PrintSide → PrintSide) : (setPrint f s).work = s.work := rfl
@[simp] theorem work_setSend (f : SendSide → SendSide) : (setSend f s).work = s.work := rfl

/-- An update of a job that leaves its kind and its state. -/
@[simp] theorem work_onJob (k : Nat) (f : Job → Job) (hk : ∀ j, (f j).kind = j.kind) (hs : ∀ j, (f j).state = j.state) : (onJob k f s).work = s.work := by
  have : (modifyAt k (Option.map f) s.jobs.slots).map (Option.map Job.mark) = s.jobs.slots.map (Option.map Job.mark) :=
    map_modifyAt_eq (fun x => by cases x <;> simp [Job.mark, hk, hs]) k _
  simp [State.work, onJob, this]

theorem work_mapJobs (f : Job → Job) (hk : ∀ j, (f j).kind = j.kind) (hs : ∀ j, (f j).state = j.state) :
    (s.onJobs (fun w => { w with slots := w.slots.map (Option.map f) })).work = s.work := by
  have : Option.map Job.mark ∘ Option.map f = Option.map Job.mark := by
    funext x; cases x <;> simp [Job.mark, hk, hs]
  simp [State.work, this]

/-- An update of a motor that leaves what the jobs read of it. -/
@[simp] theorem work_onFeed (m : Motor) (f : Feed → Feed) (hm : ∀ x, (f x).moving = x.moving)
    (hq : ∀ x, (f x).queue.isEmpty = x.queue.isEmpty) (hc : ∀ x, (f x).current = x.current) : (onFeed m f s).work = s.work := by
  have hv : ∀ x, (f x).view = x.view := fun x => by simp only [Feed.view, hm, hq, hc]
  cases m <;> simp only [State.work, onFeed, State.onMech, hv]

theorem work_onMech {f : Mechanism → Mechanism} (hs : ∀ x, (f x).scanFeed = x.scanFeed) (hp : ∀ x, (f x).printFeed = x.printFeed) :
    (s.onMech f).work = s.work := by simp [State.work, hs, hp]

end

theorem work_foldl {α : Type} {g : State → α → State} (hg : ∀ s x, (g s x).work = s.work) (l : List α) (s : State) :
    (l.foldl g s).work = s.work :=
  List.foldlRecOn l g (motive := fun t => t.work = s.work) rfl fun t h x _ => (hg t x).trans h

/-! ## Events and the link -/

section
variable (s : State)

@[simp] theorem work_raise (n : Nat) (d : Detail) : (raise n d s).work = s.work := by unfold raise; split <;> rfl
@[simp] theorem work_linkFault (f : LinkFault) : (linkFault f s).work = s.work := by simp [linkFault]
@[simp] theorem work_raiseSensor : (raiseSensor s).work = s.work := by simp [raiseSensor]
@[simp] theorem work_raiseDone (op : DoneOp) (o : DoneOutcome) (n : Nat) : (raiseDone op o n s).work = s.work := by simp [raiseDone]
@[simp] theorem work_beginSending (w : Sending) : (beginSending w s).work = s.work := rfl
@[simp] theorem work_transmitNext : (transmitNext s).work = s.work := rfl
@[simp] theorem work_releaseCommand : (releaseCommand s).work = s.work := rfl
@[simp] theorem work_placeReply (c : Byte) (a : Answer) (d : List Byte) : (placeReply c a d s).work = s.work := rfl

/-! ## The store's operations -/

@[simp] theorem work_lowAfterTaking : (lowAfterTaking s).work = s.work := by unfold lowAfterTaking; split <;> simp
@[simp] theorem work_lowAfterFreeing : (lowAfterFreeing s).work = s.work := by unfold lowAfterFreeing; split <;> simp
@[simp] theorem work_lowAfterSetting : (lowAfterSetting s).work = s.work := by simp [lowAfterSetting]
@[simp] theorem work_linkBlock (slot b : Nat) : (linkBlock slot b s).work = s.work := by unfold linkBlock; dsimp only; split <;> simp
@[simp] theorem work_freeBlock (b : Nat) : (freeBlock b s).work = s.work := by simp [freeBlock]
@[simp] theorem work_freeBlocksOf (bs : List Nat) : (freeBlocksOf bs s).work = s.work := work_foldl (fun s b => work_freeBlock s b) bs s
@[simp] theorem work_forgetPage (slot : Nat) : (forgetPage slot s).work = s.work := rfl
@[simp] theorem work_erasePage (slot : Nat) : (erasePage slot s).work = s.work := by simp [erasePage]

@[simp] theorem pageLeft_kind (n i : Nat) (j : Job) : (j.pageLeft n i).kind = j.kind := by unfold Job.pageLeft; split <;> rfl
@[simp] theorem pageLeft_state (n i : Nat) (j : Job) : (j.pageLeft n i).state = j.state := by unfold Job.pageLeft; split <;> rfl
@[simp] theorem rangeCut_kind (n i : Nat) (j : Job) : (j.rangeCut n i).kind = j.kind := by unfold Job.rangeCut; split <;> rfl
@[simp] theorem rangeCut_state (n i : Nat) (j : Job) : (j.rangeCut n i).state = j.state := by unfold Job.rangeCut; split <;> rfl

@[simp] theorem work_discardPage (slot : Nat) : (discardPage slot s).work = s.work := by
  unfold discardPage
  rw [work_mapJobs _ _ (pageLeft_kind _ _) (pageLeft_state _ _), work_onJobs _ rfl rfl rfl, work_onStore, work_erasePage]

@[simp] theorem work_removePage (slot : Nat) : (removePage slot s).work = s.work := by
  unfold removePage
  rw [work_mapJobs _ _ (rangeCut_kind _ _) (rangeCut_state _ _), work_discardPage]

@[simp] theorem work_onWriter (n : Nat) (f : Job → Job) (hk : ∀ j, (f j).kind = j.kind) (hs : ∀ j, (f j).state = j.state) : (onWriter n f s).work = s.work := by
  unfold onWriter; split <;> simp [hk, hs]

@[simp] theorem work_dropWaiter (w : Waiter) : (dropWaiter w s).work = s.work := rfl
@[simp] theorem work_addWaiter (w : Waiter) : (addWaiter w s).work = s.work := rfl
@[simp] theorem work_dropScanHeld : (dropScanHeld s).work = s.work := rfl
@[simp] theorem work_dropLinkHeld : (dropLinkHeld s).work = s.work := rfl
@[simp] theorem work_freeTaken : (freeTaken s).work = s.work := rfl
@[simp] theorem work_writerLosesPage (slot : Nat) : (writerLosesPage slot s).work = s.work := by
  unfold writerLosesPage; dsimp only; split <;> split <;> rfl
@[simp] theorem work_putBytes (slot : Nat) (bs : List Byte) : (putBytes slot bs s).1.work = s.work := rfl
@[simp] theorem work_commitRecord (slot : Nat) (c : Bool) : (commitRecord slot c s).work = s.work := by simp [commitRecord]
@[simp] theorem work_dropPageLine (slot : Nat) : (dropPageLine slot s).work = s.work := rfl
@[simp] theorem work_dropJobLine (k : Nat) : (dropJobLine k s).work = s.work := by simp [dropJobLine]
@[simp] theorem work_dropAtLimit (slot : Nat) : (dropAtLimit slot s).work = s.work := by simp [dropAtLimit]
@[simp] theorem work_endPageNormally (slot : Nat) : (endPageNormally slot s).work = s.work := rfl
@[simp] theorem work_keepShort (slot : Nat) : (keepShort slot s).work = s.work := rfl
@[simp] theorem work_raiseFull (r : FullReason) : (raiseFull r s).work = s.work := by unfold raiseFull; split <;> simp
end

theorem work_allocate {slot : Nat} (h : allocate slot s = some t) : t.work = s.work := by
  obtain ⟨_, _, rfl⟩ := Option.map_eq_some_iff.1 h
  simp

@[simp] theorem work_appendRecord (slot : Nat) (bs : List Byte) (s : State) : (appendRecord slot bs s).1.work = s.work := by
  unfold appendRecord
  dsimp only
  split
  · rfl
  split
  · next h => simp [work_allocate h]
  · rfl

theorem work_startPage {n : Nat} {r : Resolution} {w : PageWidth} {f : Bool} {p : Nat × State} (h : startPage n r w f s = .ok p) :
    p.2.work = s.work := by
  unfold startPage at h
  dsimp only at h
  split at h
  · cases h
  split at h
  · cases h
  split at h
  · cases h
  cases h
  dsimp only
  cases ha : allocate _ _ with
  | none => simp
  | some x => simp [work_allocate ha]

/-! ## The readers -/

section
variable (s : State)

@[simp] theorem work_whitenHistory : (whitenHistory s).work = s.work := rfl
@[simp] theorem work_whitenFor (o : Outlet) : (whitenFor o s).work = s.work := by cases o <;> rfl

@[simp] theorem work_onReaderJob (o : Outlet) (f : Job → Job) (hk : ∀ j, (f j).kind = j.kind) (hs : ∀ j, (f j).state = j.state) : (onReaderJob o f s).work = s.work := by
  unfold onReaderJob; split <;> simp [hk, hs]

@[simp] theorem work_trimPage (slot lines : Nat) (place : Option Cursor) : (trimPage slot lines place s).work = s.work := by
  unfold trimPage; dsimp only; split <;> simp

@[simp] theorem work_damagePage (slot lines : Nat) (place : Option Cursor) : (damagePage slot lines place s).work = s.work := by
  unfold damagePage; dsimp only; repeat' split
  all_goals simp

@[simp] theorem work_chainFault (o : Outlet) (slot : Nat) : (chainFault o slot s).work = s.work := by simp [chainFault]

@[simp] theorem work_beginPage (o : Outlet) (n i slot : Nat) (f : Bool) : (beginPage o n i slot f s).work = s.work := by
  unfold beginPage; dsimp only; split <;> simp

@[simp] theorem work_lastReaderLeft (slot : Nat) : (lastReaderLeft slot s).work = s.work := by
  unfold lastReaderLeft; dsimp only; split
  · split <;> simp
  · simp

@[simp] theorem work_leavePage (o : Outlet) : (leavePage o s).work = s.work := by
  unfold leavePage; dsimp only; split
  · simp
  · split <;> simp

@[simp] theorem work_toConsumed (o : Outlet) : (toConsumed o s).work = s.work := by simp [toConsumed]
@[simp] theorem work_toStart (o : Outlet) : (toStart o s).work = s.work := by unfold toStart; split <;> simp
@[simp] theorem work_suspectBlocks (bs : List Nat) : (suspectBlocks bs s).work = s.work := work_foldl (fun s b => work_onBlock s b _) bs s
@[simp] theorem work_handOn (o : Outlet) (l : Line) (r : List Byte) (c : Cursor) : (handOn o l r c s).work = s.work := rfl

@[simp] theorem work_conceal (o : Outlet) (slot : Nat) (w : PageWidth) (bs failing : List ChainByte) :
    (conceal o slot w bs failing s).work = s.work := by
  unfold conceal; dsimp only; split <;> simp

@[simp] theorem work_countRecovered (bs : List ChainByte) : (countRecovered bs s).work = s.work := by
  unfold countRecovered; split <;> rfl

@[simp] theorem work_readHere (o : Outlet) (slot : Nat) : (readHere o slot s).work = s.work := by
  unfold readHere; dsimp only; split
  · simp
  · split <;> simp

@[simp] theorem work_arriveAt (o : Outlet) (c : Cursor) : (arriveAt o c s).work = s.work := rfl

@[simp] theorem work_readLineOf (o : Outlet) : (readLineOf o s).work = s.work := by
  unfold readLineOf; dsimp only; repeat' split
  all_goals simp

@[simp] theorem work_consumeLine (o : Outlet) : (consumeLine o s).work = s.work := by
  unfold consumeLine; split <;> simp

@[simp] theorem work_consumeLines (o : Outlet) (n : Nat) : (consumeLines o n s).work = s.work := by
  induction n generalizing s with
  | zero => rfl
  | succ n ih => simp [consumeLines, ih]

@[simp] theorem work_freeFront (slot next : Nat) : (freeFront slot next s).work = s.work := by simp [freeFront]
end

theorem work_farRule {o : Outlet} (h : farRule o s = some t) : t.work = s.work := by
  unfold farRule at h
  split at h
  · cases h
  · obtain ⟨_, _, rfl⟩ := Option.map_eq_some_iff.1 h; simp

/-! ## The head's supply and the modes -/

section
variable (s : State)

@[simp] theorem work_takeSamples (a b : Byte) : (takeSamples a b s).work = s.work := by unfold takeSamples; dsimp only; simp [apply_ite State.work]
@[simp] theorem work_cutStrobe : (cutStrobe s).work = s.work := by unfold cutStrobe; split <;> simp
@[simp] theorem work_headOff : (headOff s).work = s.work := by simp [headOff]
@[simp] theorem work_headOn : (headOn s).work = s.work := by unfold headOn; split <;> simp
@[simp] theorem work_enterActive : (enterActive s).work = s.work := by unfold enterActive; split <;> simp
@[simp] theorem work_enterDoze : (enterDoze s).work = s.work := rfl
@[simp] theorem work_wakeCause (c : WakeCauses) : (wakeCause c s).work = s.work := by unfold wakeCause; split <;> rfl

/-! ## The jobs' operations that change no job's state -/

@[simp] theorem work_freeSlots : (freeSlots s).work = s.work := rfl
@[simp] theorem work_discardScanPage : (discardScanPage s).work = s.work := by
  unfold discardScanPage; split
  · rfl
  · dsimp only; split <;> simp
@[simp] theorem work_keepScanPage : (keepScanPage s).work = s.work := by unfold keepScanPage; split <;> simp
@[simp] theorem work_endLinkPage (keep : Bool) : (endLinkPage keep s).work = s.work := by
  unfold endLinkPage; dsimp only; repeat' split
  all_goals simp
@[simp] theorem work_raiseJob (k : Nat) (f : Option FinalStatus) : (raiseJob k f s).work = s.work := by unfold raiseJob; split <;> simp
@[simp] theorem work_codeEffect (b : Boundary) : (codeEffect b s).work = s.work := by
  unfold codeEffect; repeat' split
  all_goals simp
@[simp] theorem work_beginWork (e : Engine) : (beginWork e s).work = s.work := by cases e <;> rfl
@[simp] theorem work_endWriting (kind : JobKind) (keep : Bool) : (endWriting kind keep s).work = s.work := by
  unfold endWriting; repeat' split
  all_goals simp
@[simp] theorem work_endReading (kind : JobKind) : (endReading kind s).work = s.work := by
  unfold endReading; repeat' split
  all_goals simp
@[simp] theorem work_giveUpWriting (n id : Nat) : (giveUpWriting n id s).work = s.work := by unfold giveUpWriting; split <;> simp
@[simp] theorem work_leaveDocument (j : Job) : (leaveDocument j s).work = s.work := by simp [leaveDocument]
@[simp] theorem work_feedOnlyQueue (m : Motor) : (feedOnlyQueue m s).work = s.work := by simp [feedOnlyQueue]

/-! ## The scan side -/

@[simp] theorem work_lampOn : (lampOn s).work = s.work := rfl
@[simp] theorem work_lampOff : (lampOff s).work = s.work := rfl
@[simp] theorem work_raiseDocJam (p l : Bool) : (raiseDocJam p l s).work = s.work := by simp [raiseDocJam]
@[simp] theorem work_setScanPhase (p : ScanPhase) : (setScanPhase p s).work = s.work := rfl

@[simp] theorem writesPage_kind (n : Nat) (j : Job) : (Job.writesPage n j).kind = j.kind := by unfold Job.writesPage; split <;> rfl
@[simp] theorem writesPage_state (n : Nat) (j : Job) : (Job.writesPage n j).state = j.state := by unfold Job.writesPage; split <;> rfl

@[simp] theorem work_acceptStart (k slot : Nat) : (acceptStart k slot s).work = s.work := by
  simp [acceptStart]

@[simp] theorem work_requestStart (k : Nat) (j : Job) : (requestStart k j s).work = s.work := by
  unfold requestStart scanStart
  split
  · next h => simp [work_startPage h]
  · simp

@[simp] theorem work_waitSilently (k : Nat) (b : Bool) : (waitSilently k b s).work = s.work := by
  unfold waitSilently; dsimp only; split <;> simp
@[simp] theorem work_leadingEdge : (leadingEdge s).work = s.work := rfl
@[simp] theorem work_restingEdge : (restingEdge s).work = s.work := rfl
@[simp] theorem work_edgeStep : (edgeStep s).work = s.work := rfl
@[simp] theorem work_trailingEdge : (trailingEdge s).work = s.work := rfl
@[simp] theorem work_placeEdge : (placeEdge s).work = s.work := by
  unfold placeEdge; dsimp only; repeat' split
  all_goals rfl
@[simp] theorem work_endScanPage (k : Nat) (j : Job) : (endScanPage k j s).work = s.work := by
  unfold endScanPage; dsimp only; split <;> simp
@[simp] theorem work_endScanSide (k : Nat) : (endScanSide k s).work = s.work := by unfold endScanSide; split <;> simp
@[simp] theorem work_beginEject (a : AfterEject) (b : Bool) : (beginEject a b s).work = s.work := rfl
@[simp] theorem work_beginCalibration (b : Bool) : (beginCalibration b s).work = s.work := rfl

/-! ## The print and the send side -/

@[simp] theorem work_starveRead (k : Nat) (b : Bool) : (starveRead k b s).work = s.work := by simp [starveRead]
@[simp] theorem work_nextLine : (nextLine s).work = s.work := by
  unfold nextLine; dsimp only; repeat' split
  all_goals simp
@[simp] theorem work_countClamped (l : StoredLine) (n : Nat) : (countClamped l n s).work = s.work := by unfold countClamped; split <;> rfl
@[simp] theorem work_beginCycle : (beginCycle s).work = s.work := rfl
@[simp] theorem work_cutSucceeded (k : Nat) : (cutSucceeded k s).work = s.work := by simp [cutSucceeded]
@[simp] theorem work_printToConsumed : (printToConsumed s).work = s.work := by simp [printToConsumed]
@[simp] theorem work_backToConsumed : (backToConsumed s).work = s.work := by unfold backToConsumed; split <;> simp
@[simp] theorem work_closeFrame (k : Nat) (b : Bool) : (closeFrame k b s).work = s.work := rfl
@[simp] theorem work_driveOff : (driveOff s).work = s.work := by unfold driveOff; split <;> rfl
@[simp] theorem work_haltScan : (haltScan s).work = s.work := rfl
@[simp] theorem work_haltPrint : (haltPrint s).work = s.work := by simp [haltPrint, apply_ite State.work]
end

end Sys2Proof.Machine
end

section
/-! The jobs' operations keep engines and jobs in agreement (R50 to R63): stops, boundaries, grants, yields, the end of a job. -/

namespace Sys2Proof.Machine

-- One theorem at a time, as in the tests: a thread for each would exceed the memory allowed.
set_option Elab.async false

variable {s t u : State}

/-! ## The agreement by kinds and states -/

/-- R57: a job in one of these states has its motors at rest. -/
def JobState.stands (st : JobState) : Prop := st = .held ∨ st = .boundary

theorem motorEngine_cases (m : Motor) : motorEngine m = .scanner ∧ m = .scan ∨ motorEngine m = .printer ∧ m = .print := by
  cases m
  · exact .inl ⟨rfl, rfl⟩
  · exact .inr ⟨rfl, rfl⟩

theorem jobHolding_iff {e : Engine} {k : Nat} : jobHolding s e = some k ↔ holderOf s e = .job k := by
  unfold jobHolding
  cases holderOf s e <;> simp

theorem jobRests_iff {k : Nat} : jobRests s k = true ↔ ∀ m, holderOf s (motorEngine m) = .job k → (feedOf s m).rests = true := by
  simp only [jobRests, Bool.and_eq_true, Bool.or_eq_true, decide_eq_true_eq, ne_eq, jobHolding_iff]
  constructor
  · rintro ⟨hs, hp⟩ m hm
    cases m
    · exact hs.resolve_left (not_not_intro hm)
    · exact hp.resolve_left (not_not_intro hm)
  · intro h
    exact ⟨or_iff_not_imp_left.2 fun hs => h .scan (not_not.1 hs), or_iff_not_imp_left.2 fun hp => h .print (not_not.1 hp)⟩

/-- `State.jobsSound` by the kinds and states of the jobs, engine by engine. -/
theorem jobsSound_of
    (holds : ∀ k kind st, markIn s k = some (kind, st) → ∀ e, holderOf s e = .job k ↔ st ≠ .waiting ∧ e ∈ kind.engines)
    (held : ∀ e k, holderOf s e = .job k → ∃ x, markIn s k = some x)
    (waits : ∀ e, ∀ k ∈ s.jobs.waits.at e, ∃ kind, markIn s k = some (kind, .waiting) ∧ e ∈ kind.engines)
    (rests : ∀ m k kind st, holderOf s (motorEngine m) = .job k → markIn s k = some (kind, st) → st.stands → (feedOf s m).rests = true)
    (driven : ∀ m, (feedOf s m).current = .energizing → (feedOf s m).moving = true) : s.jobsSound where
  holds k j hj := holds k j.kind j.state (markIn_of_job hj)
  held e k h := by
    obtain ⟨x, hx⟩ := held e k h
    obtain ⟨j, hj, -, -⟩ := markIn_some.1 hx
    simp [hj]
  waits e k h := by
    obtain ⟨kind, hm, he⟩ := waits e k h
    obtain ⟨j, hj, rfl, hst⟩ := markIn_some.1 hm
    exact ⟨j, hj, hst, he⟩
  rests k j hj hst := jobRests_iff.2 fun m hm => rests m k j.kind j.state hm (markIn_of_job hj) hst
  driven := driven

namespace State.jobsSound
variable (h : s.jobsSound)
include h

theorem holder_iff {k : Nat} {kind : JobKind} {st : JobState} (hm : markIn s k = some (kind, st)) (e : Engine) :
    holderOf s e = .job k ↔ st ≠ .waiting ∧ e ∈ kind.engines := by
  obtain ⟨j, hj, rfl, rfl⟩ := markIn_some.1 hm
  exact h.holds k j hj e

theorem holder_mark {e : Engine} {k : Nat} (he : holderOf s e = .job k) :
    ∃ kind st, markIn s k = some (kind, st) ∧ st ≠ .waiting ∧ e ∈ kind.engines := by
  obtain ⟨j, hj⟩ := Option.isSome_iff_exists.1 (h.held e k he)
  exact ⟨j.kind, j.state, markIn_of_job hj, (h.holds k j hj e).1 he⟩

theorem waits_mark {e : Engine} {k : Nat} (hk : k ∈ s.jobs.waits.at e) :
    ∃ kind, markIn s k = some (kind, .waiting) ∧ e ∈ kind.engines := by
  obtain ⟨j, hj, hst, he⟩ := h.waits e k hk
  exact ⟨j.kind, hst ▸ markIn_of_job hj, he⟩

theorem feed_rests {m : Motor} {k : Nat} {kind : JobKind} {st : JobState} (he : holderOf s (motorEngine m) = .job k)
    (hm : markIn s k = some (kind, st)) (hst : st.stands) : (feedOf s m).rests = true := by
  obtain ⟨j, hj, rfl, rfl⟩ := markIn_some.1 hm
  exact jobRests_iff.1 (h.rests k j hj hst) m he

end State.jobsSound

/-- Engines, jobs and waits as they stand, and motors that move only where the agreement lets them. -/
theorem jobsSound_of_feeds (hs : s.jobsSound) (hm : ∀ k, markIn t k = markIn s k) (hh : ∀ e, holderOf t e = holderOf s e)
    (hw : ∀ e, t.jobs.waits.at e = s.jobs.waits.at e)
    (hr : ∀ m k kind st, holderOf s (motorEngine m) = .job k → markIn s k = some (kind, st) → st.stands →
      (feedOf s m).rests = true → (feedOf t m).rests = true)
    (hd : ∀ m, (feedOf t m).current = .energizing → (feedOf t m).moving = true) : t.jobsSound := by
  refine jobsSound_of (fun k kind st h e => ?_) (fun e k h => ?_) (fun e k h => ?_) (fun m k kind st he h hst => ?_) hd
  · rw [hm] at h; rw [hh]; exact hs.holder_iff h e
  · rw [hh] at h
    obtain ⟨kind, st, hx, -⟩ := hs.holder_mark h
    exact ⟨_, (hm k).trans hx⟩
  · rw [hw] at h; rw [hm]; exact hs.waits_mark h
  · rw [hh] at he; rw [hm] at h
    exact hr m k kind st he h hst (hs.feed_rests he h hst)

/-- The agreement reads nothing but the work in hand. -/
theorem jobsSound_of_work (hs : s.jobsSound) (hw : t.work = s.work) : t.jobsSound := by
  have hv : ∀ m, (feedOf t m).view = (feedOf s m).view := view_of_work hw
  refine jobsSound_of_feeds hs (markIn_of_work hw) (holderOf_of_work hw) (waits_of_work hw) (fun m _ _ _ _ _ _ h => ?_) (fun m h => ?_)
  · rw [rests_iff_view] at h ⊢; rwa [hv]
  · have he : (feedOf s m).current = .energizing := by
      have := congrArg FeedView.energizing (hv m)
      simpa [Feed.view, h] using this
    exact (congrArg FeedView.moving (hv m)).trans (hs.driven m he)

/-! ## The state of one job changes -/

/-- The job in the slot is not WAITING: it holds its engines (R53). -/
def runs (s : State) (k : Nat) : Prop := ∃ kind st, markIn s k = some (kind, st) ∧ st ≠ .waiting

theorem runs_of_work (hw : t.work = s.work) {k : Nat} (h : runs s k) : runs t k := by
  obtain ⟨kind, st, hm, hst⟩ := h
  exact ⟨kind, st, (markIn_of_work hw k).trans hm, hst⟩

theorem runs_of_job {k : Nat} {j : Job} (hj : jobIn s k = some j) (hst : j.state ≠ .waiting) : runs s k :=
  ⟨j.kind, j.state, markIn_of_job hj, hst⟩

theorem markIn_onJob {k : Nat} {f : Job → Job} (i : Nat) : markIn (onJob k f s) i =
    if i = k then (jobIn s k).map (fun j => (f j).mark) else markIn s i := by
  unfold markIn
  rw [jobIn_onJob]
  split
  · next h => subst h; cases jobIn s i <;> rfl
  · rfl

/-- R56, R57: a job that holds its engines takes another state in which it holds them; at rest, one that stands still. -/
theorem jobsSound_setState {k : Nat} {f : Job → Job} {st : JobState} (hs : s.jobsSound) (hk : runs s k)
    (hkind : ∀ j, (f j).kind = j.kind) (hst : ∀ j, (f j).state = st) (hw : st ≠ .waiting) (hr : st.stands → jobRests s k = true) :
    (onJob k f s).jobsSound := by
  obtain ⟨kind, st₀, hm, hst₀⟩ := hk
  have hmark : ∀ i, markIn (onJob k f s) i = if i = k then some (kind, st) else markIn s i := fun i => by
    obtain ⟨j, hj, rfl, -⟩ := markIn_some.1 hm
    rw [markIn_onJob, hj]
    simp [Job.mark, hkind, hst]
  have hself : ∀ {i kd x}, markIn (onJob k f s) i = some (kd, x) → i = k ∧ kd = kind ∧ x = st ∨ i ≠ k ∧ markIn s i = some (kd, x) := by
    intro i kd x h
    rw [hmark] at h
    split at h
    · next hi => cases h; exact .inl ⟨hi, rfl, rfl⟩
    · next hi => exact .inr ⟨hi, h⟩
  refine jobsSound_of (fun i kd x h e => ?_) (fun e i h => ?_) (fun e i h => ?_) (fun m i kd x he h hx => ?_) hs.driven
  · rcases hself h with ⟨rfl, rfl, rfl⟩ | ⟨-, h⟩
    · exact (hs.holder_iff hm e).trans (by simp [hst₀, hw])
    · exact hs.holder_iff h e
  · obtain ⟨kd, x, h, -⟩ := hs.holder_mark h
    rw [hmark]
    split
    · exact ⟨_, rfl⟩
    · exact ⟨_, h⟩
  · obtain ⟨kd, hi, he⟩ := hs.waits_mark h
    refine ⟨kd, ?_, he⟩
    rw [hmark, if_neg, hi]
    rintro rfl
    rw [hm] at hi
    cases hi
    exact hst₀ rfl
  · rcases hself h with ⟨rfl, rfl, rfl⟩ | ⟨-, h⟩
    · exact jobRests_iff.1 (hr hx) m he
    · exact hs.feed_rests he h hx

/-! ## Stops and boundaries (R57, R63) -/

theorem jobRests_of_work (hw : t.work = s.work) {k : Nat} (h : jobRests s k = true) : jobRests t k = true :=
  jobRests_iff.2 fun m hm => by
    rw [rests_iff_view, view_of_work hw, ← rests_iff_view]
    exact jobRests_iff.1 h m (by rwa [holderOf_of_work hw] at hm)

theorem jobsSound_enterBoundary {k : Nat} {b : Boundary} (hs : s.jobsSound) (hk : runs s k) (hr : jobRests s k = true) :
    (enterBoundary k b s).jobsSound := by
  have hw := work_codeEffect s b
  unfold enterBoundary
  refine jobsSound_of_work ?_ (work_raiseJob _ k none)
  exact jobsSound_setState (st := .boundary) (jobsSound_of_work hs hw) (runs_of_work hw hk) (fun _ => rfl) (fun _ => rfl) (by decide)
    fun _ => jobRests_of_work hw hr

theorem jobsSound_enterStopped {k : Nat} {stop : Stop} (hs : s.jobsSound) (hk : runs s k) (hr : jobRests s k = true) :
    (enterStopped k stop s).jobsSound := by
  cases stop with
  | hold => exact jobsSound_setState (st := .held) hs hk (fun _ => rfl) (fun _ => rfl) (by decide) fun _ => hr
  | code b => exact jobsSound_enterBoundary hs hk hr

theorem jobsSound_stopJob {k : Nat} {stop : Stop} (hs : s.jobsSound) (hk : runs s k) : (stopJob k stop s).jobsSound := by
  unfold stopJob
  split
  · next hr => exact jobsSound_enterStopped hs hk hr
  · exact jobsSound_setState (st := .holding) hs hk (fun _ => rfl) (fun _ => rfl) (by decide) (by rintro (h | h) <;> cases h)

/-- R57: what JOB-HOLD makes of a job, its motors at rest or not. -/
def Job.stoppedForHold (rests : Bool) (j : Job) : Job :=
  if rests = true then { j with state := .held, pendingStop := none } else { j with state := .holding, pendingStop := some .hold }

theorem stopJob_hold (k : Nat) (s : State) : stopJob k .hold s = onJob k (Job.stoppedForHold (jobRests s k)) s := by
  unfold stopJob enterStopped Job.stoppedForHold
  cases jobRests s k <;> rfl

theorem stoppedForHold_state (rests : Bool) (j : Job) : (j.stoppedForHold rests).state ≠ .waiting := by cases rests <;> simp [Job.stoppedForHold]

/-- A job that takes another state in which it holds its engines leaves every other as it stands. -/
theorem runs_onJob {k i : Nat} {f : Job → Job} (hf : ∀ j, (f j).state ≠ .waiting) (h : runs s i) : runs (onJob k f s) i := by
  obtain ⟨kind, st, hm, hst⟩ := h
  obtain ⟨j, hj, rfl, rfl⟩ := markIn_some.1 hm
  rw [runs, markIn_onJob]
  split
  · next hi => rw [← hi, hj]; exact ⟨_, _, rfl, hf j⟩
  · exact ⟨_, _, hm, hst⟩

/-- A job that carries out an answer, or goes on, is RUNNING (R59, R64). -/
theorem jobsSound_run {k : Nat} {f : Job → Job} (hs : s.jobsSound) (hk : runs s k) (hkind : ∀ j, (f j).kind = j.kind)
    (hst : ∀ j, (f j).state = .running) : (onJob k f s).jobsSound :=
  jobsSound_setState hs hk hkind hst (by decide) (by rintro (h | h) <;> cases h)

/-! ## Engines and wait lists -/

@[simp] theorem Engines.at_set {α : Type} (e i : Engine) (x : α) (v : Engines α) : (v.set e x).at i = if i = e then x else v.at i := by
  cases e <;> cases i <;> rfl

theorem holderOf_setHolder (e i : Engine) (x : Holder) (s : State) : holderOf (setHolder e x s) i = if i = e then x else holderOf s i :=
  Engines.at_set e i x s.jobs.holders

/-- What no change of the engines' holders touches. -/
structure HoldersOnly (s t : State) : Prop where
  marks : ∀ k, markIn t k = markIn s k
  waits : ∀ e, t.jobs.waits.at e = s.jobs.waits.at e
  feeds : ∀ m, (feedOf t m).view = (feedOf s m).view

theorem HoldersOnly.trans (a : HoldersOnly s t) (b : HoldersOnly t u) : HoldersOnly s u :=
  ⟨fun k => (b.marks k).trans (a.marks k), fun e => (b.waits e).trans (a.waits e), fun m => (b.feeds m).trans (a.feeds m)⟩

theorem holdersOnly_of_work (h : t.work = s.work) : HoldersOnly s t := ⟨markIn_of_work h, waits_of_work h, view_of_work h⟩

theorem holdersOnly_setHolder (e : Engine) (x : Holder) (s : State) : HoldersOnly s (setHolder e x s) :=
  ⟨fun _ => rfl, fun _ => rfl, fun m => by cases m <;> rfl⟩

theorem feeds_rests (h : (feedOf t m).view = (feedOf s m).view) : (feedOf t m).rests = (feedOf s m).rests := by
  have hm := congrArg FeedView.moving h
  have hq := congrArg FeedView.idle h
  simp only [Feed.view] at hm hq
  simp only [Feed.rests, hm, hq]

theorem feeds_driven (hs : s.jobsSound) (h : ∀ m, (feedOf t m).view = (feedOf s m).view) (m : Motor)
    (he : (feedOf t m).current = .energizing) : (feedOf t m).moving = true := by
  have hc := congrArg FeedView.energizing (h m)
  have hm := congrArg FeedView.moving (h m)
  simp only [Feed.view, he, decide_true] at hc hm
  exact hm.trans (hs.driven m (of_decide_eq_true hc.symm))

/-- Internal operations take free engines and give up their own: no job's engine changes hands. -/
theorem jobsSound_of_holders (hs : s.jobsSound) (ho : HoldersOnly s t) (hh : ∀ e k, holderOf t e = .job k ↔ holderOf s e = .job k) :
    t.jobsSound := by
  refine jobsSound_of (fun k kind st h e => ?_) (fun e k h => ?_) (fun e k h => ?_) (fun m k kind st he h hst => ?_) (feeds_driven hs ho.feeds)
  · rw [ho.marks] at h; rw [hh]; exact hs.holder_iff h e
  · obtain ⟨kind, st, h, -⟩ := hs.holder_mark ((hh e k).1 h)
    exact ⟨_, (ho.marks k).trans h⟩
  · rw [ho.waits] at h; rw [ho.marks]; exact hs.waits_mark h
  · rw [ho.marks] at h
    rw [feeds_rests (ho.feeds m)]
    exact hs.feed_rests ((hh _ k).1 he) h hst

theorem jobsSound_setHolder {e : Engine} {x : Holder} (hs : s.jobsSound) (ho : ∀ k, holderOf s e ≠ .job k) (hx : ∀ k, x ≠ .job k) :
    (setHolder e x s).jobsSound := by
  refine jobsSound_of_holders hs (holdersOnly_setHolder e x s) fun i k => ?_
  rw [holderOf_setHolder]
  split
  · next h => subst h; exact iff_of_false (hx k) (ho k)
  · rfl

theorem jobsSound_endOp {e : Engine} {op : InternalOp} (hs : s.jobsSound) : (endOp e op s).jobsSound := by
  unfold endOp
  split
  · next ops h =>
    refine jobsSound_setHolder hs (fun k hk => by rw [h] at hk; cases hk) fun k => ?_
    split <;> exact Holder.noConfusion
  · exact hs

theorem work_takeEngine (e : Engine) (x : Holder) (s : State) : (takeEngine e x s).work = (setHolder e x s).work := by
  rw [takeEngine_eq]; rfl

/-- R53, R96, R99, R141, R142: a free engine taken by an internal operation. -/
theorem jobsSound_takeEngine {e : Engine} {ops : List InternalOp} (hs : s.jobsSound) (hf : holderOf s e = .free) :
    (takeEngine e (.internal ops) s).jobsSound :=
  jobsSound_of_work (jobsSound_setHolder hs (fun k hk => by rw [hf] at hk; cases hk) (fun _ => Holder.noConfusion)) (work_takeEngine _ _ _)

theorem markIn_onWaits (e : Engine) (f : List Nat → List Nat) (s : State) (k : Nat) : markIn (onWaits e f s) k = markIn s k := rfl
theorem holderOf_onWaits (e i : Engine) (f : List Nat → List Nat) (s : State) : holderOf (onWaits e f s) i = holderOf s i := rfl
theorem feedOf_onWaits (e : Engine) (f : List Nat → List Nat) (s : State) (m : Motor) : feedOf (onWaits e f s) m = feedOf s m := by cases m <;> rfl
theorem waits_onWaits (e i : Engine) (f : List Nat → List Nat) (s : State) :
    (onWaits e f s).jobs.waits.at i = if i = e then f (s.jobs.waits.at e) else s.jobs.waits.at i := Engines.at_set e i _ s.jobs.waits

/-- What no change of the wait lists touches. -/
structure WaitsOnly (s t : State) : Prop where
  marks   : ∀ k, markIn t k = markIn s k
  holders : ∀ e, holderOf t e = holderOf s e
  feeds   : ∀ m, (feedOf t m).view = (feedOf s m).view

theorem WaitsOnly.refl (s : State) : WaitsOnly s s := ⟨fun _ => rfl, fun _ => rfl, fun _ => rfl⟩

theorem waitsOnly_foldl (l : List Engine) (f : State → Engine → List Nat → List Nat) (s : State) :
    WaitsOnly s (l.foldl (fun s e => onWaits e (f s e) s) s) :=
  List.foldlRecOn l _ (motive := WaitsOnly s) (WaitsOnly.refl s) fun t h e _ =>
    ⟨h.marks, h.holders, fun m => by rw [feedOf_onWaits]; exact h.feeds m⟩

theorem waitsOnly_leaveLists (k : Nat) (s : State) : WaitsOnly s (leaveLists k s) := waitsOnly_foldl _ (fun _ _ l => l.filter (fun x => x != k)) s
theorem waitsOnly_joinLists (k : Nat) (kind : JobKind) (y : Bool) (s : State) : WaitsOnly s (joinLists k kind y s) :=
  waitsOnly_foldl _ (fun s _ => joinList s k y) s

theorem mem_waits_leaveLists {e : Engine} {i k : Nat} : i ∈ (leaveLists k s).jobs.waits.at e ↔ i ∈ s.jobs.waits.at e ∧ i ≠ k := by
  cases e <;> simp [leaveLists, onWaits, Engines.at, Engines.set]

theorem mem_joinList {i k : Nat} {y : Bool} {l : List Nat} (h : i ∈ joinList s k y l) : i = k ∨ i ∈ l := by
  unfold joinList at h
  simp only [List.mem_append, List.mem_singleton] at h
  rcases h with (h | h) | h
  · exact .inr (List.takeWhile_subset _ h)
  · exact .inl h
  · exact .inr (List.dropWhile_subset _ h)

theorem mem_waits_joinLists {e : Engine} {i k : Nat} {kind : JobKind} {y : Bool} (h : i ∈ (joinLists k kind y s).jobs.waits.at e) :
    i ∈ s.jobs.waits.at e ∨ i = k ∧ e ∈ kind.engines := by
  suffices ∀ (l : List Engine) (t : State), i ∈ (l.foldl (fun s e => onWaits e (joinList s k y) s) t).jobs.waits.at e →
      i ∈ t.jobs.waits.at e ∨ i = k ∧ e ∈ l from this kind.engines s h
  intro l
  induction l with
  | nil => exact fun t h => .inl h
  | cons x xs ih =>
    intro t h
    rcases ih _ h with h | ⟨hi, he⟩
    · rw [waits_onWaits] at h
      split at h
      · next hx =>
        subst hx
        exact (mem_joinList h).elim (fun hi => .inr ⟨hi, List.mem_cons_self⟩) .inl
      · exact .inl h
    · exact .inr ⟨hi, List.mem_cons_of_mem _ he⟩

/-! ## The end of a job (R61, R62) -/

/-- The job in slot `k` is gone from the engines and the lists, and all else of the work in hand stands. -/
structure Gone (k : Nat) (s t : State) : Prop where
  marks   : ∀ i, markIn t i = if i = k then none else markIn s i
  holders : ∀ e i, holderOf t e = .job i ↔ holderOf s e = .job i ∧ i ≠ k
  waits   : ∀ e, ∀ i ∈ t.jobs.waits.at e, i ∈ s.jobs.waits.at e ∧ i ≠ k
  feeds   : ∀ m, (feedOf t m).view = (feedOf s m).view

theorem Gone.jobsSound {k : Nat} (g : Gone k s t) (hs : s.jobsSound) : t.jobsSound := by
  have hself : ∀ {i x}, markIn t i = some x → i ≠ k ∧ markIn s i = some x := fun {i x} h => by
    rw [g.marks] at h
    split at h
    · cases h
    · next hi => exact ⟨hi, h⟩
  refine jobsSound_of (fun i kind st h e => ?_) (fun e i h => ?_) (fun e i h => ?_) (fun m i kind st he h hst => ?_) (feeds_driven hs g.feeds)
  · obtain ⟨hi, h⟩ := hself h
    rw [g.holders, hs.holder_iff h]
    exact and_iff_left hi
  · obtain ⟨h, hi⟩ := (g.holders e i).1 h
    obtain ⟨kind, st, h, -⟩ := hs.holder_mark h
    exact ⟨_, by rw [g.marks, if_neg hi, h]⟩
  · obtain ⟨h, hi⟩ := g.waits e i h
    rw [g.marks, if_neg hi]
    exact hs.waits_mark h
  · rw [feeds_rests (g.feeds m)]
    exact hs.feed_rests ((g.holders _ i).1 he).1 (hself h).2 hst

/-- R61, R129: engines given up, each to nobody or to internal operations. -/
structure GivenUp (l : List Engine) (s t : State) : Prop extends HoldersOnly s t where
  others : ∀ e, e ∉ l → holderOf t e = holderOf s e
  given  : ∀ e ∈ l, ∀ k, holderOf t e ≠ .job k

theorem givenUp_setHolder {e : Engine} {x : Holder} (ho : HoldersOnly s u) (hh : ∀ i, holderOf u i = holderOf s i) (hx : ∀ k, x ≠ .job k) :
    GivenUp [e] s (setHolder e x u) where
  toHoldersOnly := ho.trans (holdersOnly_setHolder e x u)
  others i hi := by rw [holderOf_setHolder, if_neg (by simpa using hi), hh]
  given i hi k := by rw [holderOf_setHolder, if_pos (by simpa using hi)]; exact hx k

theorem givenUp_of_work {e : Engine} {x : Holder} (hw : u.work = s.work) (hx : ∀ k, x ≠ .job k) : GivenUp [e] s (setHolder e x u) :=
  givenUp_setHolder (holdersOnly_of_work hw) (holderOf_of_work hw) hx

theorem givenUp_releaseEngine (e : Engine) (s : State) : GivenUp [e] s (releaseEngine e s) := by
  cases e with
  | scanner =>
    exact givenUp_of_work (by simp) fun k => by split <;> exact Holder.noConfusion
  | printer =>
    exact givenUp_of_work (work_onJobs _ rfl rfl rfl |>.trans (by simp)) fun k => by split <;> exact Holder.noConfusion
  | linkIn =>
    exact givenUp_of_work ((work_onStore _ _).trans (work_foldl (fun s _ => work_linkFault s _) _ s)) fun k => Holder.noConfusion
  | linkOut =>
    exact givenUp_of_work ((work_onLink _ _).trans (work_onJobs _ rfl rfl rfl)) fun k => by split <;> exact Holder.noConfusion

theorem givenUp_foldl {g : State → Engine → State} (hg : ∀ s e, GivenUp [e] s (g s e)) (l : List Engine) (s : State) :
    GivenUp l s (l.foldl g s) := by
  induction l generalizing s with
  | nil => exact ⟨⟨fun _ => rfl, fun _ => rfl, fun _ => rfl⟩, fun _ _ => rfl, fun _ h => nomatch h⟩
  | cons x xs ih =>
    have a := hg s x
    have b := ih (g s x)
    refine ⟨a.toHoldersOnly.trans b.toHoldersOnly, fun e he => ?_, fun e he k => ?_⟩
    · obtain ⟨hx, hxs⟩ := not_or.1 (mt List.mem_cons.2 he)
      exact (b.others e hxs).trans (a.others e (by simpa using hx))
    · by_cases hxs : e ∈ xs
      · exact b.given e hxs k
      · simp only [List.foldl_cons]
        rw [b.others e hxs]
        exact a.given e (by simpa using (List.mem_cons.1 he).resolve_right hxs) k

theorem mem_enginesHeld {k : Nat} {e : Engine} : e ∈ enginesHeld s k ↔ holderOf s e = .job k := by
  unfold enginesHeld
  simp only [List.mem_filter, decide_eq_true_eq, jobHolding_iff, and_iff_right_iff_imp]
  cases e <;> simp

theorem markIn_clearSlot (k i : Nat) (s : State) :
    markIn (s.onJobs (fun w => { w with slots := w.slots.set k none })) i = if i = k then none else markIn s i := by
  unfold markIn jobIn
  simp only [State.onJobs_jobs, List.getElem?_set]
  by_cases h : k = i
  · subst h
    by_cases hl : k < s.jobs.slots.length <;> simp [hl]
  · simp [h, Ne.symm h]

theorem gone_endJob {k : Nat} {st : FinalStatus} (hs : s.jobsSound) (hk : (jobIn s k).isSome = true) : Gone k s (endJob k st s) := by
  obtain ⟨j, hj⟩ := Option.isSome_iff_exists.1 hk
  have hmark := markIn_of_job hj
  unfold endJob
  rw [hj]
  dsimp only
  by_cases hheld : enginesHeld s k = []
  · have hnone : ∀ e, holderOf s e ≠ .job k := fun e he => by
      have := mem_enginesHeld.2 he
      rw [hheld] at this; cases this
    have hw := waitsOnly_leaveLists k s
    simp only [hheld, if_true, List.foldl_nil]
    have hwork : (raiseJob k (some st) (leaveDocument j (leaveLists k s))).work = (leaveLists k s).work := by simp
    refine ⟨fun i => ?_, fun e i => ?_, fun e i hi => ?_, fun m => (view_of_work hwork m).trans (hw.feeds m)⟩
    · rw [markIn_clearSlot, markIn_of_work hwork, hw.marks]
    · show holderOf (raiseJob k (some st) (leaveDocument j (leaveLists k s))) e = .job i ↔ _
      rw [holderOf_of_work hwork, hw.holders]
      exact ⟨fun h => ⟨h, fun hi => hnone e (hi ▸ h)⟩, And.left⟩
    · have hi' : i ∈ (leaveLists k s).jobs.waits.at e := by rw [← waits_of_work hwork e]; exact hi
      exact mem_waits_leaveLists.1 hi'
  · simp only [if_neg hheld]
    have hwait : ∀ e, k ∉ s.jobs.waits.at e := fun e he => by
      obtain ⟨kind, hm, -⟩ := hs.waits_mark he
      obtain ⟨e', he'⟩ := List.exists_mem_of_ne_nil _ hheld
      have := (hs.holder_iff hm e').1 (mem_enginesHeld.1 he')
      exact this.1 rfl
    have hbase : (leaveDocument j (endReading j.kind (endWriting j.kind (decide (st = .completed)) s))).work = s.work := by simp
    have hg := givenUp_foldl (fun s e => givenUp_releaseEngine e s) (enginesHeld s k) (leaveDocument j (endReading j.kind (endWriting j.kind (decide (st = .completed)) s)))
    have hwork := work_raiseJob ((enginesHeld s k).foldl (fun s e => releaseEngine e s)
      (leaveDocument j (endReading j.kind (endWriting j.kind (decide (st = .completed)) s)))) k (some st)
    have ho := ((holdersOnly_of_work hbase).trans hg.toHoldersOnly).trans (holdersOnly_of_work hwork)
    refine ⟨fun i => ?_, fun e i => ?_, fun e i hi => ?_, fun m => ho.feeds m⟩
    · rw [markIn_clearSlot, ho.marks]
    · show holderOf (raiseJob k (some st) _) e = .job i ↔ _
      rw [holderOf_of_work hwork]
      by_cases he : e ∈ enginesHeld s k
      · refine iff_of_false (hg.given e he i) fun ⟨h, hi⟩ => hi ?_
        rw [mem_enginesHeld.1 he] at h
        cases h; rfl
      · rw [hg.others e he, holderOf_of_work hbase]
        exact ⟨fun h => ⟨h, fun hi => he (mem_enginesHeld.2 (hi ▸ h))⟩, And.left⟩
    · have hi' : i ∈ s.jobs.waits.at e := by rw [← ho.waits e]; exact hi
      exact ⟨hi', fun h => hwait e (h ▸ hi')⟩

theorem jobsSound_endJob {k : Nat} {st : FinalStatus} (hs : s.jobsSound) : (endJob k st s).jobsSound := by
  cases hj : jobIn s k with
  | none => unfold endJob; rw [hj]; exact hs
  | some j => exact (gone_endJob hs (by simp [hj])).jobsSound hs

end Sys2Proof.Machine
end

section
/-! The jobs' operations keep engines and jobs in agreement: waits and grants (R52 to R55), the motors (R123 to R132). -/

namespace Sys2Proof.Machine

-- One theorem at a time, as in the tests: a thread for each would exceed the memory allowed.
set_option Elab.async false

variable {s t u : State}

/-! ## A job that begins to wait (R52, R55) -/

/-- The job in slot `k` is WAITING, in the lists of the engines it claims at most, and all else of the work in hand stands. -/
structure NowWaits (k : Nat) (kind : JobKind) (s t : State) : Prop where
  marks   : ∀ i, markIn t i = if i = k then some (kind, .waiting) else markIn s i
  holders : ∀ e i, holderOf t e = .job i ↔ holderOf s e = .job i ∧ i ≠ k
  waits   : ∀ e, ∀ i ∈ t.jobs.waits.at e, i ∈ s.jobs.waits.at e ∧ i ≠ k ∨ i = k ∧ e ∈ kind.engines
  feeds   : ∀ m, (feedOf t m).view = (feedOf s m).view

theorem NowWaits.jobsSound {k : Nat} {kind : JobKind} (w : NowWaits k kind s t) (hs : s.jobsSound) : t.jobsSound := by
  have hself : ∀ {i kd x}, markIn t i = some (kd, x) → i = k ∧ kd = kind ∧ x = .waiting ∨ i ≠ k ∧ markIn s i = some (kd, x) := by
    intro i kd x h
    rw [w.marks] at h
    split at h
    · next hi => cases h; exact .inl ⟨hi, rfl, rfl⟩
    · next hi => exact .inr ⟨hi, h⟩
  refine jobsSound_of (fun i kd x h e => ?_) (fun e i h => ?_) (fun e i h => ?_) (fun m i kd x he h hx => ?_) (feeds_driven hs w.feeds)
  · rcases hself h with ⟨rfl, rfl, rfl⟩ | ⟨hi, h⟩
    · exact iff_of_false (fun h => ((w.holders e i).1 h).2 rfl) (fun h => h.1 rfl)
    · rw [w.holders, hs.holder_iff h]
      exact and_iff_left hi
  · obtain ⟨h, hi⟩ := (w.holders e i).1 h
    obtain ⟨kd, x, h, -⟩ := hs.holder_mark h
    exact ⟨_, by rw [w.marks, if_neg hi, h]⟩
  · rcases w.waits e i h with ⟨h, hi⟩ | ⟨rfl, he⟩
    · rw [w.marks, if_neg hi]
      exact hs.waits_mark h
    · exact ⟨kind, by rw [w.marks, if_pos rfl], he⟩
  · rcases hself h with ⟨-, -, rfl⟩ | ⟨-, h⟩
    · rcases hx with hx | hx <;> cases hx
    · rw [feeds_rests (w.feeds m)]
      exact hs.feed_rests ((w.holders _ i).1 he).1 h hx

/-- R55: the record of a job that yields. -/
def Job.yielded (j : Job) : Job := { j with state := .waiting, starvedWrite := false, starvedRead := false, sheetWait := false }

/-- The work in hand at a yield: the job WAITING, its engines free, its place in their lists taken. -/
theorem yieldJob_work (k : Nat) (j : Job) (s : State) : (yieldJob k j s).work =
    (joinLists k j.kind true (j.kind.engines.foldl (fun s e => setHolder e .free s) (onJob k Job.yielded s))).work := by
  unfold yieldJob
  split
  · rfl
  · exact work_onJobs _ rfl rfl rfl
  · exact work_onJobs _ rfl rfl rfl
  · rfl

theorem jobsSound_yieldJob {k : Nat} {j : Job} (hs : s.jobsSound) (hj : jobIn s k = some j) (hst : j.state ≠ .waiting) :
    (yieldJob k j s).jobsSound := by
  refine jobsSound_of_work ?_ (yieldJob_work k j s)
  have hm := markIn_of_job hj
  have hg := givenUp_foldl (g := fun s e => setHolder e .free s)
    (fun s e => givenUp_of_work rfl (fun _ => Holder.noConfusion)) j.kind.engines (onJob k Job.yielded s)
  have hw := waitsOnly_joinLists k j.kind true (j.kind.engines.foldl (fun s e => setHolder e .free s) (onJob k Job.yielded s))
  have hmine : ∀ {e}, e ∈ j.kind.engines → holderOf s e = .job k := fun he => (hs.holder_iff hm _).2 ⟨hst, he⟩
  refine NowWaits.jobsSound (k := k) (kind := j.kind) ⟨fun i => ?_, fun e i => ?_, fun e i hi => ?_, fun m => ?_⟩ hs
  · rw [hw.marks, hg.marks, markIn_onJob, hj]; rfl
  · rw [hw.holders]
    by_cases he : e ∈ j.kind.engines
    · refine iff_of_false (hg.given e he i) fun ⟨h, hi⟩ => hi ?_
      rw [hmine he] at h
      cases h; rfl
    · rw [hg.others e he]
      exact ⟨fun h => ⟨h, fun hi => he ((hs.holder_iff hm e).1 (hi ▸ h)).2⟩, And.left⟩
  · rcases mem_waits_joinLists hi with h | h
    · rw [hg.waits] at h
      refine .inl ⟨h, fun hik => ?_⟩
      obtain ⟨kind, hk, -⟩ := hs.waits_mark h
      rw [hik, hm] at hk
      exact hst (congrArg Prod.snd (Option.some.inj hk))
    · exact .inr h
  · rw [hw.feeds, hg.feeds]; rfl

/-- R50, R52: the record and the document's changes of a job that starts, its place in the wait lists still to be taken. -/
def recordJob (k : Nat) (j : Job) (s : State) : State :=
  onDoc j.document (fun d => { d with users := d.users + 1, writer := if j.kind.writes then some j.id else d.writer })
    (s.onJobs (fun w => { w with slots := w.slots.set k (some j), nextId := j.id % 255 + 1, startCount := (w.startCount + 1) % 65536 }))

theorem fillSlot_eq (k : Nat) (j : Job) (s : State) : fillSlot k j s = joinLists k j.kind false (recordJob k j s) := rfl

theorem recordJob_work (k : Nat) (j : Job) (s : State) : (recordJob k j s).work =
    { s.work with slots := (s.jobs.slots.set k (some j)).map (Option.map Job.mark) } := work_onDoc _ _ _

/-- R50, R52: a job started in a slot that no job holds. -/
theorem jobsSound_fillSlot {k : Nat} {j : Job} (hs : s.jobsSound) (hk : jobIn s k = none) (hlen : k < s.jobs.slots.length)
    (hst : j.state = .waiting) : (fillSlot k j s).jobsSound := by
  have hm : markIn s k = none := by rw [markIn, hk]; rfl
  have hv := recordJob_work k j s
  have hw := waitsOnly_joinLists k j.kind false (recordJob k j s)
  rw [fillSlot_eq]
  refine NowWaits.jobsSound (k := k) (kind := j.kind) ⟨fun i => ?_, fun e i => ?_, fun e i hi => ?_, fun m => ?_⟩ hs
  · rw [hw.marks, markIn_eq_work, hv]
    simp only [List.map_set, List.getElem?_set, Option.map_some, List.length_map, markIn_eq_work s, State.work]
    by_cases h : k = i
    · subst h; simp [hlen, Job.mark, hst]
    · simp [h, Ne.symm h]
  · rw [hw.holders, show holderOf (recordJob k j s) e = holderOf s e from congrArg (fun w => w.holders.at e) hv]
    refine ⟨fun h => ⟨h, ?_⟩, And.left⟩
    rintro rfl
    obtain ⟨kind, st, hx, -⟩ := hs.holder_mark h
    rw [hm] at hx; cases hx
  · have hvw : (recordJob k j s).jobs.waits.at e = s.jobs.waits.at e := congrArg (fun w => w.waits.at e) hv
    rcases mem_waits_joinLists hi with h | h
    · rw [hvw] at h
      refine .inl ⟨h, ?_⟩
      rintro rfl
      obtain ⟨kind, hx, -⟩ := hs.waits_mark h
      rw [hm] at hx; cases hx
    · exact .inr h
  · refine (hw.feeds m).trans ?_
    cases m
    · exact congrArg Work.scan hv
    · exact congrArg Work.print hv

/-! ## Grants (R54) -/

/-- R54: what the rule grants: a WAITING job, all its engines free. -/
theorem grantable_spec {e : Engine} {k : Nat} {kind : JobKind} (hs : s.jobsSound) (h : grantable s e = some (k, kind)) :
    markIn s k = some (kind, .waiting) ∧ ∀ i ∈ kind.engines, holderOf s i = .free := by
  unfold grantable at h
  split at h
  · cases h
  next hfree =>
  replace hfree := not_not.1 hfree
  split at h
  · cases h
  next k' hhead =>
  obtain ⟨kd, hm, he⟩ := hs.waits_mark (List.mem_of_mem_head? hhead)
  have hkind : kindIn s k' = some kd := by
    obtain ⟨j, hj, rfl, -⟩ := markIn_some.1 hm
    simp [kindIn, hj]
  rw [hkind] at h
  split at h
  · cases h
  · next hc =>
    cases hc
    split at h
    · next hall =>
      cases h
      refine ⟨hm, fun i hi => ?_⟩
      simp only [JobKind.engines, List.mem_cons, List.not_mem_nil, or_false] at hi
      rcases hi with rfl | rfl
      · exact hall.1
      · exact hall.2.1
    · cases h
  · next kd' hcopy hk =>
    cases hk
    cases h
    refine ⟨hm, fun i hi => ?_⟩
    have : i = e := by
      cases kind <;> simp_all [JobKind.engines]
    rw [this, hfree]

theorem HoldersOnly.foldl {g : State → Engine → State} (hg : ∀ s e, HoldersOnly s (g s e)) (l : List Engine) (s : State) :
    HoldersOnly s (l.foldl g s) :=
  List.foldlRecOn l g (motive := HoldersOnly s) ⟨fun _ => rfl, fun _ => rfl, fun _ => rfl⟩ fun t h e _ => h.trans (hg t e)

theorem holderOf_taken (x : Holder) (l : List Engine) (s : State) (i : Engine) :
    holderOf (l.foldl (fun s e => beginWork e (takeEngine e x s)) s) i = if i ∈ l then x else holderOf s i := by
  induction l generalizing s with
  | nil => rfl
  | cons e es ih =>
    rw [List.foldl_cons, ih, holderOf_of_work (work_beginWork _ e), holderOf_of_work (work_takeEngine e x s), holderOf_setHolder]
    by_cases h : i ∈ es <;> by_cases he : i = e <;> simp [h, he]

/-- R54: a job out of the lists, its engines taken and its sides begun. -/
def engage (k : Nat) (kind : JobKind) (s : State) : State :=
  kind.engines.foldl (fun s e => beginWork e (takeEngine e (.job k) s)) (leaveLists k s)

/-- R54: the work in hand of a grant. -/
theorem grantJob_work (k : Nat) (kind : JobKind) (s : State) :
    (grantJob k kind s).work = (onJob k (fun j => { j with state := .running }) (engage k kind s)).work := by
  unfold grantJob
  dsimp only
  split
  · exact work_enterActive _
  · rfl

theorem jobsSound_grantJob {k : Nat} {kind : JobKind} (hs : s.jobsSound) (hm : markIn s k = some (kind, .waiting))
    (hf : ∀ e ∈ kind.engines, holderOf s e = .free) : (grantJob k kind s).jobsSound := by
  refine jobsSound_of_work ?_ (grantJob_work k kind s)
  have hw := waitsOnly_leaveLists k s
  have hv : HoldersOnly (leaveLists k s) (engage k kind s) := HoldersOnly.foldl (fun s e => (holdersOnly_setHolder e (.job k) s).trans
    (holdersOnly_of_work ((work_beginWork _ e).trans (work_takeEngine e _ s)))) kind.engines _
  have hh : ∀ e, holderOf (engage k kind s) e = if e ∈ kind.engines then .job k else holderOf s e := fun e => by
    rw [show holderOf (engage k kind s) e = _ from holderOf_taken _ _ _ e, hw.holders]
  have hmark : ∀ i, markIn (onJob k (fun j => { j with state := .running }) (engage k kind s)) i = if i = k then some (kind, .running) else markIn s i := by
    intro i
    have hmk := (hv.marks k).trans ((hw.marks k).trans hm)
    obtain ⟨j, hj, rfl, -⟩ := markIn_some.1 hmk
    rw [markIn_onJob, hj, hv.marks, hw.marks]; rfl
  have hself : ∀ {i kd x}, markIn (onJob k (fun j => { j with state := .running }) (engage k kind s)) i = some (kd, x) →
      i = k ∧ kd = kind ∧ x = .running ∨ i ≠ k ∧ markIn s i = some (kd, x) := by
    intro i kd x h
    rw [hmark] at h
    split at h
    · next hi => cases h; exact .inl ⟨hi, rfl, rfl⟩
    · next hi => exact .inr ⟨hi, h⟩
  have hfeeds : ∀ m, (feedOf (onJob k (fun j => { j with state := .running }) (engage k kind s)) m).view = (feedOf s m).view :=
    fun m => (hv.feeds m).trans (hw.feeds m)
  have hnotfree : ∀ {e : Engine} {i : Nat}, holderOf s e = .job i → e ∉ kind.engines := fun h he => by
    rw [hf _ he] at h; cases h
  refine jobsSound_of (fun i kd x h e => ?_) (fun e i h => ?_) (fun e i h => ?_) (fun m i kd x he h hx => ?_) (feeds_driven hs hfeeds)
  · show holderOf (engage k kind s) e = _ ↔ _
    rw [hh]
    rcases hself h with ⟨rfl, rfl, rfl⟩ | ⟨hi, h⟩
    · split
      · next he => simp [he]
      · next he => exact iff_of_false (fun hj => ((hs.holder_iff hm e).1 hj).1 rfl) (fun hj => he hj.2)
    · rw [← hs.holder_iff h]
      split
      · next he => exact iff_of_false (fun hj => hi (Holder.job.inj hj).symm) (fun hj => hnotfree hj he)
      · rfl
  · rw [hmark]
    split
    · exact ⟨_, rfl⟩
    · next hi =>
      replace h : holderOf (engage k kind s) e = .job i := h
      rw [hh] at h
      split at h
      · exact absurd (Holder.job.inj h).symm hi
      · obtain ⟨kd, x, h, -⟩ := hs.holder_mark h
        exact ⟨_, h⟩
  · replace h : i ∈ (engage k kind s).jobs.waits.at e := h
    rw [hv.waits] at h
    obtain ⟨h, hi⟩ := mem_waits_leaveLists.1 h
    rw [hmark, if_neg hi]
    exact hs.waits_mark h
  · rcases hself h with ⟨-, -, rfl⟩ | ⟨hi, h⟩
    · rcases hx with hx | hx <;> cases hx
    · replace he : holderOf (engage k kind s) (motorEngine m) = .job i := he
      rw [hh] at he
      split at he
      · exact absurd (Holder.job.inj he).symm hi
      · rw [feeds_rests (hfeeds m)]
        exact hs.feed_rests he h hx

theorem jobsSound_grantRule (hs : s.jobsSound) (ht : grantRule s = some t) : t.jobsSound := by
  obtain ⟨⟨k, kind⟩, hg, rfl⟩ := Option.map_eq_some_iff.1 ht
  obtain ⟨e, -, hg⟩ := List.exists_of_findSome?_eq_some hg
  obtain ⟨hm, hf⟩ := grantable_spec hs hg
  exact jobsSound_grantJob hs hm hf

/-! ## The motors (R123, R124, R131) -/

/-- R57: no job that stands still holds the motor's engine. -/
def mayMove (s : State) (m : Motor) : Prop :=
  ∀ k kind st, holderOf s (motorEngine m) = .job k → markIn s k = some (kind, st) → ¬st.stands

theorem mayMove_of_work {m : Motor} (hw : t.work = s.work) (h : mayMove s m) : mayMove t m := fun k kind st he hm =>
  h k kind st ((holderOf_of_work hw _).symm.trans he) ((markIn_of_work hw k).symm.trans hm)

/-- R128: a job that stands still has a stop request in force, so nothing is admitted. -/
theorem mayMove_of_admits {m : Motor} (h : admits s m = true) : mayMove s m := by
  intro k kind st he hm hst
  obtain ⟨j, hj, -, rfl⟩ := markIn_some.1 hm
  have hstop : stopped s m = true := by
    have hb : (jobHolding s (motorEngine m)).bind (jobIn s) = some j := by rw [jobHolding_iff.2 he]; exact hj
    simp only [stopped, stopCauses, hb, StopCauses.list, Option.map_some, Option.getD_some, List.any_cons, id]
    rcases hst with hst | hst <;> simp [Job.stopsForHold, Job.stopsForBoundary, hst]
  simp [admits, hstop] at h

theorem mayMove_of_moving {m : Motor} (hs : s.jobsSound) (h : (feedOf s m).rests = false) : mayMove s m := fun k kind st he hm hst => by
  rw [hs.feed_rests he hm hst] at h; cases h

theorem mayMove_of_free {m : Motor} (h : ∀ k, holderOf s (motorEngine m) ≠ .job k) : mayMove s m := fun k _ _ he => absurd he (h k)

theorem feedOf_onFeed (m i : Motor) (f : Feed → Feed) (s : State) :
    feedOf (onFeed m f s) i = if i = m then f (feedOf s m) else feedOf s i := by cases m <;> cases i <;> rfl

/-- An update of a motor: it may move only where no job that stands still holds it, and ENERGIZING leads to a motion. -/
theorem jobsSound_onFeed {m : Motor} {f : Feed → Feed} (hs : s.jobsSound)
    (hr : mayMove s m ∨ ((feedOf s m).rests = true → (f (feedOf s m)).rests = true))
    (hd : (f (feedOf s m)).current = .energizing → (f (feedOf s m)).moving = true) : (onFeed m f s).jobsSound := by
  refine jobsSound_of_feeds hs (fun _ => rfl) (fun _ => rfl) (fun _ => rfl) (fun i k kind st he hm hst h => ?_) (fun i h => ?_)
  · rw [feedOf_onFeed]
    split
    · next hi => subst hi; exact hr.elim (fun hr => absurd hst (hr k kind st he hm)) fun hr => hr h
    · exact h
  · rw [feedOf_onFeed] at h ⊢
    split at h
    · next hi => subst hi; simpa using hd h
    · next hi => rw [if_neg hi]; exact hs.driven i h

theorem jobsSound_enqueue {m : Motor} {e : Entry} (hs : s.jobsSound) (h : mayMove s m) : (enqueue m e s).jobsSound :=
  jobsSound_onFeed hs (.inl h) (hs.driven m)

theorem jobsSound_setCurrent {m : Motor} {c : MotorState} (hs : s.jobsSound) (hc : c ≠ .energizing) : (setCurrent m c s).jobsSound :=
  jobsSound_onFeed hs (.inr id) fun h => absurd h hc

theorem jobsSound_motorsOff (hs : s.jobsSound) : (motorsOff s).jobsSound :=
  jobsSound_setCurrent (m := .print) (c := .off) (jobsSound_setCurrent (m := .scan) (c := .off) hs (by decide)) (by decide)

theorem jobsSound_enterStandby (hs : s.jobsSound) : (enterStandby s).jobsSound :=
  jobsSound_of_work (jobsSound_motorsOff (jobsSound_of_work hs (work_headOff s))) (by simp [enterStandby])

end Sys2Proof.Machine
end

section
/-! What follows of itself within a step keeps engines and jobs in agreement (R54, R57, R63 to R77), and so does the emergency stop (R135). -/

namespace Sys2Proof.Machine

-- One theorem at a time, as in the tests: a thread for each would exceed the memory allowed.
set_option Elab.async false

variable {s t u : State}

/-- The first of two rules that applies. -/
theorem orElse_some {P : State → Prop} {a b : Option State} (ha : a = some t → P t) (hb : b = some t → P t) (ht : (a <|> b) = some t) : P t := by
  cases a with
  | none => exact hb ht
  | some x => exact ha ht

/-! ## Page ends and boundaries (R55, R63) -/

theorem mark_nextPage (j : Job) : j.nextPage.kind = j.kind ∧ j.nextPage.state = j.state := ⟨rfl, rfl⟩

theorem jobsSound_endIfDone {k : Nat} (hs : s.jobsSound) : (endIfDone k s).jobsSound := by
  unfold endIfDone
  split
  · split
    · exact hs
    split
    · exact jobsSound_of_work hs (work_onJob s k _ (fun _ => rfl) fun _ => rfl)
    · exact jobsSound_endJob hs
  · exact hs

theorem jobsSound_compareAtPageEnd {k : Nat} (hs : s.jobsSound) : (compareAtPageEnd k s).jobsSound := by
  unfold compareAtPageEnd
  split
  · exact hs
  next j hj =>
  split
  · exact hs
  split
  · next hrun =>
    split
    · exact jobsSound_yieldJob hs hj (by simp [hrun])
    · exact hs
  · exact jobsSound_of_work hs (by simp)

theorem jobsSound_moveOn {k : Nat} (hs : s.jobsSound) : (moveOn k s).jobsSound :=
  jobsSound_compareAtPageEnd (jobsSound_endIfDone (jobsSound_of_work hs (work_onJob s k _ (fun _ => rfl) fun _ => rfl)))

theorem jobsSound_carryNext {k : Nat} (hs : s.jobsSound) : (carryNext k s).jobsSound := by
  unfold carryNext
  split
  · exact jobsSound_compareAtPageEnd (jobsSound_of_work hs rfl)
  · exact jobsSound_moveOn (jobsSound_of_work hs rfl)
  · exact jobsSound_moveOn (jobsSound_of_work hs rfl)
  · exact hs

@[simp] theorem work_carryRepeat (k : Nat) (s : State) : (carryRepeat k s).work = s.work := by
  have h := work_onJob s k (fun j => { j with pageRemoved := false }) (fun _ => rfl) fun _ => rfl
  unfold carryRepeat
  dsimp only
  split
  · exact h
  · exact h
  · exact h

theorem jobsSound_carryPageEnd {k : Nat} {c : Choice} (hs : s.jobsSound) : (carryPageEnd k c s).jobsSound := by
  unfold carryPageEnd
  split
  · exact jobsSound_carryNext hs
  · exact jobsSound_of_work hs (work_carryRepeat k s)
  · exact jobsSound_endJob hs

theorem jobsSound_meet {k : Nat} {b : Boundary} (hs : s.jobsSound) (hk : runs s k) : (meet k b s).jobsSound := by
  unfold meet
  split
  · exact hs
  split
  · exact jobsSound_carryPageEnd hs
  · exact jobsSound_stopJob hs hk

/-- A code met after changes that leave the work in hand. -/
theorem jobsSound_meet_of_work {k : Nat} {b : Boundary} (hs : s.jobsSound) (hk : runs s k) (hw : t.work = s.work) :
    (meet k b t).jobsSound := jobsSound_meet (jobsSound_of_work hs hw) (runs_of_work hw hk)

/-! ## The jobs that hold the engines (R53) -/

theorem runs_of_holder {e : Engine} {k : Nat} (hs : s.jobsSound) (h : holderOf s e = .job k) : runs s k := by
  obtain ⟨kind, st, hm, hst, -⟩ := hs.holder_mark h
  exact ⟨kind, st, hm, hst⟩

theorem runs_of_held {e : Engine} {k : Nat} {j : Job} (hs : s.jobsSound)
    (h : (jobHolding s e).bind (fun k => (jobIn s k).map (fun j => (k, j))) = some (k, j)) : runs s k :=
  runs_of_holder hs (jobHolding_iff.1 (jobHeld_eq h).1)

/-- R63: a code met where the job can meet it. -/
theorem jobsSound_canMeet {k : Nat} {j : Job} {c : BoundaryCode} (hs : s.jobsSound) (hk : runs s k)
    (ht : (if canMeet j c then some (meet k (plainCode c) s) else none) = some t) : t.jobsSound := by
  split at ht
  · cases ht; exact jobsSound_meet hs hk
  · cases ht

/-! ## The scan side (R65 to R67, R84 to R100) -/

section
variable (hs : s.jobsSound)
include hs

theorem jobsSound_jamScan {k : Nat} {r : Reason} (hk : runs s k) : (jamScan k r s).jobsSound :=
  jobsSound_meet_of_work hs hk (by simp)

theorem jobsSound_meetFull {k : Nat} {r : FullReason} {mid : Bool} (hk : runs s k) : (meetFull k r mid s).jobsSound :=
  jobsSound_meet_of_work hs hk (by simp)

theorem jobsSound_noRoom {k : Nat} {j : Job} {r : FullReason} {mid : Bool} (hk : runs s k) (ht : noRoom k j r mid s = some t) :
    t.jobsSound := by
  unfold noRoom at ht
  split at ht
  · cases ht
  split at ht
  · split at ht <;> cases ht
    exact jobsSound_of_work hs (work_waitSilently s k _)
  split at ht <;> cases ht
  exact jobsSound_meetFull hs hk

/-- An entry admitted after changes that leave the work in hand. -/
theorem jobsSound_admitted {m : Motor} {e : Entry} (ha : admits s m = true) (hw : t.work = s.work) : (enqueue m e t).jobsSound :=
  jobsSound_enqueue (jobsSound_of_work hs hw) (mayMove_of_work hw (mayMove_of_admits ha))

theorem jobsSound_ejectOffer {e : Eject} (ht : ejectOffer s e = some t) : t.jobsSound := by
  unfold ejectOffer at ht
  split at ht
  · cases ht
  split at ht
  · split at ht
    · next ha => cases ht; exact jobsSound_admitted hs ha rfl
    · cases ht
  split at ht
  · cases ht
  split at ht
  · split at ht
    · next ha => cases ht; exact jobsSound_admitted hs ha.2.2 rfl
    · cases ht
  split at ht
  · cases ht; exact jobsSound_of_work hs rfl
  split at ht
  · next ha => cases ht; exact jobsSound_admitted hs ha rfl
  · cases ht

theorem jobsSound_afterEject {k : Nat} {a : AfterEject} : (afterEject k a s).jobsSound := by
  cases a
  · exact jobsSound_endJob (jobsSound_of_work hs rfl)
  · exact jobsSound_endJob (jobsSound_of_work hs rfl)
  · exact jobsSound_of_work hs (work_endScanSide _ k)

theorem jobsSound_lookRule {k : Nat} {j : Job} {again : Bool} (ht : lookRule k j again s = some t) : t.jobsSound := by
  refine jobsSound_of_work hs ?_
  unfold lookRule heldLook at ht
  split at ht
  · split at ht
    · cases ht
    split at ht <;> cases ht
    simp
  split at ht
  · cases ht; simp
  split at ht
  · cases ht; simp
  split at ht <;> cases ht
  simp

theorem jobsSound_warmRule {k : Nat} {j : Job} (hk : runs s k) (ht : warmRule k j s = some t) : t.jobsSound := by
  unfold warmRule at ht
  split at ht
  · split at ht <;> cases ht
    · exact jobsSound_jamScan hs hk
    · exact jobsSound_of_work hs rfl
  · cases ht

theorem jobsSound_pickRule {k : Nat} {j : Job} (hk : runs s k) (ht : pickRule k j s = some t) : t.jobsSound := by
  unfold pickRule at ht
  dsimp only at ht
  split at ht
  · split at ht
    · split at ht <;> cases ht
      exact jobsSound_of_work hs rfl
    · split at ht
      · next ha => cases ht; exact jobsSound_admitted hs ha.2 rfl
      · cases ht
  split at ht <;> cases ht
  exact jobsSound_jamScan hs hk

theorem jobsSound_linesRule {k : Nat} {j : Job} (hk : runs s k) (ht : linesRule k j s = some t) : t.jobsSound := by
  unfold linesRule at ht
  dsimp only at ht
  split at ht
  · cases ht; exact jobsSound_jamScan hs hk
  split at ht
  · next ha => cases ht; exact jobsSound_admitted hs ha.2 rfl
  split at ht
  · next ha => cases ht; exact jobsSound_admitted hs ha.2 rfl
  split at ht
  · cases ht; exact jobsSound_of_work hs (work_endScanPage s k j)
  split at ht
  · next ha =>
    simp only [Bool.and_eq_true, Bool.or_eq_true, decide_eq_true_eq] at ha
    cases ht
    split
    · exact jobsSound_of_work hs rfl
    · next hsteps => exact jobsSound_admitted hs (ha.2.resolve_left hsteps) rfl
  split at ht <;> cases ht
  exact jobsSound_of_work hs rfl

theorem jobsSound_pageDoneRule {k : Nat} {j : Job} (hk : runs s k) (ht : pageDoneRule k j s = some t) : t.jobsSound := by
  unfold pageDoneRule at ht
  split at ht
  · split at ht <;> cases ht
    exact jobsSound_of_work hs rfl
  · exact jobsSound_canMeet hs hk ht

theorem jobsSound_ejectRule {k : Nat} {j : Job} (hk : runs s k) (ht : ejectRule k j s = some t) : t.jobsSound := by
  unfold ejectRule at ht
  split at ht
  · split at ht
    · cases ht; exact jobsSound_jamScan hs hk
    split at ht
    · next ho => cases ht; exact jobsSound_ejectOffer hs ho
    · split at ht <;> cases ht
      exact jobsSound_afterEject hs
  · cases ht

theorem jobsSound_midPageRule {k : Nat} {j : Job} (hk : runs s k) (ht : midPageRule k j s = some t) : t.jobsSound := by
  unfold midPageRule at ht
  split at ht
  · exact jobsSound_noRoom hs hk ht
  split at ht <;> cases ht
  exact jobsSound_of_work hs (by simp)

theorem jobsSound_lostRule {k : Nat} {j : Job} (hk : runs s k) (ht : lostRule k j s = some t) : t.jobsSound := by
  unfold lostRule at ht
  split at ht
  · split at ht <;> cases ht
    exact jobsSound_meet_of_work hs hk rfl
  · cases ht

theorem jobsSound_heldStartRule {k : Nat} {j : Job} (ht : heldStartRule k j s = some t) : t.jobsSound := by
  unfold heldStartRule at ht
  split at ht <;> cases ht
  exact jobsSound_of_work hs (by simp)

theorem jobsSound_scanPhaseRule {k : Nat} {j : Job} (hk : runs s k) (ht : scanPhaseRule k j s = some t) : t.jobsSound := by
  unfold scanPhaseRule at ht
  split at ht
  · exact jobsSound_lookRule hs ht
  · exact jobsSound_lookRule hs ht
  · exact orElse_some (P := State.jobsSound) (jobsSound_noRoom hs hk) (jobsSound_heldStartRule hs) ht
  · exact jobsSound_warmRule hs hk ht
  · exact jobsSound_pickRule hs hk ht
  · exact jobsSound_linesRule hs hk ht
  · exact jobsSound_pageDoneRule hs hk ht
  · exact jobsSound_ejectRule hs hk ht
  · cases ht
  · cases ht
  · cases ht

theorem jobsSound_scanRule (ht : scanRule s = some t) : t.jobsSound := by
  unfold scanRule at ht
  split at ht
  · cases ht
  next k j hj =>
  have hk : runs s k := runs_of_held hs hj
  refine orElse_some (P := State.jobsSound) (jobsSound_lostRule hs hk) (orElse_some (P := State.jobsSound) (fun ht => ?_) (jobsSound_scanPhaseRule hs hk)) ht
  split at ht
  · exact jobsSound_midPageRule hs hk ht
  · cases ht

theorem jobsSound_docEjectRule (ht : docEjectRule s = some t) : t.jobsSound := by
  unfold docEjectRule at ht
  split at ht
  · split at ht
    · cases ht
    split at ht
    · cases ht; exact jobsSound_of_work hs (by simp)
    split at ht
    · next ho => cases ht; exact jobsSound_ejectOffer hs ho
    split at ht <;> cases ht
    exact jobsSound_of_work (jobsSound_endOp (jobsSound_of_work hs (work_onScan s _))) (work_raiseDone _ _ _ _)
  · cases ht

theorem jobsSound_lampRule (ht : lampRule s = some t) : t.jobsSound := by
  unfold lampRule at ht
  split at ht <;> cases ht
  exact jobsSound_of_work hs rfl

/-! ## The print side (R68 to R71, R140) -/

theorem jobsSound_starveReadRule {k : Nat} {j : Job} {b : Bool} (ht : starveReadRule k j b s = some t) : t.jobsSound := by
  unfold starveReadRule at ht
  split at ht <;> cases ht
  exact jobsSound_of_work hs (work_starveRead s k b)

theorem jobsSound_copyEnd {k : Nat} {j : Job} : (copyEnd k j s).jobsSound := by
  unfold copyEnd
  split
  · exact jobsSound_of_work hs (work_onJob s k _ (fun _ => rfl) fun _ => rfl)
  split
  · exact jobsSound_of_work hs (by simp)
  · exact jobsSound_endJob hs

theorem jobsSound_needPageRule {k : Nat} {j : Job} (ht : needPageRule k j s = some t) : t.jobsSound := by
  unfold needPageRule waitingRule at ht
  split at ht
  · exact jobsSound_starveReadRule hs ht
  split at ht
  · exact jobsSound_starveReadRule hs ht
  · cases ht; exact jobsSound_copyEnd hs
  · cases ht; exact jobsSound_of_work hs (by simp)
  · cases ht; exact jobsSound_of_work hs (by simp)

theorem jobsSound_printingRule {k : Nat} {j : Job} (ht : printingRule k j s = some t) : t.jobsSound := by
  unfold printingRule at ht
  split at ht
  · exact jobsSound_starveReadRule hs ht
  split at ht
  · exact jobsSound_starveReadRule hs ht
  · exact jobsSound_starveReadRule hs ht
  · cases ht; exact jobsSound_of_work hs (by simp)

theorem jobsSound_readDoneRule (ht : readDoneRule s = some t) : t.jobsSound := by
  unfold readDoneRule at ht
  split at ht
  · cases ht
    refine jobsSound_of_work hs ?_
    split <;> simp
  · cases ht

theorem jobsSound_cuttingRule {j : Job} (ht : cuttingRule j s = some t) : t.jobsSound := by
  unfold cuttingRule at ht
  split at ht
  · cases ht; exact jobsSound_of_work hs rfl
  · split at ht
    · cases ht; exact jobsSound_of_work hs rfl
    split at ht
    · next ha => cases ht; exact jobsSound_admitted hs ha rfl
    · cases ht
  · split at ht <;> cases ht
    exact jobsSound_of_work hs rfl
  · cases ht
  · cases ht; exact jobsSound_of_work hs rfl

theorem jobsSound_pageCutRule {k : Nat} {j : Job} (hk : runs s k) (ht : pageCutRule k j s = some t) : t.jobsSound := by
  unfold pageCutRule at ht
  split at ht
  · split at ht <;> cases ht
    exact jobsSound_of_work hs (work_onJob _ k _ (fun _ => rfl) fun _ => rfl)
  · exact jobsSound_canMeet hs hk ht

theorem jobsSound_printRule (ht : printRule s = some t) : t.jobsSound := by
  unfold printRule at ht
  split at ht
  · cases ht
  next k j hj =>
  have hk : runs s k := runs_of_held hs hj
  split at ht
  · exact jobsSound_starveReadRule hs ht
  split at ht
  · cases ht
  · exact jobsSound_needPageRule hs ht
  · exact jobsSound_printingRule hs ht
  · exact jobsSound_readDoneRule hs ht
  · exact jobsSound_cuttingRule hs ht
  · exact jobsSound_pageCutRule hs hk ht
  · exact jobsSound_canMeet hs hk ht

/-! ## The send side (R76, R77) -/

theorem jobsSound_noCreditRule {k : Nat} (ht : noCreditRule k s = some t) : t.jobsSound := by
  unfold noCreditRule at ht
  split at ht <;> cases ht
  exact jobsSound_of_work hs rfl

theorem jobsSound_placeRecord {k : Nat} {j : Job} {l : ReadLine} (ht : placeRecord k j l s = some t) : t.jobsSound := by
  unfold placeRecord at ht
  dsimp only at ht
  split at ht
  · cases ht; exact jobsSound_of_work hs rfl
  split at ht <;> cases ht
  exact jobsSound_of_work hs (by simp)

theorem jobsSound_sendingRule {k : Nat} {j : Job} (ht : sendingRule k j s = some t) : t.jobsSound := by
  unfold sendingRule at ht
  dsimp only at ht
  split at ht
  · cases ht; exact jobsSound_of_work hs (work_setSend s _)
  split at ht
  · split at ht
    · exact jobsSound_noCreditRule hs ht
    · exact jobsSound_placeRecord hs ht
  split at ht
  · split at ht
    · cases ht; exact jobsSound_of_work hs (by simp)
    split at ht
    · exact jobsSound_noCreditRule hs ht
    · cases ht
      refine jobsSound_of_work hs ?_
      split <;> simp
  · split at ht
    · cases ht; exact jobsSound_of_work hs (by simp)
    split at ht <;> cases ht
    exact jobsSound_of_work hs rfl
  · split at ht <;> cases ht
    · exact jobsSound_of_work hs rfl
    · exact jobsSound_of_work hs (by simp)

theorem jobsSound_sendNeedPageRule {k : Nat} {j : Job} (ht : sendNeedPageRule k j s = some t) : t.jobsSound := by
  unfold sendNeedPageRule waitingRule at ht
  split at ht
  · exact jobsSound_starveReadRule hs ht
  split at ht
  · exact jobsSound_starveReadRule hs ht
  · cases ht; exact jobsSound_endJob hs
  · cases ht; exact jobsSound_of_work hs (by simp)
  · cases ht; exact jobsSound_of_work hs (by simp)

theorem jobsSound_sendRule (ht : sendRule s = some t) : t.jobsSound := by
  unfold sendRule at ht
  split at ht
  · cases ht
  next k j hj =>
  have hk : runs s k := runs_of_held hs hj
  split at ht
  · exact jobsSound_sendNeedPageRule hs ht
  · split at ht
    · cases ht; exact jobsSound_of_work hs (by simp)
    split at ht
    · cases ht; exact jobsSound_of_work hs (by simp)
    split at ht
    · cases ht
    split at ht
    · exact jobsSound_sendingRule hs ht
    split at ht <;> cases ht
    exact jobsSound_of_work hs rfl
  · exact jobsSound_canMeet hs hk ht
  · cases ht
  · cases ht

/-! ## What follows of itself -/

theorem jobsSound_serveScan (ht : serveScan s = some t) : t.jobsSound := by
  unfold serveScan at ht
  split at ht
  · obtain ⟨v, ha, rfl⟩ := Option.map_eq_some_iff.1 ht
    exact jobsSound_of_work hs (by simp [work_allocate ha])
  · cases ht

theorem jobsSound_serveLink (ht : serveLink s = some t) : t.jobsSound := by
  unfold serveLink at ht
  split at ht
  · obtain ⟨v, ha, rfl⟩ := Option.map_eq_some_iff.1 ht
    exact jobsSound_of_work hs (by simp [work_allocate ha])
  · cases ht

theorem jobsSound_serveStart (ht : serveStart s = some t) : t.jobsSound := by
  unfold serveStart at ht
  split at ht
  · cases ht
  split at ht
  · split at ht
    · next hstart => cases ht; exact jobsSound_of_work hs (by simp [work_startPage hstart])
    · cases ht
  · cases ht

theorem jobsSound_serveRule (ht : serveRule s = some t) : t.jobsSound := by
  obtain ⟨w, -, ht⟩ := List.exists_of_findSome?_eq_some ht
  cases w
  · exact jobsSound_serveScan hs ht
  · exact jobsSound_serveLink hs ht
  · exact jobsSound_serveStart hs ht

theorem jobsSound_holdingRule (ht : holdingRule s = some t) : t.jobsSound := by
  obtain ⟨k, -, ht⟩ := List.exists_of_findSome?_eq_some ht
  split at ht
  · next j hj =>
    split at ht
    · next hc => cases ht; exact jobsSound_enterStopped hs (runs_of_job hj (by simp [hc.1])) hc.2
    · cases ht
  · cases ht

theorem jobsSound_internalRule (ht : internalRule s = some t) : t.jobsSound := by
  unfold internalRule at ht
  split at ht
  · cases ht; exact jobsSound_endOp hs
  split at ht
  · cases ht; exact jobsSound_endOp hs
  split at ht <;> cases ht
  exact jobsSound_of_work (jobsSound_endOp hs) (work_raiseDone _ _ _ _)

theorem jobsSound_farRule {o : Outlet} (ht : farRule o s = some t) : t.jobsSound := jobsSound_of_work hs (work_farRule ht)

theorem jobsSound_nextRule (ht : nextRule s = some t) : t.jobsSound :=
  orElse_some (P := State.jobsSound) (jobsSound_lampRule hs) (orElse_some (P := State.jobsSound) (jobsSound_farRule hs)
    (orElse_some (P := State.jobsSound) (jobsSound_farRule hs) (orElse_some (P := State.jobsSound) (jobsSound_serveRule hs)
    (orElse_some (P := State.jobsSound) (jobsSound_scanRule hs) (orElse_some (P := State.jobsSound) (jobsSound_docEjectRule hs)
    (orElse_some (P := State.jobsSound) (jobsSound_printRule hs) (orElse_some (P := State.jobsSound) (jobsSound_sendRule hs)
    (orElse_some (P := State.jobsSound) (jobsSound_holdingRule hs) (orElse_some (P := State.jobsSound) (jobsSound_internalRule hs)
    (jobsSound_grantRule hs)))))))))) ht

theorem jobsSound_advance : (advance s).jobsSound := advanceBy_induction (fun _ _ ht h => jobsSound_nextRule h ht) _ hs

/-! ## The emergency stop (R135, R136) -/

/-- R135: both motors halted, at rest and OFF. -/
theorem jobsSound_halted : (s.onMech (fun x => { x with scanFeed := x.scanFeed.halted s.now, printFeed := x.printFeed.halted s.now })).jobsSound :=
  jobsSound_onFeed (m := .print) (f := Feed.halted s.now) (jobsSound_onFeed (m := .scan) (f := Feed.halted s.now) hs (.inr fun _ => rfl) (fun h => nomatch h))
    (.inr fun _ => rfl) (fun h => nomatch h)

theorem jobsSound_ite {c : Prop} [Decidable c] (ht : t.jobsSound) : (if c then t else s).jobsSound := by
  split
  exacts [ht, hs]

theorem jobsSound_raiseDone {op : DoneOp} {o : DoneOutcome} {n : Nat} : (raiseDone op o n s).jobsSound :=
  jobsSound_of_work hs (work_raiseDone s op o n)

/-- An internal operation ended with its DONE. -/
theorem jobsSound_doneIf {c : Prop} [Decidable c] {e : Engine} {x : InternalOp} {op : DoneOp} {o : DoneOutcome} {n : Nat} :
    (if c then raiseDone op o n (endOp e x s) else s).jobsSound :=
  jobsSound_ite hs (jobsSound_raiseDone (jobsSound_endOp hs))

theorem jobsSound_emergencyOps {o : DoneOutcome} : (emergencyOps o s).jobsSound := by
  unfold emergencyOps
  extract_lets afterEject afterAdvance afterCut
  have heject : afterEject.jobsSound := jobsSound_ite hs (jobsSound_raiseDone (jobsSound_endOp (jobsSound_of_work hs (work_onScan s _))))
  have hadvance : afterAdvance.jobsSound := jobsSound_doneIf heject
  exact jobsSound_endOp (jobsSound_doneIf hadvance)
end

theorem holdersOnly_endOp (e : Engine) (op : InternalOp) (s : State) : HoldersOnly s (endOp e op s) := by
  unfold endOp
  split
  · exact holdersOnly_setHolder _ _ s
  · exact holdersOnly_of_work rfl

theorem HoldersOnly.doneIf {c : Prop} [Decidable c] {e : Engine} {x : InternalOp} {op : DoneOp} {o : DoneOutcome} {n : Nat}
    (h : HoldersOnly s t) (hu : u.work = t.work) : HoldersOnly s (if c then raiseDone op o n (endOp e x u) else t) := by
  split
  · exact h.trans ((holdersOnly_of_work hu).trans ((holdersOnly_endOp e x u).trans (holdersOnly_of_work (work_raiseDone _ _ _ _))))
  · exact h

theorem holdersOnly_emergencyOps (o : DoneOutcome) (s : State) : HoldersOnly s (emergencyOps o s) := by
  unfold emergencyOps
  extract_lets afterEject afterAdvance afterCut
  have heject : HoldersOnly s afterEject := HoldersOnly.doneIf (holdersOnly_of_work rfl) rfl
  have hadvance : HoldersOnly s afterAdvance := HoldersOnly.doneIf heject rfl
  exact HoldersOnly.trans (HoldersOnly.doneIf hadvance rfl) (holdersOnly_endOp _ _ _)

/-- R135: no motor moves and no step is queued. -/
def halted (s : State) : Prop := ∀ m, (feedOf s m).rests = true

theorem halted_of_feeds (h : halted s) (hv : ∀ m, (feedOf t m).view = (feedOf s m).view) : halted t := fun m => (feeds_rests (hv m)).trans (h m)

theorem view_enterBoundary (k : Nat) (b : Boundary) (s : State) (m : Motor) : (feedOf (enterBoundary k b s) m).view = (feedOf s m).view :=
  (view_of_work (work_raiseJob _ k none) m).trans (view_of_work (s := s) (work_codeEffect s b) m)

theorem jobsRests_of_halted {k : Nat} (h : halted s) : jobRests s k = true := jobRests_iff.2 fun m _ => h m

/-- R136: a job brought to a boundary, the motors halted. -/
theorem jobsSound_boundaryHalted {k : Nat} {b : Boundary} (hs : s.jobsSound) (hh : halted s) (hk : runs s k) (hw : t.work = s.work) :
    (enterBoundary k b t).jobsSound ∧ halted (enterBoundary k b t) :=
  ⟨jobsSound_enterBoundary (jobsSound_of_work hs hw) (runs_of_work hw hk) (jobsRests_of_halted (halted_of_feeds hh (view_of_work hw))),
    halted_of_feeds hh fun m => (view_enterBoundary k b t m).trans (view_of_work hw m)⟩

theorem jobsSound_emergencyJob {cause : Reason} {lost : Bool} {k : Nat} (h : s.jobsSound ∧ halted s) :
    (emergencyJob cause lost k s).jobsSound ∧ halted (emergencyJob cause lost k s) := by
  obtain ⟨hs, hh⟩ := h
  unfold emergencyJob
  split
  · exact ⟨hs, hh⟩
  next j hj =>
  split
  · next hst _ => exact jobsSound_boundaryHalted hs hh (runs_of_job hj (by simp [hst])) (by split <;> rfl)
  · next hst => exact jobsSound_boundaryHalted hs hh (runs_of_job hj (by simp [hst])) (by split <;> rfl)
  · next hst _ => exact jobsSound_boundaryHalted hs hh (runs_of_job hj (by simp [hst])) (by split <;> rfl)
  · exact ⟨hs, hh⟩

theorem jobsSound_emergencyStop {cause : Reason} (hs : s.jobsSound) : (emergencyStop cause s).jobsSound := by
  have hhalt := jobsSound_halted (s := haltScan (haltPrint s)) (jobsSound_of_work hs ((work_haltScan _).trans (work_haltPrint s)))
  have hoff := jobsSound_of_work (t := headOff (driveOff _)) hhalt ((work_headOff _).trans (work_driveOff _))
  refine jobsSound_ite ?_ (jobsSound_of_work ?_ (work_headOn _))
  all_goals
    refine (List.foldlRecOn _ _ (motive := fun t => t.jobsSound ∧ halted t) ⟨jobsSound_emergencyOps hoff, ?_⟩
      fun t ht k _ => jobsSound_emergencyJob ht).1
    exact halted_of_feeds (fun m => by cases m <;> rfl) fun m => ((holdersOnly_emergencyOps _ _).feeds m).trans
      (view_of_work ((work_headOff _).trans (work_driveOff _)) m)

end Sys2Proof.Machine
end

section
/-! The events keep engines and jobs in agreement (R37 to R43, R82 to R97, R114 to R131, R134 to R177). -/

namespace Sys2Proof.Machine

-- One theorem at a time, as in the tests: a thread for each would exceed the memory allowed.
set_option Elab.async false

variable {s t u : State}

/-! ## The motors (R114, R124 to R131) -/

@[simp] theorem work_scanCounts (s : State) : (scanCounts s).work = s.work := by simp [scanCounts]
@[simp] theorem work_lineStep (n : Nat) (due : Bool) (s : State) : (lineStep n due s).work = s.work := by unfold lineStep; split <;> rfl
@[simp] theorem work_lineStrobed (tag : LineTag) (s : State) : (lineStrobed tag s).work = s.work := by unfold lineStrobed; split <;> simp
@[simp] theorem work_fireLine (tag : LineTag) (image fresh : Line) (plan : List Phase) (s : State) :
    (fireLine tag image fresh plan s).work = s.work := by unfold fireLine; split <;> simp
@[simp] theorem work_headRests (e : Entry) (s : State) : (headRests e s).work = s.work := by unfold headRests; split <;> rfl
@[simp] theorem work_advanceStep (e : Entry) (s : State) : (advanceStep e s).work = s.work := by unfold advanceStep; split <;> rfl
@[simp] theorem work_endSubpulse (s : State) : (endSubpulse s).work = s.work := by
  unfold endSubpulse
  split
  · rfl
  · split <;> simp

/-- R127: what a step tells the motor's clients, before its entry's first step is looked at. -/
def stepCounted (m : Motor) (e : Entry) (s : State) : State :=
  match m with
  | .scan => scanCounts s
  | .print => headRests e (advanceStep e s)

@[simp] theorem work_stepCounted (m : Motor) (e : Entry) (s : State) : (stepCounted m e s).work = s.work := by cases m <;> simp [stepCounted]

theorem takeStep_cons {m : Motor} {level : Nat} {e : Entry} {rest : List Entry} (h : (feedOf s m).queue = e :: rest) :
    takeStep m level s = if e.left = e.steps then firstStep e (stepCounted m e (onFeed m (Feed.stepped level s.now) s))
      else stepCounted m e (onFeed m (Feed.stepped level s.now) s) := by
  unfold takeStep
  rw [h]
  cases m <;> rfl

/-- A code that the job of an engine meets where it can (R70, R139). -/
theorem jobsSound_meetIf {e : Engine} {k : Nat} {j : Job} {b : Boundary} {c : BoundaryCode} (hs : s.jobsSound)
    (h : (jobHolding s e).bind (fun k => (jobIn s k).map (fun j => (k, j))) = some (k, j)) :
    (if canMeet j c then meet k b s else s).jobsSound := jobsSound_ite hs (jobsSound_meet hs (runs_of_held hs h))

theorem jobsSound_paperOut (hs : s.jobsSound) : (paperOut s).jobsSound := by
  have hu : (backToConsumed (whitenHistory (feedOnlyQueue .print s))).jobsSound := jobsSound_of_work hs (by simp)
  unfold paperOut
  dsimp only
  split
  · next hj => exact jobsSound_meetIf hu hj
  · exact hu

theorem jobsSound_firstStep {e : Entry} (hs : s.jobsSound) : (firstStep e s).jobsSound := by
  unfold firstStep printStep
  split
  · exact jobsSound_of_work hs (by simp)
  · split
    · exact jobsSound_of_work hs rfl
    split
    · exact jobsSound_of_work hs (by simp)
    · exact jobsSound_paperOut hs
  · exact hs

/-- R124, R127: a motor that has a step to take is held by no job that stands still. -/
theorem jobsSound_takeStep {m : Motor} {level : Nat} (hs : s.jobsSound) (hm : mayMove s m) : (takeStep m level s).jobsSound := by
  cases hq : (feedOf s m).queue with
  | nil => unfold takeStep; rw [hq]; exact hs
  | cons e rest =>
    have hstep : (stepCounted m e (onFeed m (Feed.stepped level s.now) s)).jobsSound :=
      jobsSound_of_work (jobsSound_onFeed hs (.inl hm) (hs.driven m)) (work_stepCounted m e _)
    rw [takeStep_cons hq]
    split
    · exact jobsSound_firstStep hstep
    · exact hstep

theorem mayMove_onFeed {m : Motor} {f : Feed → Feed} (h : mayMove s m) : mayMove (onFeed m f s) m := h

theorem jobsSound_beginMotion {m : Motor} (hs : s.jobsSound) (hd : motionBeginDue s m = true) : (beginMotion m s).jobsSound := by
  have hm : mayMove s m := mayMove_of_moving hs (by simp [motionBeginDue, motionDue] at hd; simp [Feed.rests, hd])
  unfold beginMotion
  dsimp only
  split
  · exact jobsSound_takeStep (jobsSound_onFeed hs (.inl hm) fun h => nomatch h) (mayMove_onFeed hm)
  · exact jobsSound_onFeed hs (.inl hm) fun _ => rfl

theorem jobsSound_endEnergizing {m : Motor} (hs : s.jobsSound) (hd : energizingDue s m = true) : (endEnergizing m s).jobsSound := by
  have hm : mayMove s m := mayMove_of_moving hs (by
    simp only [energizingDue, Bool.and_eq_true, decide_eq_true_eq] at hd
    simp [Feed.rests, hs.driven m hd.1])
  exact jobsSound_takeStep (jobsSound_setCurrent hs (by decide)) (mayMove_onFeed hm)

theorem mayMove_of_stepDue {m : Motor} (hs : s.jobsSound) (hd : stepDue s m = true) : mayMove s m :=
  mayMove_of_moving hs (by simp [stepDue] at hd; simp [Feed.rests, hd])

theorem jobsSound_comeToRest {m : Motor} (hs : s.jobsSound) (hd : restDue s m = true) : (comeToRest m s).jobsSound := by
  simp only [restDue, Bool.and_eq_true, decide_eq_true_eq] at hd
  refine jobsSound_onFeed hs (.inr fun h => ?_) fun h => ?_
  · simp only [Feed.rests, Bool.and_eq_true] at h ⊢
    exact ⟨rfl, h.2⟩
  · rw [hd.1.1.1.2] at h; cases h

/-! ## The scan path's events (R82, R88 to R97) -/

@[simp] theorem work_onSlots (f : List LineSlot → List LineSlot) (s : State) : (onSlots f s).work = s.work := rfl
@[simp] theorem work_onUntaken (v : LineSlot) (s : State) : (onUntaken v s).work = s.work := rfl
@[simp] theorem work_endCapture (raw : List Byte) (s : State) : (endCapture raw s).work = s.work := by unfold endCapture; split <;> rfl
@[simp] theorem work_codeCaptured (s : State) : (codeCaptured s).work = s.work := by unfold codeCaptured; split <;> rfl
@[simp] theorem work_storeScanned (slot n : Nat) (record : List Byte) (s : State) : (storeScanned slot n record s).work = s.work := by
  unfold storeScanned; dsimp only; split <;> simp
@[simp] theorem work_takeScanned (s : State) : (takeScanned s).work = s.work := by
  unfold takeScanned; repeat' split
  all_goals simp
@[simp] theorem work_lampWarmed (s : State) : (lampWarmed s).work = s.work := rfl
@[simp] theorem work_sheetArrives (s : State) : (sheetArrives s).work = s.work := by
  unfold sheetArrives; repeat' split
  all_goals rfl
@[simp] theorem work_sheetLeaves (s : State) : (sheetLeaves s).work = s.work := by
  unfold sheetLeaves; repeat' split
  all_goals rfl

theorem jobsSound_admitScanLine (hs : s.jobsSound) (hd : lineEntryDue s = true) : (admitScanLine s).jobsSound := by
  simp only [lineEntryDue, Bool.and_eq_true] at hd
  exact jobsSound_of_work (jobsSound_admitted hs hd.1.1.2 rfl) rfl

theorem jobsSound_endCalibration {o : DoneOutcome} {c : CalOutcome} (hs : s.jobsSound) : (endCalibration o c s).jobsSound := by
  unfold endCalibration
  dsimp only
  split
  · exact jobsSound_of_work hs rfl
  · exact jobsSound_raiseDone (jobsSound_endOp (jobsSound_of_work hs (by rfl)))

theorem jobsSound_endCalibrationLine {raw : List Byte} (hs : s.jobsSound) : (endCalibrationLine raw s).jobsSound := by
  unfold endCalibrationLine
  split
  · exact hs
  dsimp only
  split
  · exact jobsSound_of_work hs rfl
  split
  · exact jobsSound_of_work hs rfl
  · exact jobsSound_endCalibration (jobsSound_of_work hs rfl)

theorem jobsSound_abandonCalibration (hs : s.jobsSound) : (abandonCalibration s).jobsSound := jobsSound_ite hs (jobsSound_endCalibration hs)

/-! ## The cutter and the cover (R135 to R140) -/

theorem jobsSound_cycleSucceeds (hs : s.jobsSound) : (cycleSucceeds s).jobsSound := by
  unfold cycleSucceeds
  split
  · exact jobsSound_of_work hs rfl
  extract_lets afterCut afterCycle
  have hcycle : afterCycle.jobsSound := jobsSound_endOp (jobsSound_doneIf hs)
  split
  · exact jobsSound_of_work hcycle (work_cutSucceeded _ _)
  · exact hcycle

theorem jobsSound_homeChanged {home : Bool} (hs : s.jobsSound) : (homeChanged home s).jobsSound := by
  have hu : ∀ (l : Levels → Levels) (c : Mechanism → Cutter), ((s.onLevels l).onMech (fun x => { x with cutter := c x })).jobsSound := fun _ _ => jobsSound_of_work hs rfl
  exact jobsSound_ite (hu _ _) (jobsSound_cycleSucceeds (hu _ _))

theorem jobsSound_quietJam (hs : s.jobsSound) : (quietJam s).jobsSound := by
  unfold quietJam
  extract_lets afterDrive afterCut afterCycle
  have hdrive : afterDrive.jobsSound := jobsSound_of_work hs (work_driveOff s)
  have hcycle : afterCycle.jobsSound := jobsSound_endOp (jobsSound_doneIf hdrive)
  split
  · next k j hj =>
    unfold cuttingJob at hj
    split at hj
    · exact jobsSound_meetIf (e := .printer) (jobsSound_of_work hcycle (work_setPrint afterCycle _)) hj
    · cases hj
  · exact hcycle

theorem jobsSound_cycleTimesOut (hs : s.jobsSound) : (cycleTimesOut s).jobsSound := by
  have hraise : (raise 2 (.jam false true false false 0 1) s).jobsSound := jobsSound_of_work hs (work_raise s _ _)
  unfold cycleTimesOut
  split
  · exact jobsSound_of_work hs (by simp)
  dsimp only
  split
  · exact jobsSound_emergencyStop hraise
  · exact jobsSound_quietJam hraise

theorem jobsSound_coverOpens (hs : s.jobsSound) : (coverOpens s).jobsSound := by
  unfold coverOpens
  split
  · exact jobsSound_emergencyStop (jobsSound_of_work hs (work_raise s _ _))
  · exact jobsSound_of_work hs (work_raiseSensor s)

@[simp] theorem work_coverCloses (s : State) : (coverCloses s).work = s.work := by unfold coverCloses; split <;> simp

/-! ## The head (R105, R114) -/

/-- R105: no line is offered to a motor of a job that stands still. -/
theorem jobsSound_offerLine {c v : Byte} (hs : s.jobsSound) (hm : mayMove s .print) : (offerLine c v s).jobsSound := by
  unfold offerLine
  dsimp only
  split
  · exact jobsSound_of_work hs (work_nextLine s)
  have hw : (takeSamples c v (nextLine s)).work = s.work := by simp
  split
  · exact jobsSound_of_work hs hw
  · have hw' : ∀ l n, (countClamped l n (takeSamples c v (nextLine s))).work = s.work := fun l n => (work_countClamped _ l n).trans hw
    exact jobsSound_of_work (jobsSound_enqueue (jobsSound_of_work hs (hw' _ _)) (mayMove_of_work (hw' _ _) hm)) rfl

theorem mayMove_of_offerDue (h : offerDue s = true) : mayMove s .print := by
  simp only [offerDue, lineToOffer, Bool.and_eq_true] at h
  exact mayMove_of_admits h.1.1.1.1.1.2

/-! ## The link (R37 to R43, R191 to R197) -/

@[simp] theorem work_huntAgain (s : State) : (huntAgain s).work = s.work := rfl
@[simp] theorem work_dropGap (s : State) : (dropGap s).work = s.work := by simp [dropGap]
@[simp] theorem work_validFrame (s : State) : (validFrame s).work = s.work := rfl
@[simp] theorem work_judgeFrame (s : State) : (judgeFrame s).work = s.work := by
  unfold judgeFrame; dsimp only; repeat' split
  all_goals simp
@[simp] theorem work_takeFrameByte (b : Byte) (s : State) : (takeFrameByte b s).work = s.work := by
  unfold takeFrameByte; dsimp only; repeat' split
  all_goals simp
@[simp] theorem work_huntByte (b : Byte) (s : State) : (huntByte b s).work = s.work := by
  unfold huntByte; repeat' split
  all_goals simp
@[simp] theorem work_receiveByte (b : Byte) (f : Bool) (s : State) : (receiveByte b f s).work = s.work := by
  unfold receiveByte; repeat' split
  all_goals simp
@[simp] theorem work_beforeByte (s : State) : (beforeByte s).work = s.work := by
  unfold beforeByte; repeat' split
  all_goals simp
@[simp] theorem work_routeFrame (f : InFrame) (s : State) : (routeFrame f s).work = s.work := by
  unfold routeFrame enqueueFrame; repeat' split
  all_goals simp
@[simp] theorem work_onLinkIn (f : LinkIn → LinkIn) (s : State) : (onLinkIn f s).work = s.work := rfl
@[simp] theorem work_takeItem (rest : List Byte) (s : State) : (takeItem rest s).work = s.work := rfl
@[simp] theorem work_dropReceived (k : Nat) (c : LinkIn) (s : State) : (dropReceived k c s).work = s.work := by
  unfold dropReceived; dsimp only; repeat' split
  all_goals simp
@[simp] theorem work_endReceived (s : State) : (endReceived s).work = s.work := by
  unfold endReceived
  split
  · rfl
  split
  · rfl
  · dsimp only
    split
    · exact work_onJob _ _ (Job.receivedPage _ _) (fun _ => rfl) fun _ => rfl
    · exact work_onJob _ _ (Job.receivedPage _ _) (fun _ => rfl) fun _ => rfl

/-- The receiving job holds LINK-IN. -/
theorem runs_of_reception {k : Nat} {j : Job} {c : LinkIn} (hs : s.jobsSound) (h : reception s = some (k, j, c)) : runs s k := by
  unfold reception at h
  split at h
  · next hj _ => cases h; exact runs_of_held hs hj
  · cases h

theorem jobsSound_storeReceived {k slot : Nat} {record : List Byte} {c : Bool} (hs : s.jobsSound) (hk : runs s k) :
    (storeReceived k slot record c s).jobsSound := by
  unfold storeReceived
  dsimp only
  split
  · exact jobsSound_of_work hs (by simp)
  · exact jobsSound_meet_of_work hs hk (by simp)

theorem jobsSound_takeLine {record : List Byte} {c : Bool} (hs : s.jobsSound) : (takeLine record c s).jobsSound := by
  unfold takeLine
  split
  · exact hs
  next hr =>
  have hk := runs_of_reception hs hr
  split
  · split
    · exact jobsSound_of_work hs (work_dropAtLimit s _)
    · exact jobsSound_storeReceived hs hk
  · exact jobsSound_of_work hs (work_dropReceived _ _ s)

theorem jobsSound_receiveLine (hs : s.jobsSound) : (receiveLine s).jobsSound := by
  unfold receiveLine
  split
  · exact jobsSound_takeLine (jobsSound_of_work hs rfl)
  · exact jobsSound_takeLine (jobsSound_of_work hs rfl)
  · exact hs

theorem jobsSound_beginReceived {r : Resolution} {w : PageWidth} (hs : s.jobsSound) : (beginReceived r w s).jobsSound := by
  unfold beginReceived
  split
  · exact hs
  next hr =>
  split
  · next hp => exact jobsSound_of_work hs (by simp [work_startPage hp])
  · exact jobsSound_meet hs (runs_of_reception hs hr)

theorem jobsSound_receiveBegin (hs : s.jobsSound) : (receiveBegin s).jobsSound := by
  unfold receiveBegin
  split
  · exact jobsSound_beginReceived (jobsSound_of_work hs (by simp))
  · exact hs

@[simp] theorem work_receiveEnd (s : State) : (receiveEnd s).work = s.work := by unfold receiveEnd; split <;> simp

theorem jobsSound_receiveLost (hs : s.jobsSound) : (receiveLost s).jobsSound := by
  unfold receiveLost
  split
  · have hu : (linkFault .badRecord (takeItem [] s)).jobsSound := jobsSound_of_work hs (by simp)
    exact jobsSound_ite hu (jobsSound_takeLine hu)
  · exact hs

theorem jobsSound_frameSent {o : OutFrame} (hs : s.jobsSound) : (frameSent o s).jobsSound := by
  unfold frameSent
  split
  · exact jobsSound_endOp hs
  · exact jobsSound_ite (jobsSound_of_work hs (by simp)) (jobsSound_of_work hs (by simp))

theorem jobsSound_dataOutSent {f : ParityFaults} (hs : s.jobsSound) : (dataOutSent f s).jobsSound := by
  unfold dataOutSent
  split
  · exact hs
  · exact jobsSound_frameSent (jobsSound_of_work hs rfl)

/-! ## Modes, ringing, silence, start-up (R147 to R177) -/

@[simp] theorem work_reachStandby (s : State) : (reachStandby s).work = s.work := by simp [reachStandby]
@[simp] theorem work_ringStops (w : RingStop) (s : State) : (ringStops w s).work = s.work := by unfold ringStops; dsimp only; split <;> simp
@[simp] theorem work_ringQualifies (n : Nat) (s : State) : (ringQualifies n s).work = s.work := by
  unfold ringQualifies; dsimp only; repeat' split
  all_goals simp
@[simp] theorem work_judgeBurst (s : State) : (judgeBurst s).work = s.work := by unfold judgeBurst; dsimp only; split <;> simp
@[simp] theorem work_ringOverdue (s : State) : (ringOverdue s).work = s.work := by
  unfold ringOverdue; dsimp only; repeat' split
  all_goals simp
@[simp] theorem work_takePulse (s : State) : (takePulse s).work = s.work := by
  unfold takePulse; repeat' split
  all_goals simp
@[simp] theorem work_alarmExpires (s : State) : (alarmExpires s).work = s.work := by unfold alarmExpires; dsimp only; split <;> simp
@[simp] theorem work_readBattery (low : Bool) (s : State) : (readBattery low s).work = s.work := by
  unfold readBattery; dsimp only; split <;> simp
@[simp] theorem work_judge (a b : Bool) (s : State) : (judge a b s).work = s.work := rfl
@[simp] theorem work_loadSettings (a : Bool) (s : State) : (loadSettings a s).work = s.work := rfl
@[simp] theorem work_beginHoming (l : Levels) (s : State) : (beginHoming l s).work = s.work := by
  unfold beginHoming; dsimp only; repeat' split
  all_goals rfl
@[simp] theorem work_beginStartCalibration (l : Levels) (s : State) : (beginStartCalibration l s).work = s.work := by
  unfold beginStartCalibration; split <;> rfl
@[simp] theorem work_release (s : State) : (release s).work = s.work := by
  unfold release raiseHeldAlarm; dsimp only; repeat' split
  all_goals simp
@[simp] theorem work_endStore (r : StoreResult) (w : Writing) (s : State) : (endStore r w s).work = s.work := by unfold endStore; split <;> simp

/-- R170 to R174: the builds of the store are about the store. -/
theorem work_build (size : Nat) (failing : List Nat) (faults : ParityFaults) (s : State) :
    (if s.start.domainLost then buildFresh size failing s else buildRebuilt faults s).work = s.work := by
  split
  · rfl
  · obtain ⟨u, c, -, he, hr⟩ := buildRebuilt_eq faults s
    obtain ⟨_, _, _, _, rfl⟩ := hr.frame.rest
    rw [he]; rfl

theorem jobsSound_stopJobs {l : List Nat} (hs : s.jobsSound) (hl : ∀ k ∈ l, runs s k) : (l.foldl (fun s k => stopJob k .hold s) s).jobsSound := by
  induction l generalizing s with
  | nil => exact hs
  | cons k ks ih =>
    refine ih (jobsSound_stopJob hs (hl k List.mem_cons_self)) fun i hi => ?_
    show runs (stopJob k .hold s) i
    rw [stopJob_hold]
    exact runs_onJob (stoppedForHold_state _) (hl i (List.mem_cons_of_mem _ hi))

/-- R161: the jobs that a silence stops hold their engines, and are let hold them. -/
theorem jobsSound_firstExpiry (hs : s.jobsSound) : (firstExpiry s).jobsSound := by
  refine jobsSound_of_work (jobsSound_stopJobs (l := runningMechanismJobs s) hs fun k hk => ?_) ((work_onSilence _ _).trans (work_raise _ _ _))
  have hrun := (List.mem_filter.1 hk).2
  simp only [decide_eq_true_eq, Option.map_eq_some_iff] at hrun
  obtain ⟨j, hj, hst⟩ := hrun
  exact runs_of_job hj (by simp [hst])

theorem jobsSound_secondExpiry (hs : s.jobsSound) : (secondExpiry s).jobsSound := by
  unfold secondExpiry
  extract_lets driven counted ended
  have hcounted : counted.jobsSound := jobsSound_of_work hs rfl
  exact jobsSound_of_work (List.foldlRecOn _ _ (motive := State.jobsSound) hcounted fun _ h _ _ => jobsSound_endJob h)
    (work_onSilence ended _)

theorem jobsSound_resetBlocks (kind : ResetKind) (s : State) : (resetBlocks kind s).jobsSound :=
  jobsSound_of_work reset_jobsSound rfl

end Sys2Proof.Machine
end

section
/-! Every step keeps engines and jobs in agreement, and the motors of a job that stands still stand still (O60). -/

namespace Sys2Proof.Machine

-- One theorem at a time, as in the tests: a thread for each would exceed the memory allowed.
set_option Elab.async false

variable {s t u : State}

/-! ## The verdicts of the commands (R195, R196) -/

/-- What a verdict of DONE leaves is in agreement. -/
def Verdict.jobsSound (v : Verdict) : Prop := ∀ r, v = .ok r → r.1.jobsSound

theorem Verdict.jobsSound_ok {data : List Byte} (h : s.jobsSound) : Verdict.jobsSound (.ok (s, data)) := fun _ hr => by cases hr; exact h
theorem Verdict.jobsSound_error {a : Answer} : Verdict.jobsSound (.error a) := fun _ hr => nomatch hr

theorem Verdict.jobsSound_ite {c : Prop} [Decidable c] {a b : Verdict} (ha : Verdict.jobsSound a) (hb : Verdict.jobsSound b) :
    Verdict.jobsSound (if c then a else b) := by
  split
  exacts [ha, hb]

/-- A check that refuses, or what follows it. -/
theorem Verdict.jobsSound_unless {c : Prop} [Decidable c] {a : Answer} {v : Verdict} (hv : ¬c → Verdict.jobsSound v) :
    Verdict.jobsSound (if c then .error a else v) := by
  split
  · exact Verdict.jobsSound_error
  · next h => exact hv h

section
variable (hs : s.jobsSound)
include hs

theorem jobsSound_event {due : Bool} {effect : State → State} (ht : event due effect s = .next t)
    (h : due = true → (effect s).jobsSound) : t.jobsSound := by
  rcases event_cases ht with ⟨hd, rfl⟩ | ⟨-, rfl⟩
  exacts [jobsSound_of_work (h hd) (work_settle _), hs]

/-- An event that leaves the work in hand. -/
theorem jobsSound_quietEvent {due : Bool} {effect : State → State} (ht : event due effect s = .next t)
    (h : (effect s).work = s.work) : t.jobsSound := jobsSound_event hs ht fun _ => jobsSound_of_work hs h

theorem jobsSound_jobEvent {due : Bool} {effect : State → State} (ht : jobEvent due effect s = .next t)
    (h : due = true → (effect s).jobsSound) : t.jobsSound := jobsSound_event hs ht fun hd => jobsSound_advance (h hd)

theorem jobsSound_command {i : Instr} {judge : State → Verdict} (ht : command i judge s = .next t)
    (h : ∀ v, v.jobsSound → Verdict.jobsSound (judge v)) : t.jobsSound := by
  refine jobsSound_event hs ht fun _ => ?_
  have released : (releaseCommand s).jobsSound := jobsSound_of_work hs rfl
  have judged := h _ released
  revert judged
  generalize judge (releaseCommand s) = v
  intro judged
  cases v with
  | ok r => exact jobsSound_of_work (judged r rfl) rfl
  | error a => exact jobsSound_of_work released rfl

/-- A command that answers with data alone (R195). -/
theorem jobsSound_report {i : Instr} {data : State → List Byte} (ht : command i (fun s => .ok (s, data s)) s = .next t) : t.jobsSound :=
  jobsSound_command hs ht fun _ h => Verdict.jobsSound_ok h

/-! ## The documents (R24 to R29) -/

theorem jobsSound_docCreate {o r w : Byte} : Verdict.jobsSound (docCreate o r w s) := by
  unfold docCreate
  split
  · split
    · exact Verdict.jobsSound_ok (jobsSound_of_work hs (work_onDoc s _ _))
    · exact Verdict.jobsSound_error
  · exact Verdict.jobsSound_error

theorem jobsSound_docClose {n : Nat} : Verdict.jobsSound (docClose n s) :=
  Verdict.jobsSound_unless fun _ => Verdict.jobsSound_unless fun _ =>
    Verdict.jobsSound_ok (jobsSound_advance (jobsSound_of_work hs (work_onDoc s _ _)))

theorem jobsSound_docDelete {n : Nat} : Verdict.jobsSound (docDelete n s) :=
  Verdict.jobsSound_unless fun _ => Verdict.jobsSound_unless fun _ => Verdict.jobsSound_ok (jobsSound_advance
    (jobsSound_of_work hs ((work_onDoc _ _ _).trans (work_foldl (fun s p => work_erasePage s p) _ s))))

theorem jobsSound_pageDrop {n index : Nat} : Verdict.jobsSound (pageDrop n index s) := by
  unfold pageDrop
  split
  · exact Verdict.jobsSound_error
  · exact Verdict.jobsSound_unless fun _ => Verdict.jobsSound_ok (jobsSound_advance (jobsSound_of_work hs (work_erasePage s _)))

/-! ## The job commands (R49 to R78) -/

theorem jobsSound_startJob {p : StartParams} : Verdict.jobsSound (startJob p s) := by
  unfold startJob
  split
  · exact Verdict.jobsSound_error
  refine Verdict.jobsSound_unless fun _ => ?_
  split
  · exact Verdict.jobsSound_error
  next k hc =>
    obtain ⟨hlt, hfree, -⟩ := (findIdx?_getD none).1 (startChecks_ok hc).1
    have hk : jobIn s k = none := by
      rw [List.getD_eq_getElem _ _ hlt, Option.isNone_iff_eq_none] at hfree
      simp [jobIn, hlt, hfree]
    exact Verdict.jobsSound_ok (jobsSound_advance (jobsSound_fillSlot hs hk hlt rfl))

theorem jobsSound_carryFullMid {k : Nat} {j : Job} {c : Choice} : (carryFullMid k j c s).jobsSound := by
  unfold carryFullMid
  split
  · exact hs
  split
  · exact jobsSound_of_work hs (by simp)
  · exact jobsSound_of_work hs (by simp)
  · exact jobsSound_of_work hs (by simp)

theorem jobsSound_carryFullStart {k : Nat} {j : Job} {c : Choice} : (carryFullStart k j c s).jobsSound := by
  unfold carryFullStart
  split
  · exact jobsSound_of_work hs (by simp)
  · exact jobsSound_endJob hs
  · exact jobsSound_ite (jobsSound_endJob hs) (jobsSound_of_work hs rfl)

theorem jobsSound_finishJam {k : Nat} {j : Job} : (finishJam k j s).jobsSound := by
  unfold finishJam
  split
  · exact jobsSound_afterEject hs
  · exact jobsSound_ite (jobsSound_endJob hs) (jobsSound_of_work hs rfl)

omit hs in
@[simp] theorem work_repeatPrint (s : State) : (repeatPrint s).work = s.work := by unfold repeatPrint; split <;> simp

omit hs in
@[simp] theorem work_ejectToFinish (s : State) : (ejectToFinish s).work = s.work := by unfold ejectToFinish; split <;> rfl

theorem jobsSound_finishPrint {k : Nat} {j : Job} : (finishPrint k j s).jobsSound := by
  unfold finishPrint
  split
  · split
    · exact hs
    · exact jobsSound_of_work hs (by simp)
  · exact jobsSound_endJob hs

theorem jobsSound_carryPaper {k : Nat} {j : Job} {c : Choice} : (carryPaper k j c s).jobsSound := by
  unfold carryPaper
  split
  · exact jobsSound_of_work hs (by simp)
  · exact jobsSound_of_work hs (by simp)
  · exact jobsSound_moveOn (jobsSound_of_work hs (by simp))
  · exact jobsSound_finishPrint hs

theorem jobsSound_carryCut {k : Nat} {j : Job} {c : Choice} : (carryCut k j c s).jobsSound := by
  unfold carryCut
  split
  · exact jobsSound_of_work hs rfl
  · exact jobsSound_finishPrint hs

/-- R64: every choice of the table, carried out. -/
theorem jobsSound_carryChoice {k : Nat} {j : Job} {b : Boundary} {c : Choice} : (carryChoice k j b c s).jobsSound := by
  unfold carryChoice
  split
  · exact jobsSound_ite (jobsSound_carryFullStart hs) (jobsSound_carryFullMid hs)
  · exact jobsSound_ite (jobsSound_finishJam hs) (jobsSound_of_work hs rfl)
  · exact jobsSound_carryPaper hs
  · exact jobsSound_carryCut hs
  · exact jobsSound_endJob hs
  · exact jobsSound_carryPageEnd hs

theorem jobsSound_takeAnswer {k : Nat} {j : Job} {b : Boundary} {c : Choice} (hk : runs s k) : (takeAnswer k j b c s).jobsSound := by
  unfold takeAnswer
  split
  · exact jobsSound_of_work hs (work_raiseJob s k none)
  split
  · exact hs
  · have hrun : (onJob k (fun x => { x with state := .running, boundary := none }) s).jobsSound :=
      jobsSound_run hs hk (fun _ => rfl) fun _ => rfl
    exact jobsSound_advance (jobsSound_carryChoice hrun)

theorem jobsSound_answerJob {id c : Nat} : Verdict.jobsSound (answerJob id c s) := by
  unfold answerJob
  split
  · exact Verdict.jobsSound_error
  split
  · exact Verdict.jobsSound_error
  next j hj =>
  split
  · exact Verdict.jobsSound_ok (jobsSound_advance (jobsSound_endJob hs))
  refine Verdict.jobsSound_unless fun hst => ?_
  split
  · exact Verdict.jobsSound_unless fun _ => Verdict.jobsSound_ok (jobsSound_takeAnswer hs (runs_of_job hj (by simp [not_not.1 hst])))
  · exact Verdict.jobsSound_error

omit hs in
theorem namedJob_jobIn {id k : Nat} {j : Job} (h : namedJob s id = some (k, j)) : jobIn s k = some j := by
  obtain ⟨_, -, h⟩ := Option.bind_eq_some_iff.1 h
  obtain ⟨_, hj, h⟩ := Option.map_eq_some_iff.1 h
  cases h; exact hj

theorem jobsSound_holdJob {id : Nat} : Verdict.jobsSound (holdJob id s) := by
  unfold holdJob
  split
  · exact Verdict.jobsSound_error
  next hj =>
  split
  · next hst => exact Verdict.jobsSound_ok (jobsSound_advance (jobsSound_stopJob hs (runs_of_job (namedJob_jobIn hj) (by simp [hst]))))
  · exact Verdict.jobsSound_error

theorem jobsSound_resumed {k : Nat} {j : Job} (hk : runs s k) : (resumed k j s).jobsSound := by
  unfold resumed
  extract_lets run
  have hrun : run.jobsSound := jobsSound_run hs hk (fun _ => rfl) fun _ => rfl
  split
  · refine jobsSound_compareAtPageEnd ?_
    split
    exacts [hrun, jobsSound_endIfDone hrun]
  · exact hrun

theorem jobsSound_resumeJob {id : Nat} : Verdict.jobsSound (resumeJob id s) := by
  unfold resumeJob
  split
  · exact Verdict.jobsSound_error
  next hj =>
  split
  · next hst => exact Verdict.jobsSound_ok (jobsSound_advance (jobsSound_resumed hs (runs_of_job (namedJob_jobIn hj) (by simp [hst]))))
  · exact Verdict.jobsSound_error

theorem jobsSound_abortJob {id : Nat} : Verdict.jobsSound (abortJob id s) := by
  unfold abortJob
  split
  · exact Verdict.jobsSound_error
  · exact Verdict.jobsSound_ok (jobsSound_advance (jobsSound_endJob hs))

theorem jobsSound_sendCredit {id n : Nat} : Verdict.jobsSound (sendCredit id n s) := by
  unfold sendCredit
  split
  · exact Verdict.jobsSound_error
  · exact Verdict.jobsSound_unless fun _ => Verdict.jobsSound_ok
      (jobsSound_advance (jobsSound_of_work hs (work_onJob s _ (Job.credited n) (fun _ => rfl) fun _ => rfl)))

/-! ## The mechanism, the modes, the settings (R96 to R99, R141, R142, R153, R183) -/

theorem jobsSound_startEject (hf : holderOf s .scanner = .free) : (startEject s).jobsSound :=
  jobsSound_of_work (jobsSound_takeEngine hs hf) ((work_onScan _ _).trans (work_enterActive _))

theorem jobsSound_startCalibration (hf : holderOf s .scanner = .free) : (startCalibration s).jobsSound :=
  jobsSound_of_work (jobsSound_takeEngine hs hf) ((work_beginCalibration _ false).trans (work_enterActive _))

theorem jobsSound_startCut (hf : holderOf s .printer = .free) : (startCut s).jobsSound :=
  jobsSound_of_work (jobsSound_takeEngine hs hf) ((work_beginCycle _).trans (work_enterActive _))

theorem jobsSound_startAdvance {n : Nat} (hf : holderOf s .printer = .free) : (startAdvance n s).jobsSound := by
  have hw := (work_onMech (enterActive (takeEngine .printer (.internal [.advance]) s)) (f := fun x => { x with advanced := 0 })
    (fun _ => rfl) fun _ => rfl).trans (work_enterActive _)
  refine jobsSound_enqueue (jobsSound_of_work (jobsSound_takeEngine hs hf) hw) (mayMove_of_free fun k hk => ?_)
  rw [holderOf_of_work hw, holderOf_of_work (work_takeEngine _ _ _), holderOf_setHolder] at hk
  exact Holder.noConfusion hk

theorem jobsSound_modeSet {m : Nat} : Verdict.jobsSound (modeSet m s) := by
  unfold modeSet
  split
  · exact Verdict.jobsSound_ok (jobsSound_of_work hs (work_enterActive _))
  · exact Verdict.jobsSound_ite (Verdict.jobsSound_ok hs) (Verdict.jobsSound_unless fun _ => Verdict.jobsSound_ok (jobsSound_enterStandby hs))
  · exact Verdict.jobsSound_unless fun _ => Verdict.jobsSound_ok (jobsSound_of_work hs rfl)
  · exact Verdict.jobsSound_ok hs
  · exact Verdict.jobsSound_error

theorem jobsSound_alarmSet {n : Nat} : Verdict.jobsSound (alarmSet n s) :=
  Verdict.jobsSound_unless fun _ => Verdict.jobsSound_ite (Verdict.jobsSound_ok (jobsSound_of_work hs rfl)) (Verdict.jobsSound_ok (jobsSound_of_work hs rfl))

theorem jobsSound_currentsNow {m : Motor} : (currentsNow m s).jobsSound := by
  unfold currentsNow
  extract_lets held
  have hheld : held.jobsSound := jobsSound_ite hs (jobsSound_setCurrent hs (by decide))
  exact jobsSound_ite hheld (jobsSound_setCurrent hheld (by decide))

theorem jobsSound_silenceNow : (silenceNow s).jobsSound :=
  jobsSound_ite hs (jobsSound_ite (jobsSound_firstExpiry hs) (jobsSound_secondExpiry hs))

theorem jobsSound_settingsEffect {low : Nat} : (settingsEffect low s).jobsSound := by
  unfold settingsEffect
  extract_lets counted currents idle
  have hcounted : counted.jobsSound := by
    by_cases h : s.settings.lowWater = low
    · rw [show counted = s from if_pos h]; exact hs
    · rw [show counted = lowAfterSetting s from if_neg h]; exact jobsSound_of_work hs (work_lowAfterSetting s)
  have hcurrents : currents.jobsSound := jobsSound_currentsNow (jobsSound_currentsNow hcounted)
  exact jobsSound_advance (jobsSound_silenceNow (jobsSound_ite hcurrents (jobsSound_enterStandby hcurrents)))

theorem jobsSound_settingSet {id v : Nat} : Verdict.jobsSound (settingSet id v s) := by
  unfold settingSet
  split
  · exact Verdict.jobsSound_error
  · exact Verdict.jobsSound_unless fun _ => Verdict.jobsSound_unless fun _ => Verdict.jobsSound_unless fun _ =>
      Verdict.jobsSound_ok (jobsSound_settingsEffect (jobsSound_of_work hs (work_onSettings s _)))

theorem jobsSound_settingsDefault {o : Nat} : Verdict.jobsSound (settingsDefault o s) :=
  Verdict.jobsSound_unless fun _ => Verdict.jobsSound_unless fun _ => Verdict.jobsSound_unless fun _ => Verdict.jobsSound_unless fun _ =>
    Verdict.jobsSound_ite (Verdict.jobsSound_ok (jobsSound_settingsEffect (jobsSound_of_work hs (work_onSettings s _))))
      (Verdict.jobsSound_ok (jobsSound_settingsEffect (jobsSound_of_work hs (by rfl))))

/-! ## Every step -/

omit hs in
theorem work_endPeriod (g : Pwm) (s : State) : (endPeriod g s).work = s.work := by cases g <;> rfl

theorem jobsSound_cover {opened : Bool} :
    (wakeCause { WakeCauses.none with cover := true } (if opened then coverOpens s else coverCloses s)).jobsSound := by
  refine jobsSound_of_work ?_ (work_wakeCause _ _)
  split
  · exact jobsSound_coverOpens hs
  · exact jobsSound_of_work hs (work_coverCloses s)

theorem jobsSound_docRead {sheet : Bool} :
    (if sheet then sheetArrives (abandonCalibration s) else sheetLeaves s).jobsSound := by
  split
  · exact jobsSound_of_work (jobsSound_abandonCalibration hs) (work_sheetArrives _)
  · exact jobsSound_of_work hs (work_sheetLeaves s)

theorem jobsSound_replySent : (replySent s).jobsSound := by
  unfold replySent
  split
  · exact jobsSound_resetBlocks .restart s
  dsimp only
  split
  · exact jobsSound_of_work hs rfl
  · exact jobsSound_of_work hs rfl
end

/-- R24 to R209: every step of the opcode table. -/
theorem jobsSound_exec {i : Instr} (hs : s.jobsSound) (ht : exec i s = .next t) : t.jobsSound := by
  cases i with
  | ping _ _ _ _ =>
    rw [exec_ping] at ht
    exact jobsSound_report hs ht
  | getEvents _ =>
    rw [exec_getEvents] at ht
    exact jobsSound_command hs ht fun _ h => Verdict.jobsSound_ite (Verdict.jobsSound_ok (jobsSound_of_work h rfl))
      (Verdict.jobsSound_ite (Verdict.jobsSound_ok (jobsSound_of_work h rfl)) Verdict.jobsSound_error)
  | eventMask _ =>
    rw [exec_eventMask] at ht
    exact jobsSound_command hs ht fun _ h => Verdict.jobsSound_ok (jobsSound_of_work h rfl)
  | docCreate _ _ _ =>
    rw [exec_docCreate] at ht
    exact jobsSound_command hs ht fun _ h => jobsSound_docCreate h
  | docClose _ =>
    rw [exec_docClose] at ht
    exact jobsSound_command hs ht fun _ h => jobsSound_docClose h
  | docDelete _ =>
    rw [exec_docDelete] at ht
    exact jobsSound_command hs ht fun _ h => jobsSound_docDelete h
  | docInfo _ =>
    rw [exec_docInfo] at ht
    exact jobsSound_command hs ht fun _ h => Verdict.jobsSound_ite (Verdict.jobsSound_ok h) Verdict.jobsSound_error
  | docList =>
    rw [exec_docList] at ht
    exact jobsSound_report hs ht
  | pageInfo _ _ =>
    rw [exec_pageInfo] at ht
    refine jobsSound_command hs ht fun v h => ?_
    split
    exacts [Verdict.jobsSound_ok h, Verdict.jobsSound_error]
  | pageDrop _ _ =>
    rw [exec_pageDrop] at ht
    exact jobsSound_command hs ht fun _ h => jobsSound_pageDrop h
  | storeStatus =>
    rw [exec_storeStatus] at ht
    exact jobsSound_report hs ht
  | jobStart _ _ _ _ _ _ _ _ =>
    rw [exec_jobStart] at ht
    exact jobsSound_command hs ht fun _ h => jobsSound_startJob h
  | jobAnswer _ _ =>
    rw [exec_jobAnswer] at ht
    exact jobsSound_command hs ht fun _ h => jobsSound_answerJob h
  | jobHold _ =>
    rw [exec_jobHold] at ht
    exact jobsSound_command hs ht fun _ h => jobsSound_holdJob h
  | jobResume _ =>
    rw [exec_jobResume] at ht
    exact jobsSound_command hs ht fun _ h => jobsSound_resumeJob h
  | jobAbort _ =>
    rw [exec_jobAbort] at ht
    exact jobsSound_command hs ht fun _ h => jobsSound_abortJob h
  | jobStatus _ =>
    rw [exec_jobStatus] at ht
    refine jobsSound_command hs ht fun v h => ?_
    split
    exacts [Verdict.jobsSound_ok h, Verdict.jobsSound_error]
  | sendCredit _ _ =>
    rw [exec_sendCredit] at ht
    exact jobsSound_command hs ht fun _ h => jobsSound_sendCredit (jobsSound_of_work h (work_onFaults _ _))
  | scanCalibrate =>
    rw [exec_scanCalibrate] at ht
    exact jobsSound_command hs ht fun _ h => Verdict.jobsSound_unless fun hc => Verdict.jobsSound_ok (jobsSound_startCalibration h (not_not.1 (not_or.1 hc).1))
  | docEject =>
    rw [exec_docEject] at ht
    exact jobsSound_command hs ht fun _ h => Verdict.jobsSound_unless fun hc =>
      Verdict.jobsSound_ok (jobsSound_advance (jobsSound_startEject h (not_not.1 (not_or.1 hc).1)))
  | paperAdvance _ =>
    rw [exec_paperAdvance] at ht
    exact jobsSound_command hs ht fun _ h => Verdict.jobsSound_unless fun _ => Verdict.jobsSound_unless fun hc =>
      Verdict.jobsSound_ok (jobsSound_startAdvance h (not_not.1 (not_or.1 hc).1))
  | cut =>
    rw [exec_cut] at ht
    exact jobsSound_command hs ht fun _ h => Verdict.jobsSound_unless fun hc => Verdict.jobsSound_ok (jobsSound_startCut h (not_not.1 (not_or.1 hc).1))
  | sensorRead =>
    rw [exec_sensorRead] at ht
    exact jobsSound_report hs ht
  | modeSet _ =>
    rw [exec_modeSet] at ht
    exact jobsSound_command hs ht fun _ h => jobsSound_modeSet h
  | alarmSet _ =>
    rw [exec_alarmSet] at ht
    exact jobsSound_command hs ht fun _ h => jobsSound_alarmSet h
  | alarmRead =>
    rw [exec_alarmRead] at ht
    exact jobsSound_report hs ht
  | settingGet _ =>
    rw [exec_settingGet] at ht
    refine jobsSound_command hs ht fun v h => ?_
    split
    exacts [Verdict.jobsSound_ok h, Verdict.jobsSound_error]
  | settingSet _ _ =>
    rw [exec_settingSet] at ht
    exact jobsSound_command hs ht fun _ h => jobsSound_settingSet h
  | settingsStore =>
    rw [exec_settingsStore] at ht
    exact jobsSound_command hs ht fun _ h => Verdict.jobsSound_unless fun _ => Verdict.jobsSound_unless fun _ => Verdict.jobsSound_ok (jobsSound_of_work h rfl)
  | settingsDefault _ =>
    rw [exec_settingsDefault] at ht
    exact jobsSound_command hs ht fun _ h => jobsSound_settingsDefault h
  | settingsProtect =>
    rw [exec_settingsProtect] at ht
    exact jobsSound_command hs ht fun _ h => Verdict.jobsSound_unless fun _ => Verdict.jobsSound_ok (jobsSound_of_work h rfl)
  | bootReport =>
    rw [exec_bootReport] at ht
    exact jobsSound_report hs ht
  | clearCauses =>
    rw [exec_clearCauses] at ht
    exact jobsSound_command hs ht fun _ h => Verdict.jobsSound_ok (jobsSound_of_work h rfl)
  | restart =>
    rw [exec_restart] at ht
    exact jobsSound_command hs ht fun _ h => Verdict.jobsSound_unless fun _ => Verdict.jobsSound_ok (jobsSound_of_work h rfl)
  | unknownCommand _ =>
    rw [exec_unknownCommand] at ht
    exact jobsSound_quietEvent hs ht rfl
  | frameReceived =>
    rw [exec_frameReceived] at ht
    exact jobsSound_quietEvent hs ht (work_judgeFrame s)
  | frameGapTimeout =>
    rw [exec_frameGapTimeout] at ht
    exact jobsSound_quietEvent hs ht (work_dropGap s)
  | dataInRouting =>
    rw [exec_dataInRouting] at ht
    refine jobsSound_quietEvent hs ht ?_
    split
    exacts [work_routeFrame _ _, rfl]
  | receivedLineRecord =>
    rw [exec_receivedLineRecord] at ht
    exact jobsSound_jobEvent hs ht fun _ => jobsSound_receiveLine hs
  | receivedPageBegin =>
    rw [exec_receivedPageBegin] at ht
    exact jobsSound_jobEvent hs ht fun _ => jobsSound_receiveBegin hs
  | receivedPageEnd =>
    rw [exec_receivedPageEnd] at ht
    exact jobsSound_jobEvent hs ht fun _ => jobsSound_of_work hs (work_receiveEnd s)
  | undelimitableItem =>
    rw [exec_undelimitableItem] at ht
    exact jobsSound_jobEvent hs ht fun _ => jobsSound_receiveLost hs
  | replySent =>
    rw [exec_replySent] at ht
    exact jobsSound_event hs ht fun _ => jobsSound_replySent hs
  | dataOutSent _ =>
    rw [exec_dataOutSent] at ht
    exact jobsSound_jobEvent hs ht fun _ => jobsSound_dataOutSent hs
  | scanLineEntryAdmit =>
    rw [exec_scanLineEntryAdmit] at ht
    exact jobsSound_jobEvent hs ht fun hd => jobsSound_admitScanLine hs hd
  | scanLineCaptured _ =>
    rw [exec_scanLineCaptured] at ht
    exact jobsSound_quietEvent hs ht (work_endCapture _ s)
  | spanCodeLine =>
    rw [exec_spanCodeLine] at ht
    exact jobsSound_quietEvent hs ht (work_codeCaptured s)
  | scanInTakeRecord =>
    rw [exec_scanInTakeRecord] at ht
    exact jobsSound_jobEvent hs ht fun _ => jobsSound_of_work hs (work_takeScanned s)
  | lampWarm =>
    rw [exec_lampWarm] at ht
    exact jobsSound_jobEvent hs ht fun _ => jobsSound_of_work hs (work_lampWarmed s)
  | calibrationCaptureEnd _ =>
    rw [exec_calibrationCaptureEnd] at ht
    exact jobsSound_jobEvent hs ht fun _ => jobsSound_endCalibrationLine hs
  | motionBegin _ =>
    rw [exec_motionBegin] at ht
    exact jobsSound_jobEvent hs ht fun hd => jobsSound_beginMotion hs hd
  | feedStep _ =>
    rw [exec_feedStep] at ht
    exact jobsSound_jobEvent hs ht fun hd => jobsSound_takeStep hs (mayMove_of_stepDue hs hd)
  | motorRest _ =>
    rw [exec_motorRest] at ht
    exact jobsSound_jobEvent hs ht fun hd => jobsSound_comeToRest hs hd
  | energizingEnd _ =>
    rw [exec_energizingEnd] at ht
    exact jobsSound_jobEvent hs ht fun hd => jobsSound_endEnergizing hs hd
  | holdDelayExpiry _ =>
    rw [exec_holdDelayExpiry] at ht
    exact jobsSound_event hs ht fun _ => jobsSound_setCurrent hs (by decide)
  | offDelayExpiry _ =>
    rw [exec_offDelayExpiry] at ht
    exact jobsSound_event hs ht fun _ => jobsSound_setCurrent hs (by decide)
  | pwmPeriodEnd _ =>
    rw [exec_pwmPeriodEnd] at ht
    exact jobsSound_quietEvent hs ht (work_endPeriod _ s)
  | docEntryChange _ =>
    rw [exec_docEntryChange] at ht
    exact jobsSound_jobEvent hs ht fun _ => jobsSound_of_work hs ((work_wakeCause _ _).trans (work_raiseSensor _))
  | docReadChange _ =>
    rw [exec_docReadChange] at ht
    exact jobsSound_jobEvent hs ht fun _ => jobsSound_docRead (jobsSound_of_work hs (work_onLevels s _))
  | paperChange _ =>
    rw [exec_paperChange] at ht
    exact jobsSound_jobEvent hs ht fun _ => jobsSound_of_work hs ((work_wakeCause _ _).trans (work_raiseSensor _))
  | coverChange _ =>
    rw [exec_coverChange] at ht
    exact jobsSound_jobEvent hs ht fun _ => jobsSound_cover (jobsSound_of_work hs (work_onLevels s _))
  | cutterHomeChange _ =>
    rw [exec_cutterHomeChange] at ht
    exact jobsSound_jobEvent hs ht fun _ => jobsSound_homeChanged hs
  | wakeKeyChange _ =>
    rw [exec_wakeKeyChange] at ht
    refine jobsSound_quietEvent hs ht ?_
    split
    exacts [work_wakeCause _ _, rfl]
  | cutterTimeout =>
    rw [exec_cutterTimeout] at ht
    exact jobsSound_jobEvent hs ht fun _ => jobsSound_cycleTimesOut hs
  | printLineOffer _ _ _ =>
    rw [exec_printLineOffer] at ht
    exact jobsSound_jobEvent hs ht fun hd => jobsSound_offerLine (jobsSound_of_work hs (work_onFaults s _)) (mayMove_of_offerDue hd)
  | strobeSubpulseEnd =>
    rw [exec_strobeSubpulseEnd] at ht
    exact jobsSound_jobEvent hs ht fun _ => jobsSound_of_work hs (work_endSubpulse s)
  | headTimerLimit =>
    rw [exec_headTimerLimit] at ht
    exact jobsSound_jobEvent hs ht fun _ => jobsSound_of_work hs (work_endSubpulse s)
  | headReady =>
    rw [exec_headReady] at ht
    exact jobsSound_quietEvent hs ht rfl
  | converterTimedSample _ _ =>
    rw [exec_converterTimedSample] at ht
    exact jobsSound_jobEvent hs ht fun _ => jobsSound_of_work hs ((work_onEnergy _ _).trans (work_takeSamples s _ _))
  | idleCountExpiry =>
    rw [exec_idleCountExpiry] at ht
    exact jobsSound_event hs ht fun _ => jobsSound_enterStandby hs
  | dozeCountExpiry =>
    rw [exec_dozeCountExpiry] at ht
    exact jobsSound_quietEvent hs ht rfl
  | linkReceiveEdge =>
    rw [exec_linkReceiveEdge] at ht
    exact jobsSound_quietEvent hs ht (work_wakeCause s _)
  | wakingEnd =>
    rw [exec_wakingEnd] at ht
    exact jobsSound_quietEvent hs ht (work_reachStandby s)
  | ringPulse =>
    rw [exec_ringPulse] at ht
    exact jobsSound_quietEvent hs ht ((work_takePulse _).trans (work_ringOverdue s))
  | ringBurstEnd =>
    rw [exec_ringBurstEnd] at ht
    exact jobsSound_quietEvent hs ht (work_judgeBurst s)
  | ringGapExpiry =>
    rw [exec_ringGapExpiry] at ht
    exact jobsSound_quietEvent hs ht (work_ringStops _ s)
  | alarmExpiry =>
    rw [exec_alarmExpiry] at ht
    exact jobsSound_quietEvent hs ht (work_alarmExpires s)
  | silenceFirstExpiry =>
    rw [exec_silenceFirstExpiry] at ht
    exact jobsSound_jobEvent hs ht fun _ => jobsSound_firstExpiry hs
  | silenceSecondExpiry =>
    rw [exec_silenceSecondExpiry] at ht
    exact jobsSound_jobEvent hs ht fun _ => jobsSound_secondExpiry hs
  | hostrstPulseEnd =>
    rw [exec_hostrstPulseEnd] at ht
    exact jobsSound_quietEvent hs ht rfl
  | batteryCheck _ =>
    rw [exec_batteryCheck] at ht
    exact jobsSound_quietEvent hs ht (work_readBattery _ s)
  | powerOnReset =>
    rw [exec_powerOnReset] at ht
    exact jobsSound_event hs ht fun _ => jobsSound_of_work (jobsSound_resetBlocks .powerOn s) rfl
  | supplyDropReset =>
    rw [exec_supplyDropReset] at ht
    exact jobsSound_event hs ht fun _ => jobsSound_of_work (jobsSound_resetBlocks _ s) (work_onStart _ _)
  | supplyBelowPowerOff =>
    rw [exec_supplyBelowPowerOff] at ht
    exact jobsSound_event hs ht fun _ => jobsSound_resetBlocks .powerOn s
  | pinReset =>
    rw [exec_pinReset] at ht
    exact jobsSound_event hs ht fun _ => jobsSound_resetBlocks .pin s
  | resetEnd _ _ _ _ =>
    rw [exec_resetEnd] at ht
    exact jobsSound_quietEvent hs ht rfl
  | settingsPhaseEnd _ =>
    rw [exec_settingsPhaseEnd] at ht
    exact jobsSound_quietEvent hs ht rfl
  | memoryPhaseEnd _ _ _ _ =>
    rw [exec_memoryPhaseEnd] at ht
    exact jobsSound_quietEvent hs ht ((work_onStart _ _).trans (work_build _ _ _ s))
  | mechanismPhaseEnd =>
    rw [exec_mechanismPhaseEnd] at ht
    exact jobsSound_quietEvent hs ht (work_release s)
  | settingsStoreEnd _ =>
    rw [exec_settingsStoreEnd] at ht
    refine jobsSound_quietEvent hs ht ?_
    split
    exacts [work_endStore _ _ s, rfl]
  | linkByteReceived _ _ =>
    rw [exec_linkByteReceived] at ht
    exact jobsSound_quietEvent hs ht ((work_receiveByte _ _ _).trans (work_beforeByte s))
  | mechanismLevelsTaken _ =>
    rw [exec_mechanismLevelsTaken] at ht
    exact jobsSound_quietEvent hs ht ((work_beginStartCalibration _ _).trans (work_beginHoming _ _))

/-- Every step; a microsecond of the clock is one (log 1). -/
theorem jobsSound_step (hs : s.jobsSound) (ht : step s = .next t) : t.jobsSound := by
  unfold step at ht
  split at ht
  · next i rest _ => exact jobsSound_exec (s := { s with pending := rest }) (jobsSound_of_work hs rfl) ht
  · cases ht; exact jobsSound_of_work hs rfl

/-- R124, R131: the motor of a job that stands still has no entry and no motion, so nothing of a motion is due. -/
theorem restingMotor_idle {k : Nat} {j : Job} {m : Motor} (hs : s.jobsSound) (hj : jobIn s k = some j)
    (hst : j.state = .held ∨ j.state = .boundary) (hm : holderOf s (motorEngine m) = .job k) :
    motionBeginDue s m = false ∧ energizingDue s m = false ∧ stepDue s m = false := by
  have hrests : (feedOf s m).rests = true := jobRests_iff.1 (hs.rests k j hj hst) m hm
  simp only [Feed.rests, Bool.and_eq_true, Bool.not_eq_true'] at hrests
  refine ⟨by simp [motionBeginDue, motionDue, hrests.2], ?_, by simp [stepDue, hrests.1]⟩
  have hc : (feedOf s m).current ≠ .energizing := fun h => by
    have := hs.driven m h
    rw [hrests.1] at this; cases this
  simp [energizingDue, hc]

/-- Settles O60: each operation on the jobs, the engines and the motors keeps the agreement (`jobsSound_exec`), and a motor that rests has
nothing due. -/
theorem jobsSoundKept : Obligations.JobsSoundKept := by
  unfold Obligations.JobsSoundKept
  refine ⟨fun s t hs ht => jobsSound_step hs ht, fun s k j m hs hj hst hm => ?_⟩
  obtain ⟨hbegin, henergizing, hstep⟩ := restingMotor_idle hs hj hst hm
  rw [exec_motionBegin, exec_energizingEnd, exec_feedStep]
  exact ⟨event_idle hbegin, event_idle henergizing, event_idle hstep⟩

end Sys2Proof.Machine
end

section
/-! The silence supervisor's expiries (O43). -/

namespace Sys2Proof.Machine

-- One theorem at a time, as in the tests: a thread for each would exceed the memory allowed.
set_option Elab.async false

variable {s t u : State}

/-! ## The jobs a silence stops (R161) -/

/-- R57, R161: stopped as by JOB-HOLD, one after another: only the job slots change. -/
theorem stopJobs_slots (l : List Nat) (s : State) :
    ∃ slots, l.foldl (fun s k => stopJob k .hold s) s = s.onJobs (fun w => { w with slots := slots }) := by
  refine List.foldlRecOn l _ (motive := fun t => ∃ slots, t = s.onJobs (fun w => { w with slots := slots })) ⟨_, rfl⟩ ?_
  rintro _ ⟨slots, rfl⟩ k -
  rw [stopJob_hold]
  exact ⟨_, rfl⟩

theorem jobRests_stopJob (i k : Nat) (s : State) : jobRests (stopJob i .hold s) k = jobRests s k := by
  rw [stopJob_hold]; rfl

/-- Each job named is stopped once, by the motors as they stand; the others stay as they are. -/
theorem jobIn_stopJobs {l : List Nat} (hl : l.Nodup) (k : Nat) (s : State) : jobIn (l.foldl (fun s k => stopJob k .hold s) s) k =
    if k ∈ l then (jobIn s k).map (Job.stoppedForHold (jobRests s k)) else jobIn s k := by
  induction l generalizing s with
  | nil => rfl
  | cons i is ih =>
    obtain ⟨hi, his⟩ := List.nodup_cons.1 hl
    have hjob : jobIn (stopJob i .hold s) k = if k = i then (jobIn s k).map (Job.stoppedForHold (jobRests s i)) else jobIn s k := by
      rw [stopJob_hold]; exact jobIn_onJob i k _ s
    rw [List.foldl_cons, ih his, hjob, jobRests_stopJob]
    by_cases h : k = i
    · subst h; simp [hi]
    · simp [h]

/-- R161: the jobs a silence stops. -/
theorem mem_runningMechanismJobs {k : Nat} : k ∈ runningMechanismJobs s ↔
    k < 4 ∧ (∃ j, jobIn s k = some j ∧ j.state = .running) ∧ (jobHolding s .scanner = some k ∨ jobHolding s .printer = some k) := by
  simp only [runningMechanismJobs, mechanismJobs, usedSlots, List.mem_filter, List.mem_range, Config.jobSlots, Bool.or_eq_true,
    decide_eq_true_eq, Option.map_eq_some_iff, Option.isSome_iff_exists]
  constructor
  · rintro ⟨⟨⟨hk, -⟩, hh⟩, hj⟩
    exact ⟨hk, hj, hh⟩
  · rintro ⟨hk, ⟨j, hj, hst⟩, hh⟩
    exact ⟨⟨⟨hk, j, hj⟩, hh⟩, j, hj, hst⟩

theorem nodup_runningMechanismJobs (s : State) : (runningMechanismJobs s).Nodup :=
  ((List.nodup_range.filter _).filter _).filter _

/-- R161: the first expiry: the jobs stopped, SILENCE with their number, and the second count. -/
theorem firstExpiry_eq (s : State) : ∃ slots, (∀ k, jobIn (s.onJobs (fun w => { w with slots := slots })) k =
      if k ∈ runningMechanismJobs s then (jobIn s k).map (Job.stoppedForHold (jobRests s k)) else jobIn s k) ∧
    firstExpiry s = (raise 15 (.silence (runningMechanismJobs s).length s.settings.silenceLimit s.silence.hostResets)
      (s.onJobs (fun w => { w with slots := slots }))).onSilence (fun x => { x with firstStage := true, since := some s.now }) := by
  obtain ⟨slots, h⟩ := stopJobs_slots (runningMechanismJobs s) s
  refine ⟨slots, fun k => ?_, ?_⟩
  · rw [← h]; exact jobIn_stopJobs (nodup_runningMechanismJobs s) k s
  · unfold firstExpiry
    dsimp only
    rw [h]
    have hnow : ∀ (n : Nat) (d : Detail) (v : State), (raise n d v).now = v.now := fun n d v => by unfold raise; split <;> rfl
    simp only [hnow]
    rfl

theorem jobIn_firstExpiry (s : State) (k : Nat) : jobIn (firstExpiry s) k =
    if k ∈ runningMechanismJobs s then (jobIn s k).map (Job.stoppedForHold (jobRests s k)) else jobIn s k := by
  obtain ⟨slots, hjobs, h⟩ := firstExpiry_eq s
  rw [← hjobs, h]
  unfold jobIn
  rw [State.onSilence_jobs, raise_jobs]

theorem firstExpiry_silence (s : State) : (firstExpiry s).silence = { s.silence with firstStage := true, since := some s.now } := by
  obtain ⟨slots, -, h⟩ := firstExpiry_eq s
  rw [h]
  unfold raise
  split <;> rfl

/-- R199: SILENCE is replaced by a newer one. -/
theorem raised_silence (old : Option Record) (a b c : Nat) : (Record.raised old (.silence a b c)).detail = .silence a b c := by
  cases old with
  | none => rfl
  | some r => rcases r with ⟨n, d⟩; cases d <;> rfl

theorem firstExpiry_event (hr : s.start.phase = .ready) (hl : s.events.pending.length = 16) :
    ∃ e, (firstExpiry s).events.pending[15]? = some (some e) ∧
      e.detail = .silence (runningMechanismJobs s).length s.settings.silenceLimit s.silence.hostResets := by
  obtain ⟨slots, -, h⟩ := firstExpiry_eq s
  rw [h, raise, if_pos (show (s.onJobs (fun w => { w with slots := slots })).start.phase = .ready from hr)]
  refine ⟨_, ?_, raised_silence (s.events.pending[15]) _ _ _⟩
  show (modifyAt 15 _ s.events.pending)[15]? = _
  rw [getElem?_modifyAt, if_pos rfl, List.getElem?_eq_getElem (by omega)]
  rfl

/-! ## The end of a job leaves HOSTRST (R61, R162) -/

section
variable (s : State)

@[simp] theorem link_raise (n : Nat) (d : Detail) : (raise n d s).link = s.link := by unfold raise; split <;> rfl
@[simp] theorem link_onDoc (n : Nat) (f : Document → Document) : (onDoc n f s).link = s.link := by unfold onDoc; split <;> rfl
@[simp] theorem link_onPage (slot : Nat) (f : Page → Page) : (onPage slot f s).link = s.link := rfl
@[simp] theorem link_onBlock (b : Nat) (f : Block → Block) : (onBlock b f s).link = s.link := rfl
@[simp] theorem link_freeBlock (b : Nat) : (freeBlock b s).link = s.link := by unfold freeBlock lowAfterFreeing; split <;> rfl

theorem link_foldl {α : Type} {g : State → α → State} (hg : ∀ s x, (g s x).link = s.link) (l : List α) (s : State) :
    (l.foldl g s).link = s.link := List.foldlRecOn l g (motive := fun t => t.link = s.link) rfl fun t h x _ => (hg t x).trans h

@[simp] theorem link_freeBlocksOf (bs : List Nat) : (freeBlocksOf bs s).link = s.link := link_foldl (fun s b => link_freeBlock s b) bs s
@[simp] theorem link_erasePage (slot : Nat) : (erasePage slot s).link = s.link := by simp [erasePage, forgetPage]
@[simp] theorem link_discardPage (slot : Nat) : (discardPage slot s).link = s.link := by simp [discardPage]
@[simp] theorem link_removePage (slot : Nat) : (removePage slot s).link = s.link := by simp [removePage]
@[simp] theorem link_discardScanPage : (discardScanPage s).link = s.link := by
  unfold discardScanPage; split
  · rfl
  · dsimp only; split
    · exact link_discardPage _ _
    · rfl
@[simp] theorem link_keepScanPage : (keepScanPage s).link = s.link := by unfold keepScanPage; split <;> rfl
@[simp] theorem link_endLinkPage (keep : Bool) : (endLinkPage keep s).link = s.link := by
  unfold endLinkPage; split
  · rfl
  · dsimp only; split
    · rfl
    · split
      · exact link_discardPage _ _
      · rfl
@[simp] theorem link_writerLosesPage (slot : Nat) : (writerLosesPage slot s).link = s.link := by
  unfold writerLosesPage; dsimp only; split <;> split <;> rfl
@[simp] theorem link_lastReaderLeft (slot : Nat) : (lastReaderLeft slot s).link = s.link := by
  unfold lastReaderLeft; dsimp only; split
  · rw [link_removePage]; split <;> simp
  · rfl
@[simp] theorem link_leavePage (o : Outlet) : (leavePage o s).link = s.link := by
  unfold leavePage; split
  · rfl
  · dsimp only; split
    · exact link_lastReaderLeft _ _
    · rfl
@[simp] theorem link_endWriting (kind : JobKind) (keep : Bool) : (endWriting kind keep s).link = s.link := by
  unfold endWriting; repeat' split
  all_goals simp
@[simp] theorem link_endReading (kind : JobKind) : (endReading kind s).link = s.link := by
  unfold endReading; repeat' split
  all_goals simp
@[simp] theorem link_leaveDocument (j : Job) : (leaveDocument j s).link = s.link := by
  unfold leaveDocument giveUpWriting; split <;> simp
@[simp] theorem link_leaveLists (k : Nat) : (leaveLists k s).link = s.link := 
  link_foldl (g := fun s e => onWaits e (fun l => l.filter (fun x => x != k)) s) (fun _ _ => rfl) _ s
@[simp] theorem link_raiseJob (k : Nat) (f : Option FinalStatus) : (raiseJob k f s).link = s.link := by unfold raiseJob; split <;> simp

theorem hostReset_releaseEngine (e : Engine) : (releaseEngine e s).link.hostReset = s.link.hostReset := by
  cases e with
  | scanner => rfl
  | printer => rfl
  | linkIn =>
    exact List.foldlRecOn (motive := fun t : State => t.link.hostReset = s.link.hostReset) _ _ rfl fun t h _ _ => by
      rw [linkFault, link_raise]; exact h
  | linkOut => rfl

theorem hostReset_endJob (k : Nat) (st : FinalStatus) : (endJob k st s).link.hostReset = s.link.hostReset := by
  unfold endJob
  split
  · rfl
  next j _ =>
  rw [State.onJobs_link, link_raiseJob]
  refine List.foldlRecOn (motive := fun t : State => t.link.hostReset = s.link.hostReset) _ _ ?_ fun t h e _ =>
    (hostReset_releaseEngine t e).trans h
  rw [link_leaveDocument]
  split <;> simp
end

/-! ## Every job ended (R162) -/

theorem endJob_slot {k : Nat} {st : FinalStatus} (hk : k < s.jobs.slots.length) : (endJob k st s).jobs.slots[k]? = some none := by
  cases hj : jobIn s k with
  | none =>
    rw [jobIn, List.getElem?_eq_getElem hk] at hj
    unfold endJob
    rw [show jobIn s k = none by rw [jobIn, List.getElem?_eq_getElem hk]; exact hj, List.getElem?_eq_getElem hk]
    exact congrArg some hj
  | some j =>
    have hlen := (kept_endJob (k := k) (status := st) (Kept.refl s)).slotCount
    unfold endJob at hlen ⊢
    rw [hj] at hlen ⊢
    simp only [State.onJobs_jobs, List.length_set] at hlen ⊢
    exact List.getElem?_set_self (by omega)

/-- Jobs ended one after another: their slots are empty, and so are those that were. -/
theorem endJobs_slots {l : List Nat} {st : FinalStatus} {k : Nat} (hk : k < s.jobs.slots.length)
    (h : k ∈ l ∨ s.jobs.slots[k]? = some none) : (l.foldl (fun s k => endJob k st s) s).jobs.slots[k]? = some none := by
  induction l generalizing s with
  | nil => exact h.resolve_left (fun h => nomatch h)
  | cons i is ih =>
    have hkept := kept_endJob (k := i) (status := st) (Kept.refl s)
    refine ih (by rw [hkept.slotCount]; exact hk) ?_
    by_cases hi : k = i
    · subst hi; exact .inr (endJob_slot hk)
    · rcases h with h | h
      · exact .inl ((List.mem_cons.1 h).resolve_left hi)
      · exact .inr (hkept.emptySlot k h)

/-- R162: HOSTRST driven, its pulse begun and the count of the stage ended. -/
def hostResetBegun (s : State) : State :=
  (s.onLink (fun l => { l with hostReset := true })).onSilence (fun x => { x with pulse := some s.now, since := none, firstStage := false })

/-- R162: the jobs in use ended. -/
def jobsAborted (s : State) : State := (usedSlots s).foldl (fun s k => endJob k .aborted s) s

theorem secondExpiry_eq (s : State) : secondExpiry s =
    (jobsAborted (hostResetBegun s)).onSilence (fun x => { x with hostResets := satAdd 255 x.hostResets 1 }) := rfl

theorem kept_jobsAborted (s : State) : Kept s (jobsAborted s) := kept_foldl (fun _ _ h => kept_endJob h) (Kept.refl s)

theorem hostReset_jobsAborted (s : State) : (jobsAborted s).link.hostReset = s.link.hostReset :=
  List.foldlRecOn (motive := fun t : State => t.link.hostReset = s.link.hostReset) _ _ rfl fun t h k _ => (hostReset_endJob t k .aborted).trans h

theorem jobsAborted_slots (hl : s.jobs.slots.length = 4) : (jobsAborted s).jobs.slots = [none, none, none, none] := by
  have hlen : (jobsAborted s).jobs.slots.length = 4 := (kept_jobsAborted s).slotCount.trans hl
  have hnone : ∀ k < 4, (jobsAborted s).jobs.slots[k]? = some none := fun k hk => by
    refine endJobs_slots (by omega) ?_
    cases hj : jobIn s k with
    | none =>
      refine .inr ?_
      rw [jobIn, List.getElem?_eq_getElem (by omega)] at hj
      rw [List.getElem?_eq_getElem (by omega)]
      exact congrArg some hj
    | some j => exact .inl (List.mem_filter.2 ⟨List.mem_range.2 hk, by simp [hj]⟩)
  refine List.ext_getElem? fun k => ?_
  by_cases hk : k < 4
  · rw [hnone k hk]
    have : k = 0 ∨ k = 1 ∨ k = 2 ∨ k = 3 := by omega
    rcases this with rfl | rfl | rfl | rfl <;> rfl
  · rw [List.getElem?_eq_none (by omega), List.getElem?_eq_none (by simpa using hk)]

/-! ## The expiries -/

theorem silenceExpired_of {t0 : Nat} (hr : silenceRuns s = true) (h0 : s.silence.since = some t0)
    (hn : t0 + s.settings.silenceLimit * 1000000 ≤ s.now) : silenceExpired s = true := by
  simp [silenceExpired, hr, reached, h0, seconds, hn]

theorem pulseDue_of {t0 : Nat} (h0 : s.silence.pulse = some t0) (hn : t0 + 100000 ≤ s.now) : pulseDue s = true := by
  simp [pulseDue, h0, passed, hostResetTime, ms, hn]

/-- Settles O43: the first expiry touches the slots of the jobs it stops and no other (`firstExpiry_eq`); the second ends each job in use,
which leaves its slot empty and HOSTRST driven. -/
theorem silenceExpiresAndHostResets : Obligations.SilenceExpiresAndHostResets := by
  unfold Obligations.SilenceExpiresAndHostResets
  refine ⟨fun t0 s hr h0 hn => ⟨fun hstage => ⟨?_, firstExpiry_silence s, fun k j hk hj hst hh => ?_, fun k j hj h => ?_, firstExpiry_event⟩,
    fun hstage => ⟨?_, ?_, ?_, ?_, fun hl => jobsAborted_slots (s := hostResetBegun s) hl⟩⟩, fun t0 s h0 hn => ?_⟩
  · rw [exec_silenceFirstExpiry, jobEvent_due (by simp [silenceExpired_of hr h0 hn, hstage])]
  · rw [jobIn_firstExpiry, if_pos (mem_runningMechanismJobs.2 ⟨hk, ⟨j, hj, hst⟩, hh⟩), hj]
    rfl
  · rw [jobIn_firstExpiry, if_neg, hj]
    intro hk
    obtain ⟨-, ⟨j', hj', hst⟩, hh⟩ := mem_runningMechanismJobs.1 hk
    rw [hj] at hj'
    cases hj'
    rcases h with h | ⟨hs, hp⟩
    · exact h hst
    · exact hh.elim hs hp
  · rw [exec_silenceSecondExpiry, jobEvent_due (by simp [silenceExpired_of hr h0 hn, hstage])]
  · rw [secondExpiry_eq, State.onSilence_link, hostReset_jobsAborted]; rfl
  · rw [secondExpiry_eq, State.onSilence_silence, (kept_jobsAborted _).silence]; rfl
  · rw [secondExpiry_eq, State.onSilence_silence, (kept_jobsAborted _).silence]; rfl
  · rw [exec_hostrstPulseEnd, event_due (pulseDue_of h0 hn)]
    rfl

end Sys2Proof.Machine
end

section
/-! JOB-START (O24). -/

namespace Sys2Proof.Machine

-- One theorem at a time, as in the tests: a thread for each would exceed the memory allowed.
set_option Elab.async false

variable {s : State}

/-! ## The job's id (R49) -/

theorem slotOfId_isNone {id : Nat} : (slotOfId s id).isNone = true ↔ id ∉ s.jobs.slots.filterMap (Option.map Job.id) := by
  simp only [slotOfId, Option.isNone_iff_eq_none, List.findIdx?_eq_none_iff, List.mem_filterMap, not_exists, not_and]
  refine forall_congr' fun j => imp_congr_right fun _ => ?_
  cases j <;> simp

/-- The ids tried for a job: the counter's and the four after it, wrapping from 255 to 1. -/
def idsTried (s : State) : List Nat := (List.range 5).map (fun i => (s.jobs.nextId - 1 + i) % 255 + 1)

theorem nodup_idsTried (s : State) : (idsTried s).Nodup :=
  List.nodup_range.map_on fun i hi j hj h => by rw [List.mem_range] at hi hj; omega

theorem mem_idsTried {id : Nat} (h : id ∈ idsTried s) : 1 ≤ id ∧ id ≤ 255 := by
  obtain ⟨i, -, rfl⟩ := List.mem_map.1 h
  omega

/-- Four jobs hold at most four of the five ids tried. -/
theorem freeId_free (hl : s.jobs.slots.length = 4) : freeId s ∈ idsTried s ∧ slotOfId s (freeId s) = none := by
  cases h : (idsTried s).find? (fun id => (slotOfId s id).isNone) with
  | some id =>
    have hid : freeId s = id := congrArg (Option.getD · 1) h
    rw [hid]
    exact ⟨List.mem_of_find?_eq_some h, by simpa using List.find?_some h⟩
  | none =>
    have hsub : idsTried s ⊆ s.jobs.slots.filterMap (Option.map Job.id) := fun id hid => by
      by_contra hno
      exact List.find?_eq_none.1 h id hid (slotOfId_isNone.2 hno)
    have hle := ((nodup_idsTried s).subperm hsub).length_le
    have hle' := List.length_filterMap_le (Option.map Job.id) s.jobs.slots
    have hlen : (idsTried s).length = 5 := by simp [idsTried]
    omega

/-! ## The job's slot (R49, R50) -/

theorem lowestFreeSlot_eq_some {k : Nat} (h : lowestFreeSlot s = some k) :
    k < s.jobs.slots.length ∧ jobIn s k = none ∧ ∀ i, i < k → (jobIn s i).isSome = true := by
  obtain ⟨hk, hnone, hlt⟩ := (findIdx?_getD none).1 h
  have hjob : ∀ i, jobIn s i = s.jobs.slots.getD i none := fun i => by
    rw [jobIn, List.getD_eq_getElem?_getD]
    cases s.jobs.slots[i]? <;> rfl
  simp only [hjob]
  exact ⟨hk, Option.isNone_iff_eq_none.1 hnone, fun i hi => Option.isSome_iff_ne_none.2 fun hno => by
    have := hlt i hi
    rw [hno] at this
    cases this⟩

theorem lowestFreeSlot_eq_none : lowestFreeSlot s = none ↔ ∀ x ∈ s.jobs.slots, x.isSome = true := by
  rw [lowestFreeSlot, List.findIdx?_eq_none_iff]
  refine forall_congr' fun x => imp_congr_right fun _ => ?_
  cases x <;> simp

theorem jobIn_onWaits (e : Engine) (f : List Nat → List Nat) (s : State) (k : Nat) : jobIn (onWaits e f s) k = jobIn s k := rfl

theorem jobIn_joinLists (k : Nat) (kind : JobKind) (y : Bool) (s : State) (i : Nat) : jobIn (joinLists k kind y s) i = jobIn s i :=
  List.foldlRecOn (motive := fun t => jobIn t i = jobIn s i) kind.engines _ rfl fun _ h _ _ => h

theorem jobIn_onDoc (n : Nat) (f : Document → Document) (s : State) (i : Nat) : jobIn (onDoc n f s) i = jobIn s i := by
  unfold onDoc; split <;> rfl

theorem jobIn_fillSlot {k : Nat} (j : Job) (hk : k < s.jobs.slots.length) : jobIn (fillSlot k j s) k = some j := by
  rw [fillSlot_eq, jobIn_joinLists, recordJob, jobIn_onDoc, jobIn_slot]
  exact List.getElem?_set_self hk

/-! ## The checks (R51) -/

theorem JobKind.ofCode_eq_none {n : Nat} (h : 4 < n) : JobKind.ofCode n = none := by
  obtain ⟨m, rfl⟩ := Nat.exists_eq_add_of_le' h
  rfl

theorem ScanMode.ofCode_isNone (n : Nat) : (ScanMode.ofCode n).isNone = decide (1 < n) := by
  unfold ScanMode.ofCode
  split
  · rfl
  · rfl
  next h0 h1 =>
    have : n ≠ 0 := h0
    have : n ≠ 1 := h1
    exact (decide_eq_true (by omega)).symm

section
variable {p : StartParams} {kind : JobKind}

/-- Checks 1 to 3, and log 32's. -/
def StartParams.bad (p : StartParams) (kind : JobKind) : Prop :=
  3 < p.priority ∨ ((kind = .scan ∨ kind = .copy) ∧ 1 < p.scanMode) ∨ ((kind = .print ∨ kind = .copy) ∧ p.copies = 0) ∨ 3 < p.options ∨
    (p.options / 2 % 2 = 1 ∧ (kind = .scan ∨ kind = .receive)) ∨ (p.options % 2 = 1 ∧ kind = .receive) ∨
    (p.options / 2 % 2 = 1 ∧ (kind = .print ∨ kind = .copy) ∧ 1 < p.copies)

theorem StartParams.badParam_iff : p.badParam kind = true ↔ p.bad kind := by
  have hcopies : 1 < p.copiesTaken kind ↔ (kind = .print ∨ kind = .copy) ∧ 1 < p.copies := by
    unfold StartParams.copiesTaken JobKind.prints
    split <;> simp_all
  simp only [StartParams.badParam, StartParams.bad, ScanMode.ofCode_isNone, JobKind.scans, JobKind.prints, StartParams.freesAsRead,
    StartParams.holdsAtBoundary, Bool.or_eq_true, Bool.and_eq_true, decide_eq_true_eq, hcopies, or_assoc]

theorem StartParams.badRange_iff {d : Document} : p.badRange d = true ↔ 64 < p.firstTaken ∨ 64 < p.lastPage ∨
    (p.lastPage ≠ 0 ∧ p.lastPage < p.firstTaken) ∨ (d.state = .closed ∧ (d.pages.length < p.firstTaken ∨ d.pages.length < p.lastPage)) := by
  simp only [StartParams.badRange, Bool.or_eq_true, Bool.and_eq_true, decide_eq_true_eq, or_assoc]

theorem docExists_eq_false {n : Nat} : docExists s n = false ↔ n = 0 ∨ 32 < n ∨ (docOf s n).state = .empty := by
  simp only [docExists, ← Bool.not_eq_true, Bool.and_eq_true, decide_eq_true_eq, not_and_or, not_not, or_assoc]
  exact or_congr (by omega) (or_congr_left not_le)

theorem JobKind.writes_iff : kind.writes = true ↔ (kind = .scan ∨ kind = .copy) ∨ kind = .receive := by
  simp [JobKind.writes, JobKind.scans]

/-- The job would write in a document that another writes or that takes none (check 6). -/
def writesBusy (p : StartParams) (kind : JobKind) (s : State) : Prop :=
  ((kind = .scan ∨ kind = .copy) ∨ kind = .receive) ∧ ((docOf s p.document).state ≠ .opened ∨
    (docOf s p.document).writer.isSome = true ∨ (kind = .copy ∧ (docOf s p.document).pages ≠ []))

/-- Checks 4 to 8 as a chain: each is asked where those before it passed. -/
theorem startChecks_chain (s : State) :
    (lowestFreeSlot s = none → startChecks p kind s = .error .noRoom) ∧
    (lowestFreeSlot s ≠ none →
      (docExists s p.document = false → startChecks p kind s = .error .noSuch) ∧
      (docExists s p.document = true →
        (writesBusy p kind s → startChecks p kind s = .error .busy) ∧
        (¬writesBusy p kind s →
          let tight := kind = .copy ∧ p.freesAsRead ∧ freeBlocks s < 4
          let range := (kind = .print ∨ kind = .send) ∧ p.badRange (docOf s p.document)
          (tight → startChecks p kind s = .error .noRoom) ∧
          (¬tight → range → startChecks p kind s = .error .badParam) ∧
          (¬tight → ¬range → ∃ k, startChecks p kind s = .ok k)))) := by
  unfold startChecks writesBusy
  simp only [JobKind.writes_iff]
  cases lowestFreeSlot s with
  | none => exact ⟨fun _ => rfl, fun h => absurd rfl h⟩
  | some k =>
    refine ⟨nofun, fun _ => ⟨fun he => by simp [he], fun he => ⟨fun hw => ?_, fun hw => ?_⟩⟩⟩
    · simp only [he, Bool.not_true, Bool.false_eq_true, if_false]; exact if_pos hw
    · simp only [he, Bool.not_true, Bool.false_eq_true, if_false, if_neg hw]
      exact ⟨fun ht => if_pos ht, fun ht hr => by rw [if_neg ht, if_pos hr], fun ht hr => ⟨k, by rw [if_neg ht, if_neg hr]⟩⟩

/-! ## The command -/

theorem startJob_badKind (h : JobKind.ofCode p.kind = none) : startJob p s = .error .badParam := by unfold startJob; rw [h]

theorem startJob_badParam (hk : JobKind.ofCode p.kind = some kind) (h : p.badParam kind = true) : startJob p s = .error .badParam := by
  unfold startJob; simp only [hk, h, if_true]

theorem startJob_error {a : Answer} (hk : JobKind.ofCode p.kind = some kind) (h : p.badParam kind = false)
    (hc : startChecks p kind s = .error a) : startJob p s = .error a := by
  unfold startJob; simp only [hk, h, hc, Bool.false_eq_true, if_false]

theorem startJob_ok {k : Nat} (hk : JobKind.ofCode p.kind = some kind) (h : p.badParam kind = false)
    (hc : startChecks p kind s = .ok k) :
    startJob p s = .ok (advance (fillSlot k (newJob p kind s) s), be1 (newJob p kind s).id ++ be1 k) := by
  unfold startJob; simp only [hk, h, hc, Bool.false_eq_true, if_false]

end

/-- Settles O24: the first free of five ids is free, since four jobs hold at most four (`freeId_free`), and the checks are the chain of
`startChecks_chain`. -/
theorem jobStartTakesSlot : Obligations.JobStartTakesSlot := by
  unfold Obligations.JobStartTakesSlot
  intro a b c d e f g h s ht i p
  have refuse : ∀ {x : Answer}, startJob p (releaseCommand s) = .error x →
      exec i s = refused 0x20 x s := fun hj =>
    command_refused ht rfl hj
  refine ⟨fun kind k hk hp hc hl => ?_, fun ha => refuse (startJob_badKind (JobKind.ofCode_eq_none ha)), fun kind hk => ?_⟩
  · obtain ⟨hlen, hnone, hlow⟩ := lowestFreeSlot_eq_some (startChecks_ok hc).1
    obtain ⟨hmem, hfree⟩ := freeId_free hl
    obtain ⟨hpos, hle⟩ := mem_idsTried hmem
    refine ⟨?_, hnone, hlow, hpos, hle, hfree, jobIn_fillSlot _ hlen, rfl, rfl⟩
    exact command_done ht rfl (startJob_ok (s := releaseCommand s) hk hp hc)
  · intro scans prints ranged hold freeAsRead doc first bad full absent writing tight badRange
    have hbad : p.badParam kind = true ↔ bad :=
      StartParams.badParam_iff
    have hgood : ¬bad → p.badParam kind = false :=
      fun hb => Bool.eq_false_iff.2 (mt hbad.1 hb)
    obtain ⟨hfull, hroom⟩ := startChecks_chain (p := p) (kind := kind) s
    have hslot : ¬full → lowestFreeSlot s ≠ none := mt lowestFreeSlot_eq_none.1
    have hexists : ¬absent → docExists s b.toNat = true := fun h => Bool.ne_false_iff.1 (mt docExists_eq_false.1 h)
    have htight : tight ↔ kind = .copy ∧ p.freesAsRead ∧
        freeBlocks s < 4 := by simp [tight, freeAsRead, StartParams.freesAsRead, p]
    have hrange : badRange ↔ (kind = .print ∨ kind = .send) ∧
        p.badRange (docOf s b.toNat) :=
      and_congr_right fun _ => (StartParams.badRange_iff (p := p) (d := doc)).symm
    refine ⟨fun hb => refuse (startJob_badParam hk (hbad.2 hb)),
      fun hb hf => refuse (startJob_error hk (hgood hb) (hfull (lowestFreeSlot_eq_none.2 hf))),
      fun hb hf ha => refuse (startJob_error hk (hgood hb) ((hroom (hslot hf)).1 (docExists_eq_false.2 ha))),
      fun hb hf ha hw => refuse (startJob_error hk (hgood hb) (((hroom (hslot hf)).2 (hexists ha)).1 hw)),
      fun hb hf ha hw hti => refuse (startJob_error hk (hgood hb) ((((hroom (hslot hf)).2 (hexists ha)).2 hw).1 (htight.1 hti))),
      fun hb hf ha hw hti hr => refuse (startJob_error hk (hgood hb)
        ((((hroom (hslot hf)).2 (hexists ha)).2 hw).2.1 (mt htight.2 hti) (hrange.1 hr))),
      fun hb hf ha hw hti hr => ⟨hgood hb, (((hroom (hslot hf)).2 (hexists ha)).2 hw).2.2 (mt htight.2 hti) (mt hrange.2 hr)⟩⟩

end Sys2Proof.Machine
end

section
/-! The commands on a job (O25). -/

namespace Sys2Proof.Machine

-- One theorem at a time, as in the tests: a thread for each would exceed the memory allowed.
set_option Elab.async false

variable {s : State} {id k n : Nat} {j : Job} {b : Boundary} {c : Choice}

/-! ## The job named -/

theorem namedJob_slotOfId (h : namedJob s id = some (k, j)) : slotOfId s id = some k := by
  obtain ⟨_, hslot, h⟩ := Option.bind_eq_some_iff.1 h
  obtain ⟨_, -, h⟩ := Option.map_eq_some_iff.1 h
  cases h; exact hslot

/-- R61: a job ended is in no slot. -/
theorem jobIn_endJob (k : Nat) (st : FinalStatus) (s : State) : jobIn (endJob k st s) k = none := by
  by_cases hk : k < s.jobs.slots.length
  · rw [jobIn, endJob_slot hk]; rfl
  · have hlen := (kept_endJob (k := k) (status := st) (Kept.refl s)).slotCount
    rw [jobIn, List.getElem?_eq_none (by omega)]; rfl

/-! ## Each command's verdict, by the job named -/

theorem holdJob_running (h : namedJob s id = some (k, j)) (hst : j.state = .running) :
    holdJob id s = .ok (advance (onJob k (Job.stoppedForHold (jobRests s k)) s), []) := by
  simp [holdJob, h, hst, stopJob_hold]

theorem holdJob_busy (h : namedJob s id = some (k, j)) (hst : j.state ≠ .running) : holdJob id s = .error .busy := by
  simp [holdJob, h, hst]

theorem resumeJob_held (h : namedJob s id = some (k, j)) (hst : j.state = .held) :
    resumeJob id s = .ok (advance (resumed k j s), []) := by simp [resumeJob, h, hst]

theorem resumeJob_busy (h : namedJob s id = some (k, j)) (hst : j.state ≠ .held) : resumeJob id s = .error .busy := by
  simp [resumeJob, h, hst]

theorem abortJob_named (h : namedJob s id = some (k, j)) : abortJob id s = .ok (advance (endJob k .aborted s), []) := by
  simp [abortJob, h]

theorem sendCredit_send (h : namedJob s id = some (k, j)) (hk : j.kind = .send) :
    sendCredit id n s = .ok (advance (onJob k (Job.credited n) s), be2 (j.credited n).credit) := by simp [sendCredit, h, hk]

theorem sendCredit_badParam (h : namedJob s id = some (k, j)) (hk : j.kind ≠ .send) : sendCredit id n s = .error .badParam := by
  simp [sendCredit, h, hk]

theorem commands_noSuch (h : namedJob s id = none) : holdJob id s = .error .noSuch ∧ resumeJob id s = .error .noSuch ∧
    abortJob id s = .error .noSuch ∧ sendCredit id n s = .error .noSuch := by
  simp [holdJob, resumeJob, abortJob, sendCredit, h]

/-! ## JOB-ANSWER (R64) -/

/-- R64, R74: the verdict on an answer to the job in a slot. -/
def answerTo (k : Nat) (j : Job) (choice : Option Choice) (s : State) : Verdict :=
  if j.kind = .receive ∧ choice = some .finish then .ok (advance (endJob k .completed s), [])
  else if j.state ≠ .boundary then .error .busy
  else match j.boundary, choice with
    | some b, some c => if badChoice j b c then .error .badParam else .ok (takeAnswer k j b c s, [])
    | _, _ => .error .badParam

theorem answerJob_named (h : namedJob s id = some (k, j)) : answerJob id n s = answerTo k j (Choice.ofCode n) s := by
  unfold answerJob answerTo
  rw [namedJob_slotOfId h]
  simp only [namedJob_jobIn h] <;> rfl

theorem answerJob_noSuch (h : namedJob s id = none) : answerJob id n s = .error .noSuch := by
  unfold answerJob
  cases hs : slotOfId s id with
  | none => rfl
  | some k =>
    have hj : jobIn s k = none := by simpa [namedJob, hs] using h
    simp only [hj]

variable {choice : Option Choice}

theorem answerTo_finishReceive (hk : j.kind = .receive) : answerTo k j (some .finish) s = .ok (advance (endJob k .completed s), []) :=
  if_pos ⟨hk, rfl⟩

theorem answerTo_busy (h : j.kind ≠ .receive ∨ choice ≠ some .finish) (hst : j.state ≠ .boundary) :
    answerTo k j choice s = .error .busy := by
  unfold answerTo
  rw [if_neg (not_and_or.2 h), if_pos hst]

theorem answerTo_boundary (h : j.kind ≠ .receive ∨ choice ≠ some .finish) (hst : j.state = .boundary) (hb : j.boundary = some b) :
    answerTo k j choice s = match choice with
      | some c => if badChoice j b c then .error .badParam else .ok (takeAnswer k j b c s, [])
      | none => .error .badParam := by
  unfold answerTo
  rw [if_neg (not_and_or.2 h), if_neg (not_not.2 hst)]
  simp only [hb]
  cases choice <;> rfl

theorem answerTo_refused (h : j.kind ≠ .receive ∨ choice ≠ some .finish) (hst : j.state = .boundary) (hb : j.boundary = some b)
    (hbad : ∀ c, choice = some c → badChoice j b c = true) : answerTo k j choice s = .error .badParam := by
  rw [answerTo_boundary h hst hb]
  cases choice with
  | none => rfl
  | some c => exact if_pos (hbad c rfl)

theorem answerTo_taken (h : j.kind ≠ .receive ∨ c ≠ .finish) (hst : j.state = .boundary) (hb : j.boundary = some b)
    (hc : badChoice j b c = false) : answerTo k j (some c) s = .ok (takeAnswer k j b c s, []) := by
  rw [answerTo_boundary (h.imp_right fun hne he => hne (Option.some.inj he)) hst hb]
  simp only [hc, Bool.false_eq_true, if_false]

theorem badChoice_iff : badChoice j b c = true ↔
    c ∉ b.code.choices ∨ (c = .repeatPage ∧ j.freeAsRead = true) ∨ (c = .wait ∧ b.reason = some .docPages) := by
  simp [badChoice, or_assoc]

theorem Choice.ofCode_eq_none (h : 6 < n) : Choice.ofCode n = none := by
  obtain ⟨m, rfl⟩ := Nat.exists_eq_add_of_le' h
  rfl

/-- R64: the choice would step a motor under an open cover. -/
theorem takeAnswer_coverOpen (hl : s.levels.coverOpen = true) (hm : choiceMoves s k j b c = true) :
    takeAnswer k j b c s = raiseJob k none s := by simp [takeAnswer, hl, hm]

/-- R66: RETRY at SC-JAM with no sheet at DOC-ENTRY; such a RETRY has no motion. -/
theorem takeAnswer_noSheet (hb : b.code = .scJam) (hc : c = .retry) (hd : s.levels.docEntry = false) : takeAnswer k j b c s = s := by
  have hm : choiceMoves s k j b c = false := by simp [choiceMoves, hb, hc, hd]
  unfold takeAnswer
  rw [hm]
  simp [hb, hc, hd]

theorem takeAnswer_carried (h : s.levels.coverOpen = false ∨ choiceMoves s k j b c = false)
    (hd : ¬(b.code = .scJam ∧ c = .retry ∧ s.levels.docEntry = false)) : takeAnswer k j b c s =
      advance (carryChoice k j b c (onJob k (fun x => { x with state := .running, boundary := none }) s)) := by
  have hopen : (s.levels.coverOpen && choiceMoves s k j b c) = false := Bool.and_eq_false_iff.2 h
  have hsheet : (decide (b.code = .scJam) && decide (c = .retry) && !s.levels.docEntry) = false := by
    simpa [and_assoc] using hd
  rw [takeAnswer, hopen, hsheet]
  simp only [Bool.false_eq_true, if_false]

/-! ## The obligation -/

/-- Settles O25: each command comes to the verdict its checks say, on the state with the frame released. -/
theorem jobCommandsAct : Obligations.JobCommandsAct := by
  unfold Obligations.JobCommandsAct
  refine ⟨fun id k j s hn => ?_, fun id h credit s hn => ?_, fun id h credit k j s hn => ?_⟩
  · have hn' : namedJob (releaseCommand s) id.toNat = some (k, j) := hn
    refine ⟨fun ht hst => command_done ht rfl (holdJob_running hn' hst), fun ht hst => ?_,
      fun ht => ⟨command_done ht rfl (abortJob_named hn'), jobIn_endJob k .aborted s⟩, fun n faults ht hk => ?_, fun h ht hc hk => ?_,
      fun h c b ht hc hf hst hb hbad => ⟨?_, takeAnswer_coverOpen, takeAnswer_noSheet, takeAnswer_carried⟩⟩
    · have done := command_done ht rfl (resumeJob_held hn' hst)
      refine ⟨fun hd => ?_, fun hd hk => ?_, fun hd hk => ?_⟩
      · rw [resumed, hd] at done; exact done
      · rw [resumed, hd, if_pos rfl, if_pos hk] at done; exact done
      · rw [resumed, hd, if_pos rfl, if_neg hk] at done; exact done
    · exact (exec_sendCredit _ _ _).trans (command_done ht rfl (sendCredit_send (s := (releaseCommand s).onFaults (fun _ => faults)) hn' hk))
    · refine command_done ht rfl ((answerJob_named hn').trans ?_)
      rw [hc, answerTo_finishReceive hk]
    · refine command_done ht rfl ((answerJob_named hn').trans ?_)
      rw [hc, answerTo_taken hf hst hb hbad]
  · have hn' : namedJob (releaseCommand s) id.toNat = none := hn
    obtain ⟨hhold, hresume, habort, -⟩ := commands_noSuch (n := 0) hn'
    refine ⟨fun ht => command_refused ht rfl hhold, fun ht => command_refused ht rfl hresume, fun ht => command_refused ht rfl habort,
      fun ht => command_refused ht rfl (answerJob_noSuch hn'), fun ht => (exec_jobStatus _ _).trans (command_refused ht rfl ?_),
      fun ht => (exec_sendCredit _ _ _).trans (command_refused ht rfl ?_)⟩
    · simp only [hn']
    · exact (commands_noSuch (s := (releaseCommand s).onFaults (fun _ => credit.faults)) hn').2.2.2
  · have hn' : namedJob (releaseCommand s) id.toNat = some (k, j) := hn
    refine ⟨fun ht hst => command_refused ht rfl (holdJob_busy hn' hst), fun ht hst => command_refused ht rfl (resumeJob_busy hn' hst),
      fun ht hk => (exec_sendCredit _ _ _).trans (command_refused ht rfl
        (sendCredit_badParam (s := (releaseCommand s).onFaults (fun _ => credit.faults)) hn' hk)),
      fun ht hf => ⟨fun hst => command_refused ht rfl ((answerJob_named hn').trans (answerTo_busy hf hst)), fun b hst hb hbad =>
        command_refused ht rfl ((answerJob_named hn').trans (answerTo_refused hf hst hb fun c hc => badChoice_iff.2 ?_))⟩⟩
    rcases hbad with hbig | ⟨c', hc', hbad⟩
    · rw [Choice.ofCode_eq_none hbig] at hc; cases hc
    · cases hc.symm.trans hc'; exact hbad

end Sys2Proof.Machine
end

section
/-! The steps of the feed motors (O33). -/

namespace Sys2Proof.Machine

-- One theorem at a time, as in the tests: a thread for each would exceed the memory allowed.
set_option Elab.async false

variable {s t : State} {m : Motor} {level : Nat} {e : Entry} {rest : List Entry}

/-! ## The motors, the scan path and the print energy unit as a line is strobed and as PR-PAPER is met -/

/-- What the steps of the motors move. -/
def State.drives (s : State) := (s.mech, s.scan, s.energy)

theorem drives_raiseJob (k : Nat) (f : Option FinalStatus) (s : State) : (raiseJob k f s).drives = s.drives := by
  unfold raiseJob raise; repeat' split
  all_goals rfl

theorem drives_onReaderJob (o : Outlet) (f : Job → Job) (s : State) : (onReaderJob o f s).drives = s.drives := by
  unfold onReaderJob; split <;> rfl

theorem drives_consumeLine (s : State) : (consumeLine .print s).drives = s.drives := by
  unfold consumeLine; split
  exacts [rfl, drives_onReaderJob _ _ _]

theorem drives_lineStrobed (tag : LineTag) (s : State) : (lineStrobed tag s).drives = s.drives := by
  unfold lineStrobed; split
  exacts [drives_consumeLine s, rfl]

/-- R70: paper out, with no automatic answer. -/
def outOfPaper : Boundary := ⟨.prPaper, some .paper, none⟩

theorem automatic_outOfPaper (j : Job) : automatic j outOfPaper.code = none := ite_self none

theorem meet_outOfPaper {k : Nat} {j : Job} (hj : jobIn s k = some j) : meet k outOfPaper s = stopJob k (.code outOfPaper) s := by
  unfold meet
  simp only [hj, automatic_outOfPaper]

theorem drives_meetOutOfPaper (k : Nat) (s : State) : (meet k outOfPaper s).drives = s.drives := by
  cases hj : jobIn s k with
  | none => unfold meet; rw [hj]
  | some j =>
    rw [meet_outOfPaper hj, stopJob]
    split
    · exact drives_raiseJob k none _
    · rfl

/-- R116, R130: the state in which a job meets PR-PAPER. -/
def lineBlanked (s : State) : State := backToConsumed (whitenHistory (feedOnlyQueue .print s))

theorem lineBlanked_drives (s : State) :
    (lineBlanked s).drives = ((feedOnlyQueue .print s).mech, s.scan, (whitenHistory s).energy) := by
  unfold lineBlanked backToConsumed; split <;> rfl

theorem lineBlanked_jobIn (k : Nat) (s : State) : jobIn (lineBlanked s) k = jobIn s k := by
  unfold lineBlanked backToConsumed; split <;> rfl

theorem lineBlanked_holders (s : State) : (lineBlanked s).jobs.holders = s.jobs.holders := by
  unfold lineBlanked backToConsumed; split <;> rfl

theorem printJob_lineBlanked (s : State) : printJob (lineBlanked s) = printJob s := by
  unfold printJob jobHolding holderOf
  simp only [lineBlanked_holders, lineBlanked_jobIn]

theorem paperOut_eq (s : State) : paperOut s = match printJob s with
    | some (k, j) => if canMeet j .prPaper then meet k outOfPaper (lineBlanked s) else lineBlanked s
    | none => lineBlanked s := by
  rw [← printJob_lineBlanked]; rfl

theorem paperOut_drives (s : State) : (paperOut s).drives = ((feedOnlyQueue .print s).mech, s.scan, (whitenHistory s).energy) := by
  rw [paperOut_eq, ← lineBlanked_drives]
  split
  · split
    · exact drives_meetOutOfPaper _ _
    · rfl
  · rfl

/-- R70: a RUNNING job whose print motor moves is HOLDING for PR-PAPER. -/
theorem paperOut_running {k : Nat} {j : Job} (hp : printJob s = some (k, j)) (hst : j.state = .running)
    (hm : s.mech.printFeed.moving = true) :
    (jobIn (paperOut s) k).map Job.state = some .holding ∧ (jobIn (paperOut s) k).bind Job.pendingStop = some (.code outOfPaper) := by
  have hmeet : canMeet j .prPaper = true := by simp [canMeet, hst]
  obtain ⟨_, hh, hj⟩ := Option.bind_eq_some_iff.1 ((printJob_lineBlanked s).trans hp)
  obtain ⟨_, hj, he⟩ := Option.map_eq_some_iff.1 hj
  cases he
  have hmoves : (lineBlanked s).mech.printFeed.moving = true := (congrArg (·.1.printFeed.moving) (lineBlanked_drives s)).trans hm
  have hrests : jobRests (lineBlanked s) k = false := by simp [jobRests, hh, Feed.rests, feedOf, hmoves]
  obtain ⟨hstate, -, hpending⟩ := stopJob_code (b := outOfPaper) hj rfl
  rw [paperOut_eq, hp]
  simp only [hmeet, if_true, meet_outOfPaper hj]
  exact ⟨by rw [hstate, hrests]; rfl, hpending hrests⟩

/-! ## What a step tells the motor's clients (R127) -/

theorem placeEdge_eq (s : State) : ∃ p sheet, placeEdge s = s.onScan (fun x => { x with phase := p, sheet := sheet }) := by
  unfold placeEdge
  dsimp only
  repeat' split
  all_goals exact ⟨_, _, rfl⟩

theorem scanCounts_eq (s : State) : ∃ p sheet, scanCounts s = s.onScan (fun x => { x with phase := p, sheet := sheet }) := by
  obtain ⟨p, sheet, h⟩ := placeEdge_eq (s.onScan (fun x => { x with sheet := { x.sheet with
    sinceEdge := x.sheet.sinceEdge.map (fun n => n + 1)
    longCount := (match x.sheet.longCount with
      | some n => some (n + 1)
      | none => if x.eject.isSome then some 1 else none) } }))
  exact ⟨p, sheet, h⟩

theorem stepCounted_print_eq (e : Entry) (s : State) : ∃ n r, stepCounted .print e s =
    (s.onMech (fun x => { x with advanced := n })).onEnergy (fun x => { x with rest := r }) := by
  have hadvance : ∃ n, advanceStep e s = s.onMech (fun x => { x with advanced := n }) := by
    unfold advanceStep; split
    exacts [⟨_, rfl⟩, ⟨s.mech.advanced, rfl⟩]
  obtain ⟨n, h⟩ := hadvance
  unfold stepCounted headRests
  rw [h]
  dsimp only
  split
  exacts [⟨n, _, rfl⟩, ⟨n, s.energy.rest, rfl⟩]

theorem feedOf_stepCounted (m i : Motor) (e : Entry) (s : State) : feedOf (stepCounted m e s) i = feedOf s i := by
  cases m with
  | scan => obtain ⟨_, _, h⟩ := scanCounts_eq s; rw [stepCounted, h]; rfl
  | print => obtain ⟨_, _, h⟩ := stepCounted_print_eq e s; rw [h]; cases i <;> rfl

/-- The first step of an entry may make the entries of the print queue FEED-ONLY, and leaves the motors otherwise. -/
theorem firstStep_mech (e : Entry) (s : State) :
    (firstStep e s).mech = s.mech ∨ (firstStep e s).mech = (feedOnlyQueue .print s).mech := by
  unfold firstStep
  split
  · unfold lineStep; split <;> exact .inl rfl
  · unfold printStep fireLine
    repeat' split
    · exact .inl rfl
    · exact .inl (congrArg (·.1) (drives_lineStrobed _ s))
    · exact .inl rfl
    · exact .inr (congrArg (·.1) (paperOut_drives s))
  · exact .inl rfl

theorem firstStep_feed (e : Entry) (s : State) (m : Motor) : ∃ q, feedOf (firstStep e s) m = { feedOf s m with queue := q } := by
  rcases firstStep_mech e s with h | h
  all_goals
    unfold feedOf
    rw [h]
    cases m <;> exact ⟨_, rfl⟩

/-- The first step of an entry leaves the sheet as it stands. -/
theorem firstStep_sheet (e : Entry) (s : State) :
    (firstStep e s).scan.phase = s.scan.phase ∧ (firstStep e s).scan.sheet = s.scan.sheet := by
  unfold firstStep
  split
  · unfold lineStep; split <;> exact ⟨rfl, rfl⟩
  · unfold printStep fireLine
    repeat' split
    · exact ⟨rfl, rfl⟩
    · next tag _ _ _ _ _ _ _ =>
      have h : (lineStrobed tag s).scan = s.scan := congrArg (·.2.1) (drives_lineStrobed tag s)
      exact ⟨congrArg ScanPath.phase h, congrArg ScanPath.sheet h⟩
    · exact ⟨rfl, rfl⟩
    · have h : (paperOut s).scan = s.scan := congrArg (·.2.1) (paperOut_drives s)
      exact ⟨congrArg ScanPath.phase h, congrArg ScanPath.sheet h⟩
  · exact ⟨rfl, rfl⟩

/-! ## The step -/

/-- R124: the feed after a step, but for its queue. -/
theorem takeStep_feed (h : (feedOf s m).queue = e :: rest) :
    ∃ q, feedOf (takeStep m level s) m = { Feed.stepped level s.now (feedOf s m) with queue := q } := by
  have hfeed : feedOf (stepCounted m e (onFeed m (Feed.stepped level s.now) s)) m = Feed.stepped level s.now (feedOf s m) := by
    rw [feedOf_stepCounted, feedOf_onFeed, if_pos rfl]
  rw [takeStep_cons h]
  split
  · rw [← hfeed]; exact firstStep_feed e _ m
  · exact ⟨_, hfeed⟩

/-- R82: the sheet after a step of the scan feed. -/
theorem takeStep_sheet (h : s.mech.scanFeed.queue ≠ []) :
    (takeStep .scan level s).scan.phase = (scanCounts (onFeed .scan (Feed.stepped level s.now) s)).scan.phase ∧
    (takeStep .scan level s).scan.sheet = (scanCounts (onFeed .scan (Feed.stepped level s.now) s)).scan.sheet := by
  obtain ⟨e, rest, hq⟩ := List.exists_cons_of_ne_nil h
  rw [takeStep_cons (m := .scan) hq]
  split
  · exact firstStep_sheet e _
  · exact ⟨rfl, rfl⟩

/-- R85: an edge that waits in a pick is the leading edge, at this step. -/
theorem scanCounts_pick (hp : s.scan.phase = .pick) (he : s.scan.sheet.edgePending = true) :
    (scanCounts s).scan.phase = .lines ∧ (scanCounts s).scan.sheet.edgePending = false ∧ (scanCounts s).scan.sheet.sinceEdge = some 0 := by
  simp only [scanCounts, placeEdge, State.onScan_scan, hp, he, decide_true, Bool.and_true, if_true]
  split <;> exact ⟨rfl, rfl, rfl⟩

/-- R82: an edge that waits in the lines is placed at this step. -/
theorem scanCounts_edge (hp : s.scan.phase = .lines) (he : s.scan.sheet.edgePending = true) :
    (scanCounts s).scan.sheet.edgePending = false ∧ (scanCounts s).scan.sheet.sinceEdge = some 0 := by
  simp only [scanCounts, placeEdge, State.onScan_scan, hp, he, reduceCtorEq, decide_false, decide_true, Bool.and_false, Bool.and_true,
    Bool.false_eq_true, if_false, if_true]
  split <;> exact ⟨rfl, rfl⟩

/-- R86: with the leading edge placed, the step is counted, and a trailing edge that waits is placed at it. -/
theorem scanCounts_counted {n : Nat} (he : s.scan.sheet.edgePending = false) (hn : s.scan.sheet.sinceEdge = some n)
    (ht : s.scan.sheet.trailing = none) : (scanCounts s).scan.sheet.sinceEdge = some (n + 1) ∧
      (scanCounts s).scan.sheet.trailing = if s.scan.sheet.trailingPending then some (n + 1) else none := by
  simp only [scanCounts, placeEdge, State.onScan_scan, he, hn, ht, Bool.false_and, Bool.false_eq_true, if_false, Option.map_some,
    Option.isSome_some, Option.isNone_none, Bool.and_true]
  cases s.scan.sheet.trailingPending <;> simp [trailingEdge, hn, ht]

/-! ## The first step of a LINE entry (R88, R114, R116, R130) -/

theorem lineStep_captures {n : Nat} {due : Bool} (hd : due = true) (hl : isPageLine s n = true) :
    lineStep n due s = s.onScan (fun x => { x with capture := some ⟨n, s.now⟩ }) := by
  rw [lineStep, if_pos (by simp [hd, hl])]

theorem lineStep_passes {n : Nat} {due : Bool} (h : due = false ∨ isPageLine s n = false) :
    lineStep n due s = onSlots (replaceFirst (LineSlot.isReserved n) .free) s := by
  rw [lineStep, if_neg]
  simpa using Bool.and_eq_false_iff.2 h

theorem fireLine_fires {tag : LineTag} {image fresh : Line} {plan : List Phase} (h : plan ≠ []) : fireLine tag image fresh plan s =
    s.onEnergy (fun e => { e with firing := some ⟨tag, image, fresh, plan, .s1, s.now⟩ }) := if_neg h

theorem lineStrobed_last {tag : LineTag} {x : ReadLine} {more : List ReadLine} (hf : s.store.printOut.inFlight = x :: more)
    (hl : tag.last = true) (hx : x.line = tag.line) :
    (lineStrobed tag s).store.printOut.consumedLine = s.store.printOut.consumedLine + 1 ∧
    (lineStrobed tag s).store.printOut.inFlight = more := by
  have hconsume : lineStrobed tag s = consumeLine .print s := if_pos ⟨hl, by rw [hf]; exact congrArg some hx⟩
  rw [hconsume, consumeLine, show (readerOf s .print).inFlight = x :: more from hf]
  simp only [onReaderJob_store]
  exact ⟨rfl, rfl⟩

theorem lineStrobed_notLast {tag : LineTag} (hl : tag.last = false) : lineStrobed tag s = s := if_neg (by simp [hl])

theorem feedOnlyQueue_due {x : Entry} (h : x ∈ (feedOnlyQueue .print s).mech.printFeed.queue) (hl : x.isLine = true) : x.due = false := by
  obtain ⟨y, -, rfl⟩ := List.mem_map.1 h
  unfold Entry.feedOnly at hl ⊢
  split at hl
  · rw [if_pos ‹_›]
  · next hy => exact absurd hl hy

/-- R88: the step of the scan feed whose head is the entry of line n. -/
theorem takeStep_scanLine {n : Nat} (hq : s.mech.scanFeed.queue = e :: rest) (hk : e.kind = .scanLine n) :
    let v := scanCounts (onFeed .scan (Feed.stepped level s.now) s)
    (e.left ≠ e.steps → takeStep .scan level s = v) ∧
    (e.left = e.steps → e.due = true → isPageLine v n = true →
      (takeStep .scan level s).scan.capture = some ⟨n, s.now⟩ ∧ (takeStep .scan level s).scan.slots = s.scan.slots) ∧
    (e.left = e.steps → e.due = false ∨ isPageLine v n = false → (takeStep .scan level s).scan.capture = s.scan.capture ∧
      (takeStep .scan level s).scan.slots = replaceFirst (LineSlot.isReserved n) .free s.scan.slots) := by
  intro v
  obtain ⟨p, sheet, hv⟩ := scanCounts_eq (onFeed .scan (Feed.stepped level s.now) s)
  have hstep : takeStep .scan level s = if e.left = e.steps then lineStep n e.due v else v := by
    rw [takeStep_cons (m := .scan) hq, firstStep, hk]; rfl
  rw [hstep]
  refine ⟨fun h => if_neg h, fun h hd hl => ?_, fun h hl => ?_⟩
  · rw [if_pos h, lineStep_captures hd hl]
    simp only [v, hv]
    exact ⟨rfl, rfl⟩
  · rw [if_pos h, lineStep_passes hl]
    simp only [v, hv]
    exact ⟨rfl, rfl⟩

/-- R114, R116, R130: the step of the print feed whose head is a physical line's entry, by what its first step does. -/
theorem takeStep_printLine {tag : LineTag} {image fresh : Line} {plan : List Phase} (hq : s.mech.printFeed.queue = e :: rest)
    (hk : e.kind = .printLine tag image fresh plan) : ∃ v : State,
      takeStep .print level s = (if e.left = e.steps then printStep tag image fresh plan e.due v else v) ∧
      v.energy.firing = s.energy.firing ∧ v.energy.history = s.energy.history ∧ v.store = s.store ∧ v.levels = s.levels ∧
      v.now = s.now ∧ v.jobs = s.jobs ∧ v.mech.printFeed.moving = s.mech.printFeed.moving := by
  obtain ⟨n, r, hv⟩ := stepCounted_print_eq e (onFeed .print (Feed.stepped level s.now) s)
  refine ⟨stepCounted .print e (onFeed .print (Feed.stepped level s.now) s), ?_, ?_⟩
  · rw [takeStep_cons (m := .print) hq, firstStep, hk]
  · rw [hv]; exact ⟨rfl, rfl, rfl, rfl, rfl, rfl, rfl⟩

theorem printStep_passes {tag : LineTag} {image fresh : Line} {plan : List Phase} :
    printStep tag image fresh plan false s = whitenHistory s := rfl

theorem printStep_paper {tag : LineTag} {image fresh : Line} {plan : List Phase} (h : s.levels.paper = true) :
    printStep tag image fresh plan true s = fireLine tag image fresh plan s := by simp [printStep, h]

theorem printStep_paperOut {tag : LineTag} {image fresh : Line} {plan : List Phase} (h : s.levels.paper = false) :
    printStep tag image fresh plan true s = paperOut s := by simp [printStep, h]

theorem paperOut_energy (s : State) : (paperOut s).energy = (whitenHistory s).energy := congrArg (·.2.2) (paperOut_drives s)

theorem paperOut_mech (s : State) : (paperOut s).mech = (feedOnlyQueue .print s).mech := congrArg (·.1) (paperOut_drives s)

theorem lineStrobed_energy (tag : LineTag) (s : State) : (lineStrobed tag s).energy = s.energy := congrArg (·.2.2) (drives_lineStrobed tag s)

theorem printJob_congr (h : t.jobs = s.jobs) : printJob t = printJob s := by
  unfold printJob jobHolding holderOf jobIn; rw [h]

/-! ## The obligation -/

/-- Settles O33: a step counts on its feed and its sheet, whatever its entry's first step does (`takeStep_feed`, `takeStep_sheet`); the
first step of a LINE entry acts by its kind. -/
theorem motionsRun : Obligations.MotionsRun := by
  unfold Obligations.MotionsRun
  intro m s
  refine ⟨fun hd hl hc => ?_, fun hd hl hc => ?_, fun hc hn => ?_, fun hm hc hq hf hn => ?_, fun hm hc hq hl hn => ?_,
    fun level e rest hq => ?_, fun level hq => ⟨fun hp he => ?_, fun hp he => ?_, fun n _ he hn ht => ?_⟩,
    fun level e rest n hq hk => takeStep_scanLine hq hk, fun level e rest tag image fresh plan hq hk => ?_⟩
  · rw [exec_motionBegin, jobEvent_due (by simp [motionBeginDue, hd, hl]), beginMotion, if_neg (by simp [hc])]
  · rw [exec_motionBegin, jobEvent_due (by simp [motionBeginDue, hd, hl]), beginMotion, if_pos hc]
  · rw [exec_energizingEnd, jobEvent_due (by simp [energizingDue, hc, passed, energizingTime, ms, hn])]
    rfl
  · have hfirst : ((feedOf s m).atFirstStep && lineUnderWay s m) = false := Bool.and_eq_false_iff.2 hf
    rw [exec_feedStep, jobEvent_due (by simp [stepDue, hm, hc, hq, hfirst, passed, hn])]
  · rw [exec_motorRest, jobEvent_due (by simp [restDue, hm, hc, hq, hl, passed, restInterval, interval, hn])]
    rfl
  · obtain ⟨q, hfeed⟩ := takeStep_feed (level := level) hq
    rw [hfeed]
    exact ⟨rfl, rfl, rfl, by simp [Feed.stepped, hq], rfl, rfl⟩
  · obtain ⟨hphase, hsheet⟩ := takeStep_sheet (level := level) hq
    rw [hphase, hsheet]
    exact scanCounts_pick (s := onFeed .scan (Feed.stepped level s.now) s) hp he
  · rw [(takeStep_sheet hq).2]
    exact scanCounts_edge (s := onFeed .scan (Feed.stepped level s.now) s) hp he
  · rw [(takeStep_sheet hq).2]
    exact scanCounts_counted (s := onFeed .scan (Feed.stepped level s.now) s) he hn ht
  · obtain ⟨v, hstep, hfiring, hhistory, hstore, hlevels, hnow, hjobs, hmoving⟩ := takeStep_printLine (level := level) hq hk
    rw [hstep]
    refine ⟨fun hl => ?_, fun hl hd => ?_, fun hl hd hp => ?_, fun hl hd hp => ?_⟩
    · rw [if_neg hl]; exact ⟨hfiring, hhistory, hstore⟩
    · rw [if_pos hl, hd]; exact ⟨hfiring, rfl, hstore⟩
    · rw [if_pos hl, hd, printStep_paper (hlevels ▸ hp)]
      refine ⟨fun hplan => ?_, fun x more hplan hf ht hx => ?_, fun hplan ht => ?_⟩
      · rw [fireLine_fires hplan, ← hnow]; exact ⟨rfl, hstore⟩
      · rw [fireLine, if_pos hplan, lineStrobed_energy, ← hstore]
        exact ⟨hfiring, lineStrobed_last (hstore ▸ hf) ht hx⟩
      · rw [fireLine, if_pos hplan, lineStrobed_notLast ht]; exact ⟨hfiring, hstore⟩
    · rw [if_pos hl, hd, printStep_paperOut (hlevels ▸ hp), paperOut_energy, paperOut_mech]
      exact ⟨hfiring, rfl, fun x hx hline => feedOnlyQueue_due hx hline, fun k j hj hst hm =>
        paperOut_running ((printJob_congr hjobs).trans hj) hst (hmoving.trans hm)⟩

end Sys2Proof.Machine
end

section
/-! The lamp and the calibration (O28), and the commands that move a mechanism (O32). -/

namespace Sys2Proof.Machine

-- One theorem at a time, as in the tests: a thread for each would exceed the memory allowed.
set_option Elab.async false

variable {s : State}

/-! ## ACTIVE entered with an engine taken (R53, R146, R147) -/

theorem enterActive_active (h : s.power.mode = .active) : enterActive s = s := if_neg (by simp [h])

theorem enterActive_standby (h : s.power.mode = .standby) (hoff : s.power.headSince = none) : enterActive s = { s with
    power := { s.power with mode := .active, idleFrom := none, headSince := if s.levels.coverOpen then none else some s.now }
    energy := { s.energy with lastTimed := some s.now } } := by
  rw [enterActive, if_pos h]
  cases hc : s.levels.coverOpen <;> simp [headOn, Power.headPower, State.onPower, State.onEnergy, hc, hoff]

/-- The state with a mechanism engine given to an internal operation, in ACTIVE. -/
def mechanismTaken (e : Engine) (op : InternalOp) (s : State) : State :=
  { setHolder e (.internal [op]) s with
    power := if s.power.mode = .active then { s.power with idleFrom := none } else
      { s.power with mode := .active, idleFrom := none, headSince := if s.levels.coverOpen then none else some s.now }
    energy := if s.power.mode = .active then s.energy else { s.energy with lastTimed := some s.now } }

theorem enterActive_takeEngine {e : Engine} {op : InternalOp} (he : e = .scanner ∨ e = .printer)
    (h : s.power.mode = .active ∨ (s.power.mode = .standby ∧ s.power.headSince = none)) :
    enterActive (takeEngine e (.internal [op]) s) = mechanismTaken e op s := by
  have hpower : (takeEngine e (.internal [op]) s).power = { s.power with idleFrom := none } := by
    rw [takeEngine_eq, if_pos he]
  rcases h with h | ⟨h, hoff⟩
  · rw [enterActive_active ((congrArg Power.mode hpower).trans h), takeEngine_eq, if_pos he, mechanismTaken, if_pos h, if_pos h]; rfl
  · rw [enterActive_standby ((congrArg Power.mode hpower).trans h) ((congrArg Power.headSince hpower).trans hoff), takeEngine_eq,
      if_pos he, mechanismTaken, h]
    rfl

/-! ## The lamp (R83) -/

theorem lampWarmDue_of_lit {t : Nat} (hl : s.scan.lamp = ⟨some t, false⟩) (ht : t + 100000 ≤ s.now) : lampWarmDue s = true := by
  simp [lampWarmDue, hl, passed, lampTime, ms, ht]

/-- R97: the stage of a calibration once the lamp is warm. -/
def Calibration.lampWarmed (now : Nat) (c : Calibration) : Calibration :=
  if c.stage = .warming then { c with stage := .white, since := now } else c

theorem lampWarmed_eq {t : Nat} (hl : s.scan.lamp = ⟨some t, false⟩) : lampWarmed s = { s with scan := { s.scan with
    lamp := ⟨some t, true⟩, calibration := s.scan.calibration.map (Calibration.lampWarmed s.now) } } := by
  simp only [lampWarmed, State.onScan, hl]; rfl

theorem calibration_lampWarmed_of_ne (h : ∀ c, s.scan.calibration = some c → c.stage ≠ .warming) :
    s.scan.calibration.map (Calibration.lampWarmed s.now) = s.scan.calibration := by
  cases hc : s.scan.calibration with
  | none => rfl
  | some c => exact congrArg some (if_neg (h c hc))

/-! ## The lines of a calibration (R97) -/

theorem calibrationDue_of_passed {c : Calibration} (hc : s.scan.calibration = some c) (hst : c.stage ≠ .warming)
    (ht : c.since + 1808 ≤ s.now) : calibrationDue s = true := by
  simp [calibrationDue, hc, hst, passed, scanTime, PageWidth.dots, ht]

theorem endCalibrationLine_more {raw : List Byte} {c : Calibration} (hc : s.scan.calibration = some c) (hn : c.lines < 7) :
    endCalibrationLine raw s = s.onScan (fun x => { x with calibration := some (c.withLine raw s.now) }) := by
  have hmore : (c.withLine raw s.now).lines < 8 := Nat.succ_lt_succ hn
  simp only [endCalibrationLine, hc, hmore, if_true]

theorem endCalibrationLine_last {raw : List Byte} {c : Calibration} (hc : s.scan.calibration = some c) (hn : c.lines = 7) :
    endCalibrationLine raw s = if c.stage = .dark then
      lampOn (s.onScan (fun x => { x with calibration := some ⟨.warming, 0, List.replicate 1728 0, (c.withLine raw s.now).sums, s.now, c.startUp⟩ }))
    else installCalibration (averages c.darkSums) (averages (c.withLine raw s.now).sums) s := by
  have hlast : ¬(c.withLine raw s.now).lines < 8 := by simp [Calibration.withLine, hn]
  simp only [endCalibrationLine, hc, hlast, if_false]; rfl

/-- R83, R97: after the last dark line the lamp is switched on. -/
theorem endCalibrationLine_dark {raw : List Byte} {c : Calibration} (hc : s.scan.calibration = some c) (hn : c.lines = 7)
    (hst : c.stage = .dark) (hl : s.scan.lamp = ⟨none, false⟩) : endCalibrationLine raw s = s.onScan (fun x => { x with
      lamp := ⟨some s.now, false⟩
      calibration := some ⟨.warming, 0, List.replicate 1728 0, (c.withLine raw s.now).sums, s.now, c.startUp⟩ }) := by
  rw [endCalibrationLine_last hc hn, if_pos hst]
  simp only [lampOn, State.onScan, hl]; rfl

/-! ## SCAN-CALIBRATE (R96) -/

theorem scanCalibrate_ok (hf : s.jobs.holders.scanner = .free) (hd : s.levels.docRead = false)
    (hm : s.power.mode = .active ∨ (s.power.mode = .standby ∧ s.power.headSince = none)) :
    scanCalibrate s = .ok (beginCalibration false (mechanismTaken .scanner .calibrate s), []) := by
  rw [scanCalibrate, if_neg (by simp [holderOf, Engines.at, hf, hd]), startCalibration, enterActive_takeEngine (.inl rfl) hm]

theorem scanCalibrate_busy (h : s.jobs.holders.scanner ≠ .free ∨ s.levels.docRead = true) : scanCalibrate s = .error .busy := if_pos h

/-- Settles O28: a command that begins a calibration takes the SCANNER and ACTIVE together (`mechanismTaken`), and a line captured is one
more of its stage or the stage's last. -/
theorem lampAndCalibration : Obligations.LampAndCalibration := by
  unfold Obligations.LampAndCalibration
  intro s
  refine ⟨fun t hl ht => ⟨fun hc => ?_, fun c hc hst => ?_⟩, fun ht hf hd => ?_,
    fun ht hbusy => (exec_scanCalibrate s).trans (command_refuses ht rfl (scanCalibrate_busy hbusy)),
    fun raw c hc hst ht => ?_⟩
  · rw [exec_lampWarm, jobEvent_due (lampWarmDue_of_lit hl ht), lampWarmed_eq hl, calibration_lampWarmed_of_ne hc]
  · rw [exec_lampWarm, jobEvent_due (lampWarmDue_of_lit hl ht), lampWarmed_eq hl, hc, Option.map_some, Calibration.lampWarmed, if_pos hst]
  · have begins (hm : s.power.mode = .active ∨ (s.power.mode = .standby ∧ s.power.headSince = none)) :=
      (exec_scanCalibrate s).trans (command_replied ht rfl (scanCalibrate_ok (s := releaseCommand s) hf hd hm))
    refine ⟨fun hm => (begins (.inl hm)).trans ?_, fun hm hoff => (begins (.inr ⟨hm, hoff⟩)).trans ?_⟩
    · rw [mechanismTaken, show (releaseCommand s).power.mode = .active from hm]; rfl
    · rw [mechanismTaken, show (releaseCommand s).power.mode = .standby from hm]; rfl
  · rw [exec_calibrationCaptureEnd, jobEvent_due (calibrationDue_of_passed hc hst ht)]
    refine ⟨fun hn => ?_, fun hn hdark hlamp => ?_, fun hn hwhite => ?_⟩
    · rw [endCalibrationLine_more hc hn]; rfl
    · rw [endCalibrationLine_dark hc hn hdark hlamp]; rfl
    · rw [endCalibrationLine_last hc hn, if_neg (by simp [hwhite])]; rfl

/-! ## DOC-EJECT, PAPER-ADVANCE, CUT (R99, R141, R142) -/

theorem docEject_ok (hf : s.jobs.holders.scanner = .free) (hc : s.levels.coverOpen = false)
    (hm : s.power.mode = .active ∨ (s.power.mode = .standby ∧ s.power.headSince = none)) :
    docEject s = .ok (advance ((mechanismTaken .scanner .eject s).onScan
      (fun x => { x with eject := some ⟨false, false⟩, sheet := Sheet.none })), []) := by
  rw [docEject, if_neg (by simp [holderOf, Engines.at, hf, hc]), startEject, enterActive_takeEngine (.inl rfl) hm]

theorem docEject_busy (h : s.jobs.holders.scanner ≠ .free ∨ s.levels.coverOpen = true) : docEject s = .error .busy := if_pos h

theorem paperAdvance_ok {n : Nat} (hn : n ≠ 0) (hf : s.jobs.holders.printer = .free) (hc : s.levels.coverOpen = false)
    (hm : s.power.mode = .active ∨ (s.power.mode = .standby ∧ s.power.headSince = none)) :
    paperAdvance n s = .ok (enqueue .print (runEntry .advance (min 15400 n))
      ((mechanismTaken .printer .advance s).onMech (fun x => { x with advanced := 0 })), be2 (min 15400 n)) := by
  rw [paperAdvance, if_neg hn, if_neg (by simp [holderOf, Engines.at, hf, hc]), startAdvance, enterActive_takeEngine (.inr rfl) hm]

theorem paperAdvance_busy {n : Nat} (hn : n ≠ 0) (h : s.jobs.holders.printer ≠ .free ∨ s.levels.coverOpen = true) :
    paperAdvance n s = .error .busy := (if_neg hn).trans (if_pos h)

theorem cutPaper_ok (hf : s.jobs.holders.printer = .free) (hc : s.levels.coverOpen = false)
    (hm : s.power.mode = .active ∨ (s.power.mode = .standby ∧ s.power.headSince = none)) :
    cutPaper s = .ok (beginCycle (mechanismTaken .printer .cut s), []) := by
  rw [cutPaper, if_neg (by simp [holderOf, Engines.at, hf, hc]), startCut, enterActive_takeEngine (.inr rfl) hm]

theorem cutPaper_busy (h : s.jobs.holders.printer ≠ .free ∨ s.levels.coverOpen = true) : cutPaper s = .error .busy := if_pos h

/-- R138: a cut cycle leaves home unless the blade is away from it or on its way back. -/
theorem beginCycle_eq (s : State) : beginCycle s = s.onMech (fun x => { x with cutter :=
    ⟨match s.mech.cutter.state with | .idle => .leaving | .leaving => .leaving | .away => .returning | .returning => .returning, s.now⟩ }) := by
  unfold beginCycle
  cases h : s.mech.cutter.state <;> simp [State.onMech, h]

/-- Settles O32: each command is refused by its checks in their order, or takes its engine and ACTIVE together (`mechanismTaken`). -/
theorem mechanismCommandsAct : Obligations.MechanismCommandsAct := by
  unfold Obligations.MechanismCommandsAct
  have nonzero (n : BitVec 16) (hn : n ≠ 0) : n.toNat ≠ 0 := fun h => hn (BitVec.eq_of_toNat_eq h)
  refine ⟨fun s hc hm => ?_, fun n s => ⟨fun ht hbusy => (exec_docEject s).trans (command_refuses ht rfl (docEject_busy hbusy)),
    fun ht => ⟨fun hn => ?_, fun hn hbusy => (exec_paperAdvance n s).trans (command_refuses ht rfl (paperAdvance_busy (nonzero n hn) hbusy))⟩,
    fun ht hbusy => (exec_cut s).trans (command_refuses ht rfl (cutPaper_busy hbusy))⟩⟩
  · have hc' : (releaseCommand s).levels.coverOpen = false := hc
    refine ⟨fun ht hf => ?_, fun n ht hf hn => ?_, fun ht hf => ?_⟩
    · refine (exec_docEject s).trans ((command_replied ht rfl (docEject_ok (s := releaseCommand s) hf hc hm)).trans ?_)
      rw [mechanismTaken, hc']; rfl
    · refine (exec_paperAdvance n s).trans ((command_replied ht rfl (paperAdvance_ok (s := releaseCommand s) (nonzero n hn) hf hc hm)).trans ?_)
      rw [mechanismTaken, hc']; rfl
    · refine (exec_cut s).trans ((command_replied ht rfl (cutPaper_ok (s := releaseCommand s) hf hc hm)).trans ?_)
      rw [beginCycle_eq, mechanismTaken, hc']; rfl
  · subst hn
    exact (exec_paperAdvance 0 s).trans (command_refuses ht rfl rfl)

end Sys2Proof.Machine
end

section
/-! The changes of the levels, and the cutter's timeout (O35). -/

namespace Sys2Proof.Machine

-- One theorem at a time, as in the tests: a thread for each would exceed the memory allowed.
set_option Elab.async false

variable {s : State} {b : Bool}

/-! ## What a halt leaves of the levels, the mode, the cutter and the record of JAM -/

/-- The levels, the power mode, the cutter and the pending record of JAM. -/
def State.cutterView (s : State) := (s.levels, s.power.mode, s.mech.cutter, s.events.pending[2]?)

section
variable (s : State)

@[simp] theorem cutterView_onStore (f : Store → Store) : (s.onStore f).cutterView = s.cutterView := rfl
@[simp] theorem cutterView_onJobs (f : WorkOrders → WorkOrders) : (s.onJobs f).cutterView = s.cutterView := rfl
@[simp] theorem cutterView_onScan (f : ScanPath → ScanPath) : (s.onScan f).cutterView = s.cutterView := rfl
@[simp] theorem cutterView_onStart (f : StartUp → StartUp) : (s.onStart f).cutterView = s.cutterView := rfl
@[simp] theorem cutterView_onJob (k : Nat) (f : Job → Job) : (onJob k f s).cutterView = s.cutterView := rfl
@[simp] theorem cutterView_onPage (slot : Nat) (f : Page → Page) : (onPage slot f s).cutterView = s.cutterView := rfl
@[simp] theorem cutterView_onDoc (n : Nat) (f : Document → Document) : (onDoc n f s).cutterView = s.cutterView := by
  unfold onDoc; split <;> rfl

theorem cutterView_raise {n : Nat} (d : Detail) (hn : n ≠ 2) : (raise n d s).cutterView = s.cutterView := by
  unfold raise
  split
  · simp only [State.cutterView, State.onEvents, Events.raised, getElem?_modifyAt, if_neg hn.symm]
  · rfl

@[simp] theorem cutterView_raiseDone (op : DoneOp) (o : DoneOutcome) (n : Nat) : (raiseDone op o n s).cutterView = s.cutterView :=
  cutterView_raise s _ (by decide)
@[simp] theorem cutterView_raiseFull (r : FullReason) : (raiseFull r s).cutterView = s.cutterView := by
  unfold raiseFull; split
  exacts [rfl, cutterView_raise s _ (by decide)]
@[simp] theorem cutterView_raiseJob (k : Nat) (f : Option FinalStatus) : (raiseJob k f s).cutterView = s.cutterView := by
  unfold raiseJob; split
  exacts [cutterView_raise s _ (by omega), rfl]
@[simp] theorem cutterView_endOp (e : Engine) (op : InternalOp) : (endOp e op s).cutterView = s.cutterView := by
  unfold endOp; split <;> rfl

/-! ### A job's page discarded, a code met (R11, R57, R63) -/

@[simp] theorem cutterView_freeBlock (b : Nat) : (freeBlock b s).cutterView = s.cutterView := by rw [freeBlock_eq]; rfl
@[simp] theorem cutterView_freeBlocksOf (bs : List Nat) : (freeBlocksOf bs s).cutterView = s.cutterView :=
  List.foldlRecOn bs _ (motive := fun t : State => t.cutterView = s.cutterView) rfl fun t h b _ => (cutterView_freeBlock t b).trans h
@[simp] theorem cutterView_discardPage (slot : Nat) : (discardPage slot s).cutterView = s.cutterView := by
  simp [discardPage, erasePage, forgetPage]
@[simp] theorem cutterView_discardScanPage : (discardScanPage s).cutterView = s.cutterView := by
  unfold discardScanPage; split
  · rfl
  · dsimp only; split
    · exact cutterView_discardPage _ _
    · rfl
@[simp] theorem cutterView_codeEffect (b : Boundary) : (codeEffect b s).cutterView = s.cutterView := by
  unfold codeEffect; repeat' split
  all_goals simp [dropWaiter]
@[simp] theorem cutterView_enterBoundary (k : Nat) (b : Boundary) : (enterBoundary k b s).cutterView = s.cutterView := by
  simp [enterBoundary]
@[simp] theorem cutterView_stopJob (k : Nat) (stop : Stop) : (stopJob k stop s).cutterView = s.cutterView := by
  unfold stopJob
  split
  · cases stop <;> simp [enterStopped]
  · rfl

/-- R140: PR-CUT has no automatic answer. -/
theorem cutterView_meetCut (k : Nat) {b : Boundary} (hb : b.code = .prCut) : (meet k b s).cutterView = s.cutterView := by
  have hauto (j : Job) : automatic j b.code = none := by rw [hb]; exact ite_self none
  unfold meet
  split
  · rfl
  · rw [hauto]; exact cutterView_stopJob s k _

/-! ### The emergency stop (R135, R136) -/

@[simp] theorem cutterView_haltPrint : (haltPrint s).cutterView = s.cutterView := by
  unfold haltPrint backToConsumed; dsimp only; repeat' split
  all_goals rfl
@[simp] theorem cutterView_headOff : (headOff s).cutterView = s.cutterView := by
  unfold headOff cutStrobe; split <;> rfl
@[simp] theorem cutterView_headOn : (headOn s).cutterView = s.cutterView := by unfold headOn; split <;> rfl
@[simp] theorem cutterView_emergencyOps (o : DoneOutcome) : (emergencyOps o s).cutterView = s.cutterView := by
  simp [emergencyOps, apply_ite State.cutterView]
@[simp] theorem cutterView_emergencyJob (cause : Reason) (lost : Bool) (k : Nat) :
    (emergencyJob cause lost k s).cutterView = s.cutterView := by
  unfold emergencyJob; repeat' split
  all_goals simp [apply_ite State.cutterView]

/-- R135: of what the view shows, an emergency stop switches the cutter's drive off. -/
theorem emergencyStop_cutterView (cause : Reason) : ∃ t, t.cutterView = s.cutterView ∧ (emergencyStop cause s).cutterView = (driveOff t).cutterView := by
  refine ⟨(haltScan (haltPrint s)).onMech (fun x => { x with
    scanFeed := x.scanFeed.halted (haltScan (haltPrint s)).now, printFeed := x.printFeed.halted (haltScan (haltPrint s)).now }), ?_, ?_⟩
  · exact cutterView_haltPrint s
  · have hjobs (l : List Nat) (lost : Bool) (t : State) : (l.foldl (fun s k => emergencyJob cause lost k s) t).cutterView = t.cutterView :=
      List.foldlRecOn l _ (motive := fun u : State => u.cutterView = t.cutterView) rfl fun u h k _ => (cutterView_emergencyJob u cause lost k).trans h
    simp [emergencyStop, apply_ite State.cutterView, hjobs]

/-- R138, R139: the end of a cycle, in success or in a jam that makes no emergency stop. -/
@[simp] theorem cutterView_cycleSucceeds : (cycleSucceeds s).cutterView = s.cutterView := by
  unfold cycleSucceeds
  dsimp only
  repeat' split
  all_goals simp [cutSucceeded, setPrint]

theorem cutterView_quietJam : (quietJam s).cutterView = (driveOff s).cutterView := by
  unfold quietJam
  dsimp only
  repeat' split
  all_goals simp [setPrint, cutterView_meetCut]
end

/-! ## The cutter (R138, R139) -/

theorem driveOff_drives (s : State) : (driveOff s).mech.cutter.drives = false := by
  unfold driveOff
  split
  · simp only [State.onMech_mech]; split <;> rfl
  · exact Bool.eq_false_iff.2 ‹_›

theorem driveOff_events (s : State) : (driveOff s).events = s.events := by unfold driveOff; split <;> rfl

theorem driveOff_mode (s : State) : (driveOff s).power.mode = s.power.mode := by unfold driveOff; split <;> rfl

theorem emergencyStop_mode (cause : Reason) (s : State) : (emergencyStop cause s).power.mode = s.power.mode := by
  obtain ⟨t, ht, hstop⟩ := emergencyStop_cutterView s cause
  calc (emergencyStop cause s).power.mode = (driveOff t).power.mode := congrArg (·.2.1) hstop
    _ = t.power.mode := driveOff_mode t
    _ = s.power.mode := congrArg (·.2.1) ht

/-- R139: the JAM of a cycle that has not succeeded. -/
def cutterJam : Detail := .jam false true false false 0 1

/-- R138, R139: a cycle that times out raises JAM and switches the drive off, with an emergency stop or without. -/
theorem cycleTimesOut_cutterView (h : s.start.phase = .ready) :
    ∃ t, t.cutterView = (raise 2 cutterJam s).cutterView ∧ (cycleTimesOut s).cutterView = (driveOff t).cutterView := by
  rw [cycleTimesOut, if_neg (by simp [h])]
  dsimp only
  split
  · exact emergencyStop_cutterView _ .cutter
  · exact ⟨_, rfl, cutterView_quietJam _⟩

theorem raise_pending_none {n : Nat} (d : Detail) (hr : s.start.phase = .ready) (hn : s.events.pending[n]? = some none) :
    (raise n d s).events.pending[n]? = some (some ⟨1, d⟩) := by
  rw [raise_ready n d hr, State.onEvents_events, Events.raised, getElem?_modifyAt, if_pos rfl, hn]; rfl

theorem timeoutDue_of_passed (hl : levelsLive s = true) (hst : s.mech.cutter.state = .leaving ∨ s.mech.cutter.state = .returning)
    (ht : s.mech.cutter.since + 1000000 ≤ s.now) : timeoutDue s = true := by
  have hdrives : s.mech.cutter.drives = true := by rcases hst with h | h <;> simp [Cutter.drives, h]
  simp [timeoutDue, hl, hdrives, passed, cutterTime, ms, ht]

/-- R138: a change of CUTTER-HOME that ends no cycle. -/
theorem homeChanged_notDone {home : Bool} (h : s.mech.cutter.state ≠ .returning ∨ home = false) : homeChanged home s =
    (s.onLevels (fun l => { l with cutterHome := home })).onMech (fun x => { x with cutter := x.cutter.homed home }) :=
  if_neg (by simpa [or_iff_not_imp_left] using h)

/-- R138: HOME in RETURNING ends the cycle in success. -/
theorem homeChanged_done (h : s.mech.cutter.state = .returning) : homeChanged true s =
    cycleSucceeds ((s.onLevels (fun l => { l with cutterHome := true })).onMech (fun x => { x with cutter := x.cutter.homed true })) :=
  if_pos (by simp [h])

/-! ## SENSOR and the wake causes in ACTIVE and STANDBY (R134, R151) -/

theorem levelsLive_ready (h : s.start.phase = .ready) : levelsLive s = true := by simp [levelsLive, h]

/-- A change of a level is an event once the start-up has ended. -/
theorem levelDue {old new : Bool} (hr : s.start.phase = .ready) (h : old ≠ new) : (levelsLive s && decide (old ≠ new)) = true := by
  simp [levelsLive_ready hr, h]

/-- R151: only in DOZE and WAKING does a cause wake. -/
theorem wakeCause_awake (c : WakeCauses) (h : s.power.mode = .active ∨ s.power.mode = .standby) : wakeCause c s = s := by
  unfold wakeCause
  rcases h with h | h <;> rw [h]

theorem raise_power (n : Nat) (d : Detail) (s : State) : (raise n d s).power = s.power := (kept_raise (Kept.refl s)).power

theorem sensed_awake (c : WakeCauses) (h : s.power.mode = .active ∨ s.power.mode = .standby) : sensed c s = raiseSensor s :=
  wakeCause_awake c (by rw [raiseSensor, raise_power]; exact h)

theorem exec_docEntryChanged (hr : s.start.phase = .ready) (hm : s.power.mode = .active ∨ s.power.mode = .standby)
    (h : s.levels.docEntry ≠ b) : exec (.docEntryChange b) s =
      .next (settle (advance (raiseSensor (s.onLevels (fun l => { l with docEntry := b }))))) := by
  rw [exec_docEntryChange, jobEvent_due (levelDue hr h)]
  dsimp only
  rw [sensed_awake]
  exact hm

theorem exec_paperChanged (hr : s.start.phase = .ready) (hm : s.power.mode = .active ∨ s.power.mode = .standby)
    (h : s.levels.paper ≠ b) : exec (.paperChange b) s =
      .next (settle (advance (raiseSensor (s.onLevels (fun l => { l with paper := b }))))) := by
  rw [exec_paperChange, jobEvent_due (levelDue hr h)]
  dsimp only
  rw [sensed_awake]
  exact hm

theorem exec_wakeKeyChanged (hr : s.start.phase = .ready) (hm : s.power.mode = .active ∨ s.power.mode = .standby)
    (h : s.levels.wakeKey ≠ b) : exec (.wakeKeyChange b) s = .next (settle (s.onLevels (fun l => { l with wakeKey := b }))) := by
  rw [exec_wakeKeyChange, event_due (levelDue hr h)]
  dsimp only
  rw [wakeCause_awake, ite_self]
  exact hm

/-! ## DOC-READ (R82, R85, R86, R97) -/

theorem exec_sheetShown (hr : s.start.phase = .ready) (h : s.levels.docRead = false) : exec (.docReadChange true) s =
    .next (settle (advance (sheetArrives (abandonCalibration (s.onLevels (fun l => { l with docRead := true })))))) :=
  (exec_docReadChange true s).trans (jobEvent_due (levelDue hr (by simp [h])))

theorem exec_sheetGone (hr : s.start.phase = .ready) (h : s.levels.docRead = true) : exec (.docReadChange false) s =
    .next (settle (advance (sheetLeaves (s.onLevels (fun l => { l with docRead := false }))))) :=
  (exec_docReadChange false s).trans (jobEvent_due (levelDue hr (by simp [h])))

theorem abandonCalibration_none (h : s.scan.calibration = none) : abandonCalibration s = s := if_neg (by simp [h])

/-- R97: a calibration of the host's is abandoned for a sheet. -/
theorem abandonCalibration_host {c : Calibration} (hc : s.scan.calibration = some c) (hs : c.startUp = false) :
    abandonCalibration s = raiseDone .calibrate .sheet 0 (endOp .scanner .calibrate
      (s.onScan (fun x => { x with calibration := none, lamp := ⟨none, false⟩ }))) := by
  simp only [abandonCalibration, endCalibration, hc, Option.isSome_some, Option.map_some, Option.getD_some, hs, if_true, Bool.false_eq_true,
    if_false]
  rfl

theorem abandonCalibration_phase (s : State) : (abandonCalibration s).scan.phase = s.scan.phase := by
  unfold abandonCalibration endCalibration raiseDone raise endOp
  dsimp only
  repeat' split
  all_goals rfl

theorem sheetArrives_noEdge (h : s.scan.phase ≠ .pick ∨ pickTaken s = true) : sheetArrives s = s :=
  if_neg fun ⟨hp, ht⟩ => h.elim (· hp) fun htaken => by simp [htaken] at ht

/-- R85: a leading edge at the step just taken, the feed stepping, and at the next one otherwise. -/
theorem sheetArrives_edge (hp : s.scan.phase = .pick) (ht : pickTaken s = false) : sheetArrives s =
    if s.mech.scanFeed.moving = true ∧ s.mech.scanFeed.current = .run then leadingEdge s
    else s.onScan (fun x => { x with sheet := { x.sheet with edgePending := true } }) := by
  rw [sheetArrives, if_pos ⟨hp, by simp [ht]⟩]
  simp only [Bool.and_eq_true, decide_eq_true_eq]

theorem sheetLeaves_noEdge (hp : s.scan.phase ≠ .lines) (he : s.scan.sheet.edgePending = false) : sheetLeaves s = s := by
  simp [sheetLeaves, hp, he]

/-- R86: a trailing edge at the step just taken, the feed stepping, and at the next one otherwise. -/
theorem sheetLeaves_edge (hp : s.scan.phase = .lines) (ht : s.scan.sheet.trailing = none) : sheetLeaves s =
    if s.mech.scanFeed.moving = true ∧ s.mech.scanFeed.current = .run then trailingEdge s
    else s.onScan (fun x => { x with sheet := { x.sheet with trailingPending := true } }) := by
  simp [sheetLeaves, hp, ht]

/-! ## COVER (R134, R135, R137) -/

theorem emergencyDue_iff : emergencyDue s = true ↔
    s.mech.scanFeed.current ≠ .off ∨ s.mech.printFeed.current ≠ .off ∨ s.power.headSince.isSome = true := by
  simp [emergencyDue, Feed.energized, Power.headPower, or_assoc]

theorem headOn_closed (hc : s.levels.coverOpen = false) (hoff : s.power.headSince = none) :
    headOn s = s.onPower (fun p => { p with headSince := some s.now }) := if_neg (by simp [hc, Power.headPower, hoff])

theorem coverOpens_rest (hscan : s.mech.scanFeed.current = .off) (hprint : s.mech.printFeed.current = .off)
    (hhead : s.power.headSince = none) : coverOpens s = raiseSensor s :=
  if_neg (by rw [emergencyDue_iff]; simp [hscan, hprint, hhead])

theorem coverOpens_powered
    (h : s.mech.scanFeed.current ≠ .off ∨ s.mech.printFeed.current ≠ .off ∨ s.power.headSince.isSome = true) :
    coverOpens s = emergencyStop .cover (raise 1 (.emergency (emergencyDetail s)) s) := if_pos (emergencyDue_iff.2 h)

theorem coverCloses_standby (hm : s.power.mode = .standby) : coverCloses s = raiseSensor s := by
  rw [coverCloses, if_neg (by simp [hm])]

theorem coverCloses_active (hm : s.power.mode = .active) (hc : s.levels.coverOpen = false) (hoff : s.power.headSince = none) :
    coverCloses s = raiseSensor (s.onPower (fun p => { p with headSince := some s.now })) := by
  rw [coverCloses, if_pos hm, headOn_closed hc hoff]

theorem headOn_mode (s : State) : (headOn s).power.mode = s.power.mode := congrArg (·.2.1) (cutterView_headOn s)

theorem coverOpens_mode (s : State) : (coverOpens s).power.mode = s.power.mode := by
  unfold coverOpens
  split
  · rw [emergencyStop_mode, raise_power]
  · rw [raiseSensor, raise_power]

theorem coverCloses_mode (s : State) : (coverCloses s).power.mode = s.power.mode := by
  rw [coverCloses, raiseSensor, raise_power]
  split
  exacts [headOn_mode s, rfl]

theorem exec_coverOpened (hr : s.start.phase = .ready) (hm : s.power.mode = .active ∨ s.power.mode = .standby)
    (h : s.levels.coverOpen = false) : exec (.coverChange true) s =
      .next (settle (advance (coverOpens (s.onLevels (fun l => { l with coverOpen := true }))))) := by
  rw [exec_coverChange, jobEvent_due (levelDue hr (by simp [h]))]
  dsimp only
  rw [if_pos rfl, wakeCause_awake]
  rw [coverOpens_mode]
  exact hm

theorem exec_coverClosed (hr : s.start.phase = .ready) (hm : s.power.mode = .active ∨ s.power.mode = .standby)
    (h : s.levels.coverOpen = true) : exec (.coverChange false) s =
      .next (settle (advance (coverCloses (s.onLevels (fun l => { l with coverOpen := false }))))) := by
  rw [exec_coverChange, jobEvent_due (levelDue hr (by simp [h]))]
  dsimp only
  rw [if_neg Bool.false_ne_true, wakeCause_awake]
  rw [coverCloses_mode]
  exact hm

/-! ## The obligation -/

/-- Settles O35: the change of each level by what follows it in ACTIVE and STANDBY; the cutter's cycle by what a stop and the end of an
operation leave of the cutter (`State.cutterView`). -/
theorem levelChangesAct : Obligations.LevelChangesAct := by
  unfold Obligations.LevelChangesAct
  intro b s hr hm
  have home (h : s.levels.cutterHome ≠ b) : exec (.cutterHomeChange b) s = .next (settle (advance (homeChanged b s))) :=
    jobEvent_due (levelDue hr h)
  refine ⟨exec_docEntryChanged hr hm, exec_paperChanged hr hm, exec_wakeKeyChanged hr hm, fun h hp hl hc he => ?_,
    fun h hb hp ht hc => ?_, fun h hb hp ht hc => ?_, fun h hb hp ht => ?_, fun c h hb hp hc hs => ?_,
    fun h hb hscan hprint hhead => ?_, fun h hb hpower => ?_, fun h hb hmode => ?_, fun h hb hmode hhead => ?_,
    fun h hb hst => ?_, fun h hst => ?_, fun h hb hst => ?_, fun hst ht => ?_⟩
  · cases b with
    | true =>
      rw [exec_sheetShown hr (by simpa using h), abandonCalibration_none (s := s.onLevels _) hc, sheetArrives_noEdge (s := s.onLevels _) (.inl hp)]
      rfl
    | false => rw [exec_sheetGone hr (by simpa using h), sheetLeaves_noEdge (s := s.onLevels _) hl he]; rfl
  · subst hb
    rw [exec_sheetShown hr h, abandonCalibration_none (s := s.onLevels _) hc, sheetArrives_noEdge (s := s.onLevels _) (.inr ht)]
    rfl
  · subst hb
    rw [exec_sheetShown hr h, abandonCalibration_none (s := s.onLevels _) hc, sheetArrives_edge (s := s.onLevels _) hp ht,
      State.onLevels_mech]
    exact ⟨fun hstep => by rw [if_pos hstep]; rfl, fun hstep => by rw [if_neg hstep]; rfl⟩
  · subst hb
    rw [exec_sheetGone hr h, sheetLeaves_edge (s := s.onLevels _) hp ht, State.onLevels_mech]
    exact ⟨fun hstep => by rw [if_pos hstep]; rfl, fun hstep => by rw [if_neg hstep]; rfl⟩
  · subst hb
    rw [exec_sheetShown hr h, sheetArrives_noEdge (.inl (by rw [abandonCalibration_phase]; exact hp)),
      abandonCalibration_host (s := s.onLevels _) hc hs]
    rfl
  · subst hb
    rw [exec_coverOpened hr hm h, coverOpens_rest (s := s.onLevels _) hscan hprint hhead]
    rfl
  · subst hb
    rw [exec_coverOpened hr hm h, coverOpens_powered (s := s.onLevels _) hpower]
    rfl
  · subst hb
    rw [exec_coverClosed hr hm h, coverCloses_standby (s := s.onLevels _) hmode]
    rfl
  · subst hb
    rw [exec_coverClosed hr hm h, coverCloses_active (s := s.onLevels _) hmode rfl hhead]
    rfl
  · subst hb
    rw [home (by simp [h]), homeChanged_notDone (.inr rfl)]
    simp only [Cutter.homed, State.onMech, State.onLevels, hst]
    rfl
  · rw [home h, homeChanged_notDone (.inl (by rcases hst with h | h <;> simp [h]))]
    rcases hst with hst | hst <;> simp only [Cutter.homed, State.onMech, State.onLevels, hst]
  · subst hb
    refine ⟨_, home (by simp [h]), ?_⟩
    rw [homeChanged_done hst]
    have hview := cutterView_cycleSucceeds ((s.onLevels (fun l => { l with cutterHome := true })).onMech
      (fun x => { x with cutter := x.cutter.homed true }))
    refine ⟨(congrArg (·.2.2.1.state) hview).trans ?_, congrArg (·.1.cutterHome) hview⟩
    simp [State.cutterView, Cutter.homed, hst]
  · obtain ⟨t, ht', hout⟩ := cycleTimesOut_cutterView hr
    refine ⟨cycleTimesOut s, (exec_cutterTimeout s).trans (jobEvent_due (timeoutDue_of_passed (levelsLive_ready hr) hst ht)), ?_, fun hn => ?_⟩
    · exact (congrArg (·.2.2.1.drives) hout).trans (driveOff_drives t)
    · refine ⟨⟨1, cutterJam⟩, ?_, rfl⟩
      calc (cycleTimesOut s).events.pending[2]? = (driveOff t).events.pending[2]? := congrArg (·.2.2.2) hout
        _ = t.events.pending[2]? := by rw [driveOff_events]
        _ = (raise 2 cutterJam s).events.pending[2]? := congrArg (·.2.2.2) ht'
        _ = some (some ⟨1, cutterJam⟩) := raise_pending_none cutterJam hr hn

end Sys2Proof.Machine
end

section
/-! The frame of the events and of the commands: what the machinery of the jobs leaves (`Kept`), they leave as well. -/

namespace Sys2Proof.Machine

-- One theorem at a time, as in the tests: a thread for each would exceed the memory allowed.
set_option Elab.async false

variable {s t u : State}

section
variable (hk : Kept u s)
include hk

omit hk in
theorem kept_ite {c : Prop} [Decidable c] {a b : State} (ha : Kept u a) (hb : Kept u b) : Kept u (if c then a else b) := by
  split
  exacts [ha, hb]

theorem kept_onFaults {f : ParityFaults → ParityFaults} : Kept u (s.onFaults f) :=
  hk.trans ⟨rfl, rfl, rfl, rfl, rfl, rfl, rfl, rfl, rfl, rfl, rfl, rfl, rfl, rfl, rfl, rfl, fun _ h => h, fun h => h⟩

/-! ## Commands taken and answered (R193, R195) -/

theorem kept_releaseCommand : Kept u (releaseCommand s) := kept_onLink (fun _ => rfl) (fun _ => rfl) hk

theorem kept_placeReply {c : Byte} {a : Answer} {data : List Byte} : Kept u (placeReply c a data s) :=
  kept_beginSending (kept_onLink (fun _ => rfl) (fun _ => rfl) hk)

/-! ## Documents (R26) -/

theorem kept_deleteDocument {n : Nat} : Kept u (deleteDocument n s) :=
  kept_onDoc (kept_foldl (fun _ _ h => kept_erasePage h) hk)

/-! ## The answers (R64 to R73) -/

theorem kept_carryFullMid {k : Nat} {j : Job} {c : Choice} : Kept u (carryFullMid k j c s) := by
  unfold carryFullMid
  refine kept_ite hk ?_
  split
  · exact kept_onScan (kept_onJob hk)
  · exact kept_beginEject (kept_discardScanPage hk)
  · exact kept_beginEject (kept_keepScanPage hk)

theorem kept_carryFullStart {k : Nat} {j : Job} {c : Choice} : Kept u (carryFullStart k j c s) := by
  unfold carryFullStart
  split
  · exact kept_addWaiter (kept_dropWaiter (kept_onScan (kept_onJob hk)))
  · exact kept_endJob hk
  · exact kept_ite (kept_beginEject hk) (kept_endJob hk)

theorem kept_finishJam {k : Nat} {j : Job} : Kept u (finishJam k j s) := by
  unfold finishJam
  split
  · exact kept_afterEject hk
  · exact kept_ite (kept_beginEject hk) (kept_endJob hk)

theorem kept_finishPrint {k : Nat} {j : Job} : Kept u (finishPrint k j s) := by
  have page : Kept u (keepScanPage (backToConsumed s)) := kept_keepScanPage (kept_backToConsumed hk)
  exact kept_ite (kept_ite hk (kept_ite (kept_onScan page) (kept_beginEject page))) (kept_endJob hk)

theorem kept_carryPaper {k : Nat} {j : Job} {c : Choice} : Kept u (carryPaper k j c s) := by
  unfold carryPaper
  split
  · exact kept_backToConsumed hk
  · exact kept_ite (kept_setPrint (kept_toStart hk)) (kept_setPrint (kept_whitenHistory hk))
  · exact kept_moveOn (kept_setPrint (kept_leavePage (kept_setPrint hk)))
  · exact kept_finishPrint hk

theorem kept_carryCut {k : Nat} {j : Job} {c : Choice} : Kept u (carryCut k j c s) := by
  unfold carryCut
  split
  · exact kept_setPrint hk
  · exact kept_finishPrint hk

theorem kept_carryChoice {k : Nat} {j : Job} {b : Boundary} {c : Choice} : Kept u (carryChoice k j b c s) := by
  unfold carryChoice
  split
  · exact kept_ite (kept_carryFullMid hk) (kept_carryFullStart hk)
  · exact kept_ite (kept_onScan hk) (kept_finishJam hk)
  · exact kept_carryPaper hk
  · exact kept_carryCut hk
  · exact kept_endJob hk
  · exact kept_carryPageEnd hk

theorem kept_resumed {k : Nat} {j : Job} : Kept u (resumed k j s) := by
  have running : Kept u (onJob k (fun x => { x with state := .running, compareDue := false }) s) := kept_onJob hk
  exact kept_ite (kept_compareAtPageEnd (kept_ite running (kept_endIfDone running))) running

/-! ## The link (R37 to R43, R191 to R197) -/

theorem kept_huntAgain : Kept u (huntAgain s) := kept_onLink (fun _ => rfl) (fun _ => rfl) hk

theorem kept_dropGap : Kept u (dropGap s) := kept_linkFault (kept_huntAgain hk)

theorem kept_receiveByte {b : Byte} {f : Bool} : Kept u (receiveByte b f s) := by
  have hunts : Kept u (huntByte b s) := kept_ite (kept_onLink (fun _ => rfl) (fun _ => rfl) hk) (kept_ite (kept_linkFault hk) hk)
  have taken : Kept u (takeFrameByte b s) := kept_ite (kept_linkFault (kept_huntAgain hk))
    (kept_ite (kept_linkFault (kept_huntAgain hk)) (kept_onLink (fun _ => rfl) (fun _ => rfl) hk))
  exact kept_ite (kept_ite (kept_linkFault (kept_huntAgain hk)) taken) (kept_ite hk hunts)

theorem kept_routeFrame {f : InFrame} : Kept u (routeFrame f s) := by
  unfold routeFrame
  split
  · exact kept_linkFault hk
  · exact kept_ite (kept_ite hk (kept_onStore hk)) (kept_onJob hk)

theorem kept_onLinkIn {f : LinkIn → LinkIn} : Kept u (onLinkIn f s) := kept_onStore hk

theorem kept_takeItem {rest : List Byte} : Kept u (takeItem rest s) := kept_onLinkIn hk

theorem kept_appendRecord {slot : Nat} {bs : List Byte} : Kept u (appendRecord slot bs s).1 := by
  rcases appendRecord_cases slot bs s with ⟨-, he⟩ | ⟨t, -, ha, he⟩ | ⟨-, -, he⟩ <;> rw [he]
  · exact kept_putBytes hk
  · exact kept_putBytes (kept_allocate ha (kept_putBytes hk))
  · exact kept_onPage (kept_putBytes hk)

theorem kept_storeReceived {k slot : Nat} {record : List Byte} {c : Bool} : Kept u (storeReceived k slot record c s) :=
  kept_ite (kept_commitRecord (kept_appendRecord hk)) (kept_meet (kept_addWaiter (kept_onLinkIn (kept_appendRecord hk))))

theorem kept_dropReceived {k : Nat} {c : LinkIn} : Kept u (dropReceived k c s) := by
  refine kept_onJob (kept_ite ?_ hk)
  split
  exacts [kept_dropPageLine hk, hk]

theorem kept_takeLine {record : List Byte} {conceals : Bool} : Kept u (takeLine record conceals s) := by
  unfold takeLine
  split
  · exact hk
  split
  · exact kept_ite (kept_dropAtLimit hk) (kept_storeReceived hk)
  · exact kept_dropReceived hk

theorem kept_receiveLine : Kept u (receiveLine s) := by
  unfold receiveLine
  split
  · exact kept_takeLine (kept_takeItem hk)
  · exact kept_takeLine (kept_takeItem hk)
  · exact hk

theorem kept_endReceived : Kept u (endReceived s) := by
  unfold endReceived
  split
  · exact hk
  · refine kept_ite hk (kept_onJob (kept_onLinkIn ?_))
    split
    exacts [kept_endPageNormally hk, hk]

theorem kept_beginReceived {r : Resolution} {w : PageWidth} : Kept u (beginReceived r w s) := by
  unfold beginReceived
  split
  · exact hk
  split
  · next hp => exact kept_onJob (kept_onLinkIn (kept_startPage hp hk))
  · exact kept_meet hk

theorem kept_receiveBegin : Kept u (receiveBegin s) := by
  unfold receiveBegin
  split
  · exact kept_beginReceived (kept_endReceived (kept_takeItem hk))
  · exact hk

theorem kept_receiveEnd : Kept u (receiveEnd s) := by
  unfold receiveEnd
  split
  · exact kept_endReceived (kept_takeItem hk)
  · exact hk

theorem kept_receiveLost : Kept u (receiveLost s) := by
  unfold receiveLost
  split
  · exact kept_ite (kept_takeLine (kept_linkFault (kept_takeItem hk))) (kept_linkFault (kept_takeItem hk))
  · exact hk

/-- R197: a frame is sent, and the next is begun. -/
theorem kept_transmitNext : Kept u (transmitNext s) := kept_onLink (fun _ => rfl) (fun _ => rfl) hk

theorem kept_dataOutSent {faults : ParityFaults} : Kept u (dataOutSent faults s) := by
  unfold dataOutSent
  split
  · exact hk
  · exact kept_frameSent (kept_transmitNext (kept_onLink (fun _ => rfl) (fun _ => rfl) (kept_onFaults hk)))

/-! ## The scan path (R82 to R93) -/

theorem kept_onSlots {f : List LineSlot → List LineSlot} : Kept u (onSlots f s) := kept_onScan hk

theorem kept_admitScanLine : Kept u (admitScanLine s) := by
  unfold admitScanLine
  exact kept_onScan (kept_onSlots (kept_enqueue hk))

theorem kept_endCapture {raw : List Byte} : Kept u (endCapture raw s) := by
  unfold endCapture
  split
  · exact hk
  · exact kept_onScan (kept_onSlots hk)

theorem kept_codeCaptured : Kept u (codeCaptured s) := by
  unfold codeCaptured
  split
  · exact hk
  · exact kept_onScan (kept_onSlots hk)

theorem kept_onUntaken {v : LineSlot} : Kept u (onUntaken v s) := kept_onSlots hk

theorem kept_storeScanned {slot n : Nat} {record : List Byte} : Kept u (storeScanned slot n record s) :=
  kept_ite (kept_onUntaken (kept_commitRecord (kept_appendRecord hk)))
    (kept_addWaiter (kept_onUntaken (kept_onStore (kept_appendRecord hk))))

theorem kept_takeScanned : Kept u (takeScanned s) := by
  unfold takeScanned
  split
  · exact kept_ite (kept_onUntaken (kept_dropAtLimit hk)) (kept_ite (kept_onUntaken (kept_dropPageLine hk)) (kept_storeScanned hk))
  · exact kept_onUntaken hk
  · exact hk

theorem kept_lampWarmed : Kept u (lampWarmed s) := kept_onScan hk

theorem kept_sheetArrives : Kept u (sheetArrives s) := kept_ite (kept_ite (kept_leadingEdge hk) (kept_onScan hk)) hk

theorem kept_sheetLeaves : Kept u (sheetLeaves s) := kept_ite (kept_trailingEdge hk) (kept_ite (kept_onScan hk) hk)

/-! ## The motors and the head (R103 to R127) -/

theorem kept_scanCounts : Kept u (scanCounts s) := kept_placeEdge (kept_onScan hk)

theorem kept_lineStep {n : Nat} {due : Bool} : Kept u (lineStep n due s) := kept_ite (kept_onScan hk) (kept_onSlots hk)

theorem kept_lineStrobed {tag : LineTag} : Kept u (lineStrobed tag s) := kept_ite (kept_consumeLine hk) hk

theorem kept_paperOut : Kept u (paperOut s) := by
  have back : Kept u (backToConsumed (whitenHistory (feedOnlyQueue .print s))) :=
    kept_backToConsumed (kept_whitenHistory (kept_feedOnlyQueue hk))
  unfold paperOut
  dsimp only
  split
  · exact kept_ite (kept_meet back) back
  · exact back

theorem kept_advanceStep {e : Entry} : Kept u (advanceStep e s) := kept_ite (kept_onMech (fun _ => rfl) (fun _ => rfl) hk) hk

theorem kept_headRests {e : Entry} : Kept u (headRests e s) := kept_ite (kept_onEnergy (fun _ => rfl) (fun _ => rfl) hk) hk

theorem kept_comeToRest {m : Motor} : Kept u (comeToRest m s) := kept_onFeed (fun _ => rfl) hk

theorem kept_endPeriod {g : Pwm} : Kept u (endPeriod g s) := by
  unfold endPeriod onGenerator
  cases g <;> exact kept_onMech (fun _ => rfl) (fun _ => rfl) hk

theorem kept_takeSamples {c v : Byte} : Kept u (takeSamples c v s) := by
  unfold takeSamples
  exact kept_ite (kept_raise (kept_onEnergy (fun _ => rfl) (fun _ => rfl) hk)) (kept_onEnergy (fun _ => rfl) (fun _ => rfl) hk)

theorem kept_offerLine {c v : Byte} : Kept u (offerLine c v s) := by
  have sampled : Kept u (takeSamples c v (nextLine s)) := kept_takeSamples (kept_nextLine hk)
  unfold offerLine
  dsimp only
  split
  · exact kept_nextLine hk
  · exact kept_ite sampled (kept_admitLine sampled)

/-! ## The cutter (R138 to R140) -/

/-- The end of a cut of the host's and of the drain after one. -/
theorem kept_endCut {o : DoneOutcome} : Kept u (endOp .printer .cutCycle
    (if opRuns s .printer .cut then raiseDone .cut o 0 (endOp .printer .cut s) else s)) :=
  kept_endOp (kept_ite (kept_raiseDone (kept_endOp hk)) hk)

theorem kept_quietJam : Kept u (quietJam s) := by
  have cut : Kept u (endOp .printer .cutCycle (if opRuns (driveOff s) .printer .cut then
      raiseDone .cut .jam 0 (endOp .printer .cut (driveOff s)) else driveOff s)) := kept_endCut (kept_driveOff hk)
  unfold quietJam
  dsimp only
  split
  · exact kept_ite (kept_meet (kept_setPrint cut)) (kept_setPrint cut)
  · exact cut

end

end Sys2Proof.Machine
end

section
/-! What an operation gains of what the power law reads (O37): the relation `Calm`, and the operations that gain nothing of it beside those
of the machinery (`Kept.calm`). -/

namespace Sys2Proof.Machine

-- One theorem at a time, as in the tests: a thread for each would exceed the memory allowed.
set_option Elab.async false

variable {s t u : State}

/-! ## The relation -/

/-- No job slot is filled. -/
def State.noJobs (s : State) : Prop := s.jobs.slots.all Option.isNone = true

/-- R104, R116, R132: the mode, HEADPWR, READY and the acceptance of DOZE stand; no motor becomes energized, no strobe begins and no job
slot is filled. -/
structure Calm (s t : State) : Prop where
  mode : t.power.mode = s.power.mode
  head : t.power.headPower = s.power.headPower
  ready : t.energy.ready = s.energy.ready
  scan : t.mech.scanFeed.energized = true → s.mech.scanFeed.energized = true
  print : t.mech.printFeed.energized = true → s.mech.printFeed.energized = true
  strobe : t.energy.firing.isSome = true → s.energy.firing.isSome = true
  doze : t.link.dozeAccepted = s.link.dozeAccepted
  noJobs : s.noJobs → t.noJobs
  slots : t.jobs.slots.length = s.jobs.slots.length

theorem Calm.refl (s : State) : Calm s s := ⟨rfl, rfl, rfl, id, id, id, rfl, id, rfl⟩

theorem Calm.trans (a : Calm s t) (b : Calm t u) : Calm s u where
  mode := b.mode.trans a.mode
  head := b.head.trans a.head
  ready := b.ready.trans a.ready
  scan := a.scan ∘ b.scan
  print := a.print ∘ b.print
  strobe := a.strobe ∘ b.strobe
  doze := b.doze.trans a.doze
  noJobs := b.noJobs ∘ a.noJobs
  slots := b.slots.trans a.slots

theorem noJobs_iff : s.noJobs ↔ ∀ k < s.jobs.slots.length, s.jobs.slots[k]? = some none := by
  rw [State.noJobs, List.all_eq_true]
  refine ⟨fun h k hk => ?_, fun h x hx => ?_⟩
  · rw [List.getElem?_eq_getElem hk, Option.some.injEq, ← Option.isNone_iff_eq_none]
    exact h _ (List.getElem_mem hk)
  · obtain ⟨k, hk, rfl⟩ := List.mem_iff_getElem.1 hx
    have := h k hk
    rw [List.getElem?_eq_getElem hk, Option.some.injEq] at this
    rw [this]; rfl

theorem jobIn_of_noJobs (h : s.noJobs) (k : Nat) : jobIn s k = none := by
  refine Option.eq_none_iff_forall_ne_some.2 fun j hj => ?_
  have hslot := jobIn_slot.1 hj
  rw [noJobs_iff.1 h k (List.getElem?_eq_some_iff.1 hslot).1] at hslot
  cases hslot

/-- R153: with four slots, none in use. -/
theorem noJobs_of_usedSlots (h4 : s.jobs.slots.length = 4) (h : usedSlots s = []) : s.noJobs := by
  refine noJobs_iff.2 fun k hk => ?_
  have hnone : jobIn s k = none := by
    rw [h4] at hk
    simpa using List.filter_eq_nil_iff.1 h k (List.mem_range.2 hk)
  rw [jobIn, List.getElem?_eq_getElem hk, Option.join_some] at hnone
  rw [List.getElem?_eq_getElem hk, hnone]

/-- What the machinery of the jobs leaves, the power law reads as it was. -/
theorem Kept.calm (h : Kept s t) : Calm s t where
  mode := by rw [h.power]
  head := by rw [h.power]
  ready := h.ready
  scan := by unfold Feed.energized; rw [h.scanCurrent]; exact id
  print := by unfold Feed.energized; rw [h.printCurrent]; exact id
  strobe := by rw [h.firing]; exact id
  doze := h.doze
  noJobs hs := noJobs_iff.2 fun k hk => h.emptySlot k (noJobs_iff.1 hs k (h.slotCount ▸ hk))
  slots := h.slotCount

theorem Calm.kept (h : Calm u s) (hk : Kept s t) : Calm u t := h.trans hk.calm

/-- The mode, HEADPWR, the print energy unit, the motors, the acceptance of DOZE and the jobs stand. -/
theorem calm_of_eq (hmode : t.power.mode = s.power.mode) (hhead : t.power.headSince = s.power.headSince) (henergy : t.energy = s.energy)
    (hscan : t.mech.scanFeed = s.mech.scanFeed) (hprint : t.mech.printFeed = s.mech.printFeed)
    (hdoze : t.link.dozeAccepted = s.link.dozeAccepted) (hjobs : t.jobs = s.jobs) : Calm s t where
  mode := hmode
  head := by rw [Power.headPower, hhead]; rfl
  ready := by rw [henergy]
  scan := by rw [hscan]; exact id
  print := by rw [hprint]; exact id
  strobe := by rw [henergy]; exact id
  doze := hdoze
  noJobs := by rw [State.noJobs, State.noJobs, hjobs]; exact id
  slots := by rw [hjobs]

/-! ## The power law through it -/

/-- R104, R116, R132: the law holds of what gains nothing. -/
theorem Calm.powerSafe (h : Calm s t) (hs : s.powerSafe) : t.powerSafe where
  headInActive hh := h.mode.trans (hs.headInActive (h.head.symm.trans hh))
  readyNeedsHead hr := h.head.trans (hs.readyNeedsHead (h.ready.symm.trans hr))
  scanNeedsReady he := h.ready.trans (hs.scanNeedsReady (h.scan he))
  printNeedsReady he := h.ready.trans (hs.printNeedsReady (h.print he))
  strobeNeedsReady hf := h.ready.trans (hs.strobeNeedsReady (h.strobe hf))
  dozeHasNoJob hm := h.noJobs (hs.dozeHasNoJob (h.mode ▸ hm))
  dozeFromStandby hd := by
    obtain ⟨hm, hj⟩ := hs.dozeFromStandby (h.doze.symm.trans hd)
    exact ⟨h.mode.trans hm, h.noJobs hj⟩
  fourSlots := h.slots.trans hs.fourSlots

theorem Kept.powerSafe (h : Kept s t) (hs : s.powerSafe) : t.powerSafe := h.calm.powerSafe hs

/-! ## The updates of the blocks -/

section
variable (h : Calm u s)
include h

theorem calm_onStart {f : StartUp → StartUp} : Calm u (s.onStart f) := h.trans (calm_of_eq rfl rfl rfl rfl rfl rfl rfl)
theorem calm_onRing {f : Ring → Ring} : Calm u (s.onRing f) := h.trans (calm_of_eq rfl rfl rfl rfl rfl rfl rfl)
theorem calm_onSilence {f : Silence → Silence} : Calm u (s.onSilence f) := h.trans (calm_of_eq rfl rfl rfl rfl rfl rfl rfl)
theorem calm_onSettings {f : Settings → Settings} : Calm u (s.onSettings f) := h.trans (calm_of_eq rfl rfl rfl rfl rfl rfl rfl)
theorem calm_onLevels {f : Levels → Levels} : Calm u (s.onLevels f) := h.trans (calm_of_eq rfl rfl rfl rfl rfl rfl rfl)
theorem calm_onWake {f : WakeTimer → WakeTimer} : Calm u (s.onWake f) := h.trans (calm_of_eq rfl rfl rfl rfl rfl rfl rfl)

theorem calm_onPower {f : Power → Power} (hm : (f s.power).mode = s.power.mode) (hh : (f s.power).headSince = s.power.headSince) :
    Calm u (s.onPower f) := h.trans (calm_of_eq hm hh rfl rfl rfl rfl rfl)

theorem calm_onLink {f : Link → Link} (hd : (f s.link).dozeAccepted = s.link.dozeAccepted) : Calm u (s.onLink f) :=
  h.trans (calm_of_eq rfl rfl rfl rfl rfl hd rfl)

omit h in
theorem calm_ite {c : Prop} [Decidable c] {a b : State} (ha : Calm u a) (hb : Calm u b) : Calm u (if c then a else b) := by
  split
  exacts [ha, hb]

/-! ## The end of a step, an engine taken (R53, R147, R149, R193, R200) -/

theorem calm_settle : Calm u (settle s) := h.trans (calm_of_eq rfl rfl rfl rfl rfl rfl rfl)

theorem calm_takeEngine {e : Engine} {x : Holder} : Calm u (takeEngine e x s) := by
  have set : Calm u (setHolder e x s) := h.kept (kept_setHolder (Kept.refl s))
  cases e <;> exact set.trans (calm_of_eq rfl rfl rfl rfl rfl rfl rfl)

/-! ## Receiving (R160, R191, R192) -/

theorem calm_judgeFrame : Calm u (judgeFrame s) := by
  have hunted : Calm u (huntAgain s) := h.kept (kept_huntAgain (Kept.refl s))
  have faulted : ∀ f, Calm u (linkFault f (huntAgain s)) := fun f => hunted.kept (kept_linkFault (Kept.refl _))
  refine calm_ite (faulted _) (calm_ite (faulted _) ?_)
  unfold validFrame
  exact calm_onPower (calm_onSilence (calm_onLink hunted rfl)) rfl rfl

theorem calm_beforeByte : Calm u (beforeByte s) :=
  calm_ite (calm_judgeFrame h) (calm_ite (h.kept (kept_dropGap (Kept.refl s))) h)

/-! ## Calibration and the cutter (R97, R138, R175) -/

theorem calm_endCalibration {o : DoneOutcome} {c : CalOutcome} : Calm u (endCalibration o c s) := by
  have dark : Calm u (lampOff (s.onScan (fun x => { x with calibration := none }))) := h.kept (kept_lampOff (kept_onScan (Kept.refl s)))
  exact calm_ite (calm_onStart dark) (dark.kept (kept_raiseDone (kept_endOp (Kept.refl _))))

theorem calm_endCalibrationLine {raw : List Byte} : Calm u (endCalibrationLine raw s) := by
  unfold endCalibrationLine
  split
  · exact h
  · refine calm_ite (h.kept (kept_onScan (Kept.refl s))) (calm_ite (h.kept (kept_lampOn (kept_onScan (Kept.refl s)))) ?_)
    exact calm_endCalibration (h.kept (kept_onScan (Kept.refl s)))

theorem calm_abandonCalibration : Calm u (abandonCalibration s) := calm_ite (calm_endCalibration h) h

theorem calm_cycleSucceeds : Calm u (cycleSucceeds s) := by
  refine calm_ite (calm_onStart h) ?_
  have cut : Kept s (endOp .printer .cutCycle (if opRuns s .printer .cut then raiseDone .cut .cut 0 (endOp .printer .cut s) else s)) :=
    kept_endCut (Kept.refl s)
  dsimp only
  split
  · exact h.kept (kept_cutSucceeded cut)
  · exact h.kept cut

theorem calm_homeChanged {home : Bool} : Calm u (homeChanged home s) := by
  have moved : Calm u ((s.onLevels (fun l => { l with cutterHome := home })).onMech (fun x => { x with cutter := x.cutter.homed home })) :=
    (calm_onLevels h).kept (kept_onMech (fun _ => rfl) (fun _ => rfl) (Kept.refl _))
  exact calm_ite (calm_cycleSucceeds moved) moved

theorem calm_beginHoming {l : Levels} : Calm u (beginHoming l s) := by
  have off : Calm u (s.onMech (fun x => { x with cutter := .off l.cutterHome })) := h.trans (calm_of_eq rfl rfl rfl rfl rfl rfl rfl)
  exact calm_ite (calm_onStart off) (calm_ite (calm_onStart off) ((calm_onStart off).kept (kept_beginCycle (Kept.refl _))))

theorem calm_beginStartCalibration {l : Levels} : Calm u (beginStartCalibration l s) :=
  calm_ite (calm_onStart h) ((calm_onStart h).kept (kept_beginCalibration (Kept.refl _)))

/-! ## The firing (R114, R116) -/

theorem calm_endSubpulse : Calm u (endSubpulse s) := by
  unfold endSubpulse
  split
  · exact h
  next f hf =>
  have fires : ∀ f' : Option Firing, Calm s (s.onEnergy (fun e => { e with firing := f' })) := fun _ =>
    { Calm.refl s with strobe := fun _ => by rw [hf]; rfl }
  split
  · exact h.trans (fires _)
  · exact h.trans ((fires none).kept (kept_lineStrobed (Kept.refl _)))

/-! ## Ringing, silence, the battery (R154 to R165) -/

theorem calm_ringStops {why : RingStop} : Calm u (ringStops why s) :=
  calm_ite (calm_onRing h) ((calm_onRing h).kept (kept_raise (Kept.refl _)))

theorem calm_takePulse : Calm u (takePulse s) := by
  unfold takePulse
  split
  · exact calm_ite (calm_ringStops h) (calm_onRing h)
  · exact calm_onRing h

theorem calm_firstExpiry : Calm u (firstExpiry s) := by
  unfold firstExpiry
  exact calm_onSilence (h.kept (kept_raise (kept_foldl (fun _ _ hk => kept_stopJob hk) (Kept.refl s))))

theorem calm_secondExpiry : Calm u (secondExpiry s) := by
  rw [secondExpiry_eq]
  have begun : Calm u (hostResetBegun s) := calm_onSilence (calm_onLink h rfl)
  exact calm_onSilence (begun.kept (kept_jobsAborted _))

theorem calm_silenceNow : Calm u (silenceNow s) := calm_ite (calm_ite (calm_secondExpiry h) (calm_firstExpiry h)) h

theorem calm_readBattery {low : Bool} : Calm u (readBattery low s) :=
  calm_ite ((calm_onStart h).kept (kept_raise (Kept.refl _))) (calm_onStart h)

/-! ## The start-up, the settings' stores (R169 to R177, R187) -/

theorem calm_build {size : Nat} {failing : List Nat} {faults : ParityFaults} :
    Calm u (if s.start.domainLost then buildFresh size failing s else buildRebuilt faults s) := by
  split
  · exact h.trans (calm_of_eq rfl rfl rfl rfl rfl rfl rfl)
  · obtain ⟨v, c, -, hbuilt, rebuilt⟩ := buildRebuilt_eq faults s
    obtain ⟨_, _, _, _, rfl⟩ := rebuilt.frame.rest
    rw [hbuilt]
    exact h.trans (calm_of_eq rfl rfl rfl rfl rfl rfl rfl)

theorem calm_release : Calm u (release s) := by
  have booted : ∀ {f g low d}, (g (s.onStart f).link).dozeAccepted = s.link.dozeAccepted →
      Calm u (raise 0 d (((s.onStart f).onLink g).onStore (fun st => { st with low := low }))) := fun hd =>
    (calm_onLink (calm_onStart h) hd).kept (kept_raise (kept_onStore (Kept.refl _)))
  have supplied : ∀ {c : Prop} [Decidable c] {v : State} {d : Detail}, Calm u v → Calm u (if c then raise 3 d v else v) := fun hv =>
    calm_ite (hv.kept (kept_raise (Kept.refl _))) hv
  unfold release raiseHeldAlarm
  exact calm_ite ((calm_onWake (supplied (booted rfl))).kept (kept_raise (Kept.refl _))) (supplied (booted rfl))

theorem calm_endStore {r : StoreResult} {w : Writing} : Calm u (endStore r w s) := by
  unfold endStore
  split <;> exact (calm_onSettings h).kept (kept_raiseDone (Kept.refl _))

end

end Sys2Proof.Machine
end

section
/-! What the power law forbids to begin, and where it may (O37): HEADPWR and the modes, motions and strobes under READY, jobs outside DOZE. -/

namespace Sys2Proof.Machine

-- One theorem at a time, as in the tests: a thread for each would exceed the memory allowed.
set_option Elab.async false

variable {s t u : State}

/-! ## A part without HEADPWR (R104, R148, R150) -/

/-- HEADPWR off, NOT-READY, both motors OFF, no strobe. -/
structure Unpowered (s : State) : Prop where
  head : s.power.headPower = false
  ready : s.energy.ready = false
  scan : s.mech.scanFeed.energized = false
  print : s.mech.printFeed.energized = false
  strobe : s.energy.firing.isSome = false

/-- Outside ACTIVE the law leaves nothing powered. -/
theorem State.powerSafe.unpowered (hs : s.powerSafe) (hm : s.power.mode ≠ .active) : Unpowered s := by
  have head : s.power.headPower = false := Bool.eq_false_iff.2 fun h => hm (hs.headInActive h)
  have ready : s.energy.ready = false := Bool.eq_false_iff.2 fun h => by rw [hs.readyNeedsHead h] at head; cases head
  have off : ∀ {b : Bool}, (b = true → s.energy.ready = true) → b = false := fun h =>
    Bool.eq_false_iff.2 fun hb => by rw [h hb] at ready; cases ready
  exact ⟨head, ready, off hs.scanNeedsReady, off hs.printNeedsReady, off hs.strobeNeedsReady⟩

theorem Unpowered.powerSafe (h : Unpowered s) (hdoze : s.power.mode = .doze ∨ s.power.mode = .waking → s.noJobs)
    (haccepted : s.link.dozeAccepted = true → s.power.mode = .standby ∧ s.noJobs) (h4 : s.jobs.slots.length = 4) : s.powerSafe where
  headInActive hh := by rw [h.head] at hh; cases hh
  readyNeedsHead hr := by rw [h.ready] at hr; cases hr
  scanNeedsReady he := by rw [h.scan] at he; cases he
  printNeedsReady he := by rw [h.print] at he; cases he
  strobeNeedsReady hf := by rw [h.strobe] at hf; cases hf
  dozeHasNoJob := hdoze
  dozeFromStandby := haccepted
  fourSlots := h4

/-- R104: HEADPWR switched off. -/
theorem headOff_eq (s : State) : headOff s = { s with
    energy := { s.energy with
      history := List.replicate 1728 false, historyPage := none, firing := none, ready := false, supplyHold := false }
    power := { s.power with headSince := none } } := by
  unfold headOff cutStrobe
  split
  · rfl
  · next h =>
    have hnone : s.energy.firing = none := by simpa using h
    simp only [whitenHistory, State.onEnergy, State.onPower, Config.headDots, hnone]

/-- R148: both motors OFF without HEADPWR. -/
theorem unpowered_headOff (hscan : s.mech.scanFeed.energized = false) (hprint : s.mech.printFeed.energized = false) :
    Unpowered (headOff s) := by
  rw [headOff_eq]
  exact ⟨rfl, rfl, hscan, hprint, rfl⟩

theorem unpowered_enterStandby (s : State) : Unpowered (enterStandby s) := by
  unfold enterStandby
  rw [headOff_eq]
  exact ⟨rfl, rfl, rfl, rfl, rfl⟩

/-! ## HEADPWR and the modes (R104, R137, R146 to R153) -/

theorem powerSafe_ite {c : Prop} [Decidable c] (ht : c → t.powerSafe) (hs : s.powerSafe) : (if c then t else s).powerSafe := by
  split
  · next h => exact ht h
  · exact hs

section
variable (hs : s.powerSafe)
include hs

/-- R137, R146: HEADPWR is switched on in ACTIVE. -/
theorem powerSafe_headOn (hm : s.power.mode = .active) : (headOn s).powerSafe := by
  unfold headOn
  split
  · exact hs
  · exact { hs with headInActive := fun _ => hm, readyNeedsHead := fun _ => rfl }

/-- R146: ACTIVE is entered, no DOZE being accepted. -/
theorem powerSafe_enterActive (hd : s.link.dozeAccepted = false) : (enterActive s).powerSafe := by
  unfold enterActive
  split
  · refine powerSafe_headOn ?_ rfl
    exact { hs with
      headInActive := fun _ => rfl
      dozeHasNoJob := fun hm => hm.elim (fun h => nomatch h) (fun h => nomatch h)
      dozeFromStandby := fun h => Bool.noConfusion (hd.symm.trans h) }
  · exact hs

/-- R148: STANDBY is entered. -/
theorem powerSafe_enterStandby : (enterStandby s).powerSafe := by
  have hjobs : (enterStandby s).jobs = s.jobs := by unfold enterStandby; rw [headOff_eq]; rfl
  have hlink : (enterStandby s).link = s.link := by unfold enterStandby; rw [headOff_eq]; rfl
  refine (unpowered_enterStandby s).powerSafe (fun hm => hm.elim (fun h => nomatch h) (fun h => nomatch h)) (fun hd => ⟨rfl, ?_⟩) ?_
  · rw [State.noJobs, hjobs]; exact (hs.dozeFromStandby (hlink ▸ hd)).2
  · rw [hjobs]; exact hs.fourSlots

/-- R150: DOZE is entered from STANDBY, with no job. -/
theorem powerSafe_enterDoze (hm : s.power.mode ≠ .active) (hj : s.noJobs) : (enterDoze s).powerSafe := by
  obtain ⟨head, ready, scan, print, strobe⟩ := hs.unpowered hm
  exact Unpowered.powerSafe (s := enterDoze s) ⟨head, ready, scan, print, strobe⟩ (fun _ => hj) (fun h => nomatch h) hs.fourSlots

/-- R151, R152: a wake cause ends DOZE into WAKING, where there is no job either. -/
theorem powerSafe_wakeCause {c : WakeCauses} : (wakeCause c s).powerSafe := by
  unfold wakeCause
  split
  · next hm =>
    obtain ⟨head, ready, scan, print, strobe⟩ := hs.unpowered (by rw [hm]; decide)
    refine Unpowered.powerSafe ⟨head, ready, scan, print, strobe⟩ (fun _ => hs.dozeHasNoJob (.inl hm)) (fun hd => ?_) hs.fourSlots
    have hstandby := (hs.dozeFromStandby hd).1
    rw [hm] at hstandby; cases hstandby
  · exact (calm_onPower (Calm.refl s) rfl rfl).powerSafe hs
  · exact hs

/-- R151: WAKING ends in STANDBY. -/
theorem powerSafe_reachStandby (hm : s.power.mode = .waking) : (reachStandby s).powerSafe := by
  have hraise (d : Detail) : Kept s (raise 11 d s) := kept_raise (Kept.refl s)
  have law := (hraise (.wake s.power.causes 1)).powerSafe hs
  obtain ⟨head, ready, scan, print, strobe⟩ := law.unpowered (by rw [(hraise _).power, hm]; decide)
  exact Unpowered.powerSafe (s := reachStandby s) ⟨head, ready, scan, print, strobe⟩
    (fun hm => hm.elim (fun h => nomatch h) (fun h => nomatch h)) (fun hd => ⟨rfl, (law.dozeFromStandby hd).2⟩) law.fourSlots

/-- R155: a valid burst, where it is a wake cause too (R152). -/
theorem powerSafe_judgeBurst : (judgeBurst s).powerSafe := by
  unfold judgeBurst
  dsimp only
  split
  · have counted : ∀ {f}, Calm s (s.onRing f) := calm_onRing (Calm.refl s)
    have raised : ∀ {f d}, Calm s (raise 9 d (s.onRing f)) := counted.kept (kept_raise (Kept.refl _))
    unfold ringQualifies
    dsimp only
    split
    · exact powerSafe_wakeCause (raised.powerSafe hs)
    · exact (calm_ite counted raised).powerSafe hs
  · exact (calm_ringStops (Calm.refl s)).powerSafe hs

theorem powerSafe_ringOverdue : (ringOverdue s).powerSafe := by
  have judged := fun {c : Prop} [Decidable c] => powerSafe_ite (c := c) (fun _ => powerSafe_judgeBurst hs) hs
  exact powerSafe_ite (fun _ => (calm_ringStops (Calm.refl _)).powerSafe judged) judged

/-- R158: an alarm, a wake cause once the part is released. -/
theorem powerSafe_alarmExpires : (alarmExpires s).powerSafe := by
  have stopped : ∀ {f}, Calm s (s.onWake f) := calm_onWake (Calm.refl s)
  unfold alarmExpires
  dsimp only
  split
  · exact powerSafe_wakeCause ((stopped.kept (kept_raise (Kept.refl _))).powerSafe hs)
  · exact stopped.powerSafe hs

/-! ## Under READY: the motors and the strobe (R114, R116, R124, R131, R132) -/

/-- R132: an energized motor shows READY. -/
theorem ready_of_energized {m : Motor} (h : (feedOf s m).current ≠ .off) : s.energy.ready = true := by
  cases m
  · exact hs.scanNeedsReady (decide_eq_true h)
  · exact hs.printNeedsReady (decide_eq_true h)

theorem powerSafe_onFeed {m : Motor} {f : Feed → Feed} (hr : s.energy.ready = true) : (onFeed m f s).powerSafe := by
  cases m
  · exact { hs with scanNeedsReady := fun _ => hr }
  · exact { hs with printNeedsReady := fun _ => hr }

/-- R114: a line is fired. -/
theorem powerSafe_fireLine {tag : LineTag} {image fresh : Line} {plan : List Phase} (hr : s.energy.ready = true) :
    (fireLine tag image fresh plan s).powerSafe := by
  unfold fireLine
  split
  · exact (kept_lineStrobed (Kept.refl s)).powerSafe hs
  · exact { hs with strobeNeedsReady := fun _ => hr }

theorem powerSafe_firstStep {e : Entry} (hr : s.energy.ready = true) : (firstStep e s).powerSafe := by
  unfold firstStep
  split
  · exact (kept_lineStep (Kept.refl s)).powerSafe hs
  · unfold printStep
    split
    · exact (kept_whitenHistory (Kept.refl s)).powerSafe hs
    split
    · exact powerSafe_fireLine hs hr
    · exact (kept_paperOut (Kept.refl s)).powerSafe hs
  · exact hs

/-- R127: a step, whatever its entry's first step begins. -/
theorem powerSafe_takeStep {m : Motor} {level : Nat} (hr : s.energy.ready = true) : (takeStep m level s).powerSafe := by
  unfold takeStep
  split
  · exact hs
  · have stepped : Kept s (onFeed m (Feed.stepped level s.now) s) := kept_onFeed (fun _ => rfl) (Kept.refl s)
    have first : ∀ {v : State} {e : Entry}, Kept s v → (firstStep e v).powerSafe := fun told =>
      powerSafe_firstStep (told.powerSafe hs) (told.ready.trans hr)
    cases m
    · have told := kept_scanCounts stepped
      exact powerSafe_ite (fun _ => first told) (told.powerSafe hs)
    · have told := fun e => kept_headRests (e := e) (kept_advanceStep (e := e) stepped)
      exact powerSafe_ite (fun _ => first (told _)) ((told _).powerSafe hs)

/-- R124, R132: a motion begins with motor power. -/
theorem powerSafe_beginMotion {m : Motor} (hr : s.energy.ready = true) : (beginMotion m s).powerSafe := by
  unfold beginMotion
  dsimp only
  split
  · exact powerSafe_takeStep (powerSafe_onFeed hs hr) hr
  · exact powerSafe_onFeed hs hr

theorem powerSafe_endEnergizing {m : Motor} (hr : s.energy.ready = true) : (endEnergizing m s).powerSafe :=
  powerSafe_takeStep (powerSafe_onFeed hs hr) hr

/-- R131: HOLD-DELAY is counted in RUN. -/
theorem powerSafe_holdDelay {m : Motor} (h : holdDelayDue s m = true) : (setCurrent m .hold s).powerSafe := by
  simp only [holdDelayDue, Bool.and_eq_true, decide_eq_true_eq] at h
  obtain ⟨⟨hrun, -⟩, -⟩ := h
  exact powerSafe_onFeed hs (ready_of_energized hs (m := m) (by rw [hrun]; decide))

/-- R131: OFF-DELAY is counted in HOLD. -/
theorem powerSafe_offDelay {m : Motor} (h : offDelayDue s m = true) : (setCurrent m .off s).powerSafe := by
  simp only [offDelayDue, Bool.and_eq_true, decide_eq_true_eq] at h
  obtain ⟨⟨hhold, -⟩, -⟩ := h
  exact powerSafe_onFeed hs (ready_of_energized hs (m := m) (by rw [hhold]; decide))

theorem powerSafe_currentsNow {m : Motor} : (currentsNow m s).powerSafe := by
  have held : (if holdDelayDue s m then setCurrent m .hold s else s).powerSafe := powerSafe_ite (powerSafe_holdDelay hs) hs
  exact powerSafe_ite (powerSafe_offDelay held) held

end

end Sys2Proof.Machine
end

section
/-! What follows of itself within a step, the emergency stop and the events keep the power law (O37). -/

namespace Sys2Proof.Machine

-- One theorem at a time, as in the tests: a thread for each would exceed the memory allowed.
set_option Elab.async false

variable {s t u : State}

/-! ## Grants (R54, R146) -/

theorem kindIn_of_grantable {e : Engine} {k : Nat} {kind : JobKind} (h : grantable s e = some (k, kind)) : kindIn s k = some kind := by
  unfold grantable at h
  split at h
  · cases h
  split at h
  · cases h
  split at h
  · cases h
  · split at h <;> cases h
    assumption
  · cases h; assumption

/-- The state a grant leaves before it brings ACTIVE. -/
def granted (k : Nat) (kind : JobKind) (s : State) : State := onJob k (fun j => { j with state := .running }) (engage k kind s)

theorem grantJob_eq (k : Nat) (kind : JobKind) (s : State) :
    grantJob k kind s = if kind.scans || kind.prints then enterActive (granted k kind s) else granted k kind s := rfl

theorem calm_granted (k : Nat) (kind : JobKind) (s : State) : Calm s (granted k kind s) := by
  have left : Calm s (leaveLists k s) := (kept_leaveLists (Kept.refl s)).calm
  have engaged : Calm s (engage k kind s) := List.foldlRecOn _ _ (motive := Calm s) left fun _ h _ _ =>
    (calm_takeEngine h).kept (kept_beginWork (Kept.refl _))
  exact engaged.kept (kept_onJob (Kept.refl _))

/-- R54: the grant is to a job, so no DOZE is accepted. -/
theorem powerSafe_grantRule (hs : s.powerSafe) (ht : grantRule s = some t) : t.powerSafe := by
  obtain ⟨⟨k, kind⟩, hg, rfl⟩ := Option.map_eq_some_iff.1 ht
  obtain ⟨e, -, hg⟩ := List.exists_of_findSome?_eq_some hg
  have notAccepted : s.link.dozeAccepted = false := Bool.eq_false_iff.2 fun hd => by
    have hkind := kindIn_of_grantable hg
    rw [kindIn, jobIn_of_noJobs (hs.dozeFromStandby hd).2] at hkind
    cases hkind
  have calm := calm_granted k kind s
  rw [grantJob_eq]
  exact powerSafe_ite (fun _ => powerSafe_enterActive (calm.powerSafe hs) (calm.doze.trans notAccepted)) (calm.powerSafe hs)

theorem powerSafe_advance (hs : s.powerSafe) : (advance s).powerSafe :=
  advanceBy_induction (fun _ _ ht hs => (kept_nextRule ht).elim (fun hk => hk.powerSafe hs) (powerSafe_grantRule hs)) _ hs

/-! ## The emergency stop (R135, R136) -/

/-- R135: the capture abandoned, the print side's lines given up, both motors halted, the drive of the cutter off. -/
def mechanismHalted (s : State) : State :=
  driveOff ((haltScan (haltPrint s)).onMech (fun x => { x with
    scanFeed := x.scanFeed.halted (haltScan (haltPrint s)).now, printFeed := x.printFeed.halted (haltScan (haltPrint s)).now }))

/-- R136: what an emergency stop does to the operations and the jobs of the mechanism, with all else halted. -/
def stopTold (cause : Reason) (s : State) : State :=
  (mechanismJobs s).foldl (fun t k => emergencyJob cause (losesLines s) k t)
    (emergencyOps (if cause = .cutter then .jam else .cover) (headOff (mechanismHalted s)))

theorem emergencyStop_eq (cause : Reason) (s : State) : emergencyStop cause s =
    if (stopTold cause s).power.mode = .active then headOn (stopTold cause s) else stopTold cause s := rfl

theorem kept_stopTold (cause : Reason) (s : State) : Kept (headOff (mechanismHalted s)) (stopTold cause s) :=
  kept_foldl (fun _ _ hk => kept_emergencyJob hk) (kept_emergencyOps (Kept.refl _))

theorem calm_mechanismHalted (s : State) : Calm s (mechanismHalted s) := by
  have abandoned : Calm s (haltScan (haltPrint s)) := (kept_haltScan (kept_haltPrint (Kept.refl s))).calm
  refine Calm.kept (abandoned.trans ?_) (kept_driveOff (Kept.refl _))
  exact { Calm.refl (haltScan (haltPrint s)) with
    scan := fun h => (nomatch h), print := fun h => (nomatch h) }

theorem mechanismHalted_feeds (s : State) : ∃ n scan print,
    (mechanismHalted s).mech.scanFeed = Feed.halted n scan ∧ (mechanismHalted s).mech.printFeed = Feed.halted n print := by
  unfold mechanismHalted driveOff
  split <;> exact ⟨_, _, _, rfl, rfl⟩

theorem unpowered_mechanismHalted (s : State) : Unpowered (headOff (mechanismHalted s)) := by
  obtain ⟨_, _, _, hscan, hprint⟩ := mechanismHalted_feeds s
  exact unpowered_headOff (by rw [hscan]; rfl) (by rw [hprint]; rfl)

theorem powerSafe_emergencyStop {cause : Reason} (hs : s.powerSafe) : (emergencyStop cause s).powerSafe := by
  have law := (calm_mechanismHalted s).powerSafe hs
  have off : (headOff (mechanismHalted s)).powerSafe := by
    have unpowered := unpowered_mechanismHalted s
    rw [headOff_eq] at unpowered ⊢
    exact unpowered.powerSafe law.dozeHasNoJob law.dozeFromStandby law.fourSlots
  have told := (kept_stopTold cause s).powerSafe off
  rw [emergencyStop_eq]
  exact powerSafe_ite (powerSafe_headOn told) told

/-! ## Settings in effect (R131, R147, R160, R185) -/

section
variable (hs : s.powerSafe)
include hs

theorem powerSafe_settingsEffect {low : Nat} : (settingsEffect low s).powerSafe := by
  have counted : (if s.settings.lowWater = low then s else lowAfterSetting s).powerSafe :=
    powerSafe_ite (fun _ => hs) ((kept_lowAfterSetting (Kept.refl s)).powerSafe hs)
  have currents := powerSafe_currentsNow (m := .print) (powerSafe_currentsNow (m := .scan) counted)
  have idle := fun {c : Prop} [Decidable c] => powerSafe_ite (c := c) (fun _ => powerSafe_enterStandby currents) currents
  exact powerSafe_advance ((calm_silenceNow (Calm.refl _)).powerSafe idle)

/-! ## The sensors and the cutter (R82, R134 to R139) -/

theorem powerSafe_sensed {c : WakeCauses} : (sensed c s).powerSafe :=
  powerSafe_wakeCause ((kept_raiseSensor (Kept.refl s)).powerSafe hs)

theorem powerSafe_coverOpens : (coverOpens s).powerSafe :=
  powerSafe_ite (fun _ => powerSafe_emergencyStop ((kept_raise (Kept.refl s)).powerSafe hs)) ((kept_raiseSensor (Kept.refl s)).powerSafe hs)

theorem powerSafe_coverCloses : (coverCloses s).powerSafe :=
  (kept_raiseSensor (Kept.refl _)).powerSafe (powerSafe_ite (powerSafe_headOn hs) hs)

theorem powerSafe_cover {opened : Bool} {c : WakeCauses} :
    (wakeCause c (if opened then coverOpens s else coverCloses s)).powerSafe :=
  powerSafe_wakeCause (powerSafe_ite (fun _ => powerSafe_coverOpens hs) (powerSafe_coverCloses hs))

theorem powerSafe_docRead {sheet : Bool} : (if sheet then sheetArrives (abandonCalibration s) else sheetLeaves s).powerSafe :=
  powerSafe_ite (fun _ => ((calm_abandonCalibration (Calm.refl s)).kept (kept_sheetArrives (Kept.refl _))).powerSafe hs)
    ((kept_sheetLeaves (Kept.refl s)).powerSafe hs)

theorem powerSafe_cycleTimesOut : (cycleTimesOut s).powerSafe := by
  have jam : (raise 2 cutterJam s).powerSafe := (kept_raise (Kept.refl s)).powerSafe hs
  refine powerSafe_ite (fun _ => ?_) (powerSafe_ite (fun _ => powerSafe_emergencyStop jam) ((kept_quietJam (Kept.refl _)).powerSafe jam))
  exact ((calm_onStart (Calm.refl s)).kept (kept_driveOff (Kept.refl _))).powerSafe hs

/-! ## The head and the motors (R104, R124, R131, R132) -/

/-- R104: the settling is counted from HEADPWR on. -/
theorem powerSafe_headReady (h : headReadyDue s = true) : (s.onEnergy (fun e => { e with ready := true })).powerSafe := by
  have head : s.power.headPower = true := by
    cases hh : s.power.headSince with
    | none => simp [headReadyDue, hh] at h
    | some _ => rw [Power.headPower, hh]; rfl
  exact { hs with
    readyNeedsHead := fun _ => head, scanNeedsReady := fun _ => rfl, printNeedsReady := fun _ => rfl, strobeNeedsReady := fun _ => rfl }

omit hs in
theorem ready_of_motionBeginDue {m : Motor} (h : motionBeginDue s m = true) : s.energy.ready = true := by
  simp only [motionBeginDue, motionDue, Bool.and_eq_true] at h
  obtain ⟨⟨⟨-, hr⟩, -⟩, -⟩ := h
  exact hr

theorem ready_of_stepDue {m : Motor} (h : stepDue s m = true) : s.energy.ready = true := by
  simp only [stepDue, Bool.and_eq_true, decide_eq_true_eq] at h
  obtain ⟨⟨⟨⟨-, hrun⟩, -⟩, -⟩, -⟩ := h
  exact ready_of_energized hs (m := m) (by rw [hrun]; decide)

theorem ready_of_energizingDue {m : Motor} (h : energizingDue s m = true) : s.energy.ready = true := by
  simp only [energizingDue, Bool.and_eq_true, decide_eq_true_eq] at h
  obtain ⟨hc, -⟩ := h
  exact ready_of_energized hs (m := m) (by rw [hc]; decide)

/-! ## DOZE and the resets (R149, R150, R164) -/

/-- R149: the doze count runs in STANDBY, with no job. -/
theorem powerSafe_dozeExpires (h : dozeExpired s = true) : (enterDoze s).powerSafe := by
  simp only [dozeExpired, dozeRuns, Bool.and_eq_true, decide_eq_true_eq] at h
  obtain ⟨⟨⟨⟨⟨⟨⟨-, hm⟩, -⟩, hj⟩, -⟩, -⟩, -⟩, -⟩ := h
  exact powerSafe_enterDoze hs (by rw [hm]; decide) hj

omit hs in
theorem powerSafe_resetBlocks (kind : ResetKind) (s : State) : (resetBlocks kind s).powerSafe :=
  (calm_of_eq (s := State.reset) (t := resetBlocks kind s) rfl rfl rfl rfl rfl rfl rfl).powerSafe reset_powerSafe

/-- R150, R197: the REPLY of a MODE-SET DOZE is sent in STANDBY, with no job. -/
theorem powerSafe_replySent : (replySent s).powerSafe := by
  have sent : Kept s (transmitNext (s.onLink (fun l => { l with reply := none }))) :=
    kept_transmitNext (kept_onLink (fun _ => rfl) (fun _ => rfl) (Kept.refl s))
  refine powerSafe_ite (fun _ => powerSafe_resetBlocks .restart s) (powerSafe_ite (fun hd => ?_) (sent.powerSafe hs))
  obtain ⟨hm, hj⟩ := (sent.powerSafe hs).dozeFromStandby hd
  exact powerSafe_enterDoze (sent.powerSafe hs) (by rw [hm]; decide) hj

end

end Sys2Proof.Machine
end

section
/-! The commands keep the power law, and so does every step (O37). -/

namespace Sys2Proof.Machine

-- One theorem at a time, as in the tests: a thread for each would exceed the memory allowed.
set_option Elab.async false

variable {s t u : State}

/-! ## The verdicts of the commands (R195, R196) -/

/-- The power law holds of what a verdict of DONE leaves. -/
def Verdict.powerSafe (v : Verdict) : Prop := ∀ r, v = .ok r → r.1.powerSafe

theorem Verdict.powerSafe_ok {data : List Byte} (h : s.powerSafe) : Verdict.powerSafe (.ok (s, data)) := fun _ hr => by cases hr; exact h
theorem Verdict.powerSafe_error {a : Answer} : Verdict.powerSafe (.error a) := fun _ hr => nomatch hr

theorem Verdict.powerSafe_ite {c : Prop} [Decidable c] {a b : Verdict} (ha : Verdict.powerSafe a) (hb : Verdict.powerSafe b) :
    Verdict.powerSafe (if c then a else b) := by
  split
  exacts [ha, hb]

/-- A check that refuses, or what follows it. -/
theorem Verdict.powerSafe_unless {c : Prop} [Decidable c] {a : Answer} {v : Verdict} (hv : ¬c → Verdict.powerSafe v) :
    Verdict.powerSafe (if c then .error a else v) := by
  split
  · exact Verdict.powerSafe_error
  · next h => exact hv h

/-- R195: a command is taken in ACTIVE or STANDBY, no DOZE being accepted. -/
theorem intakeOpen_spec (h : intakeOpen s = true) :
    (s.power.mode = .active ∨ s.power.mode = .standby) ∧ s.link.dozeAccepted = false := by
  simp only [intakeOpen, Bool.and_eq_true, Bool.or_eq_true, decide_eq_true_eq, Bool.not_eq_true'] at h
  obtain ⟨⟨⟨⟨-, hm⟩, -⟩, hd⟩, -⟩ := h
  exact ⟨hm, hd⟩

section
variable (hs : s.powerSafe)
include hs

theorem powerSafe_event {due : Bool} {effect : State → State} (ht : event due effect s = .next t)
    (h : due = true → (effect s).powerSafe) : t.powerSafe := by
  rcases event_cases ht with ⟨hd, rfl⟩ | ⟨-, rfl⟩
  exacts [(calm_settle (Calm.refl _)).powerSafe (h hd), hs]

/-- An event that gains nothing of what the law reads. -/
theorem powerSafe_calmEvent {due : Bool} {effect : State → State} (ht : event due effect s = .next t)
    (h : Calm s (effect s)) : t.powerSafe := powerSafe_event hs ht fun _ => h.powerSafe hs

theorem powerSafe_jobEvent {due : Bool} {effect : State → State} (ht : jobEvent due effect s = .next t)
    (h : due = true → (effect s).powerSafe) : t.powerSafe := powerSafe_event hs ht fun hd => powerSafe_advance (h hd)

theorem powerSafe_calmJobEvent {due : Bool} {effect : State → State} (ht : jobEvent due effect s = .next t)
    (h : Calm s (effect s)) : t.powerSafe := powerSafe_jobEvent hs ht fun _ => h.powerSafe hs

/-- R195: a command step keeps the law where its verdict does. -/
theorem powerSafe_command {i : Instr} {judge : State → Verdict} (ht : command i judge s = .next t)
    (h : ∀ v, intakeOpen v = true → v.powerSafe → Verdict.powerSafe (judge v)) : t.powerSafe := by
  refine powerSafe_event hs ht fun htaken => ?_
  have released : (releaseCommand s).powerSafe := (kept_releaseCommand (Kept.refl s)).powerSafe hs
  have hopen : intakeOpen (releaseCommand s) = true := (Bool.and_eq_true_iff.1 htaken).1
  have judged := h _ hopen released
  revert judged
  generalize judge (releaseCommand s) = v
  intro judged
  cases v with
  | ok r => exact (kept_placeReply (Kept.refl _)).powerSafe (judged r rfl)
  | error a => exact (kept_placeReply (Kept.refl _)).powerSafe released

/-- A command that answers with data alone (R195). -/
theorem powerSafe_report {i : Instr} {data : State → List Byte} (ht : command i (fun s => .ok (s, data s)) s = .next t) : t.powerSafe :=
  powerSafe_command hs ht fun _ _ h => Verdict.powerSafe_ok h

/-- A verdict of DONE on what gains nothing. -/
theorem Verdict.powerSafe_calm {data : List Byte} (h : Calm s t) : Verdict.powerSafe (.ok (t, data)) := Verdict.powerSafe_ok (h.powerSafe hs)

theorem Verdict.powerSafe_advance {data : List Byte} (h : Kept s t) : Verdict.powerSafe (.ok (advance t, data)) :=
  Verdict.powerSafe_ok (Machine.powerSafe_advance (h.powerSafe hs))

/-! ## The documents (R24 to R29) -/

theorem powerSafe_docCreate {o r w : Byte} : Verdict.powerSafe (docCreate o r w s) := by
  unfold docCreate
  split
  · split
    exacts [Verdict.powerSafe_calm hs (kept_onDoc (Kept.refl s)).calm, Verdict.powerSafe_error]
  all_goals exact Verdict.powerSafe_error

theorem powerSafe_docClose {n : Nat} : Verdict.powerSafe (docClose n s) :=
  Verdict.powerSafe_unless fun _ => Verdict.powerSafe_unless fun _ => Verdict.powerSafe_advance hs (kept_onDoc (Kept.refl s))

theorem powerSafe_docDelete {n : Nat} : Verdict.powerSafe (docDelete n s) :=
  Verdict.powerSafe_unless fun _ => Verdict.powerSafe_unless fun _ => Verdict.powerSafe_advance hs (kept_deleteDocument (Kept.refl s))

theorem powerSafe_pageDrop {n i : Nat} : Verdict.powerSafe (pageDrop n i s) := by
  unfold pageDrop
  split
  · exact Verdict.powerSafe_error
  · exact Verdict.powerSafe_unless fun _ => Verdict.powerSafe_advance hs (kept_erasePage (Kept.refl s))

/-! ## The job commands (R49 to R78) -/

/-- R52: a job starts in ACTIVE or STANDBY, no DOZE being accepted. -/
theorem powerSafe_fillSlot {k : Nat} {j : Job} (ho : intakeOpen s = true) : (fillSlot k j s).powerSafe := by
  obtain ⟨hmode, haccepted⟩ := intakeOpen_spec ho
  have awake : ¬(s.power.mode = .doze ∨ s.power.mode = .waking) := by rcases hmode with h | h <;> simp [h]
  have filled : (s.onJobs (fun w => { w with
      slots := w.slots.set k (some j), nextId := j.id % 255 + 1, startCount := (w.startCount + 1) % 65536 })).powerSafe := { hs with
    dozeHasNoJob := fun hm => absurd hm awake
    dozeFromStandby := fun hd => Bool.noConfusion (haccepted.symm.trans hd)
    fourSlots := List.length_set.trans hs.fourSlots }
  exact (kept_joinLists (kept_onDoc (Kept.refl _))).powerSafe filled

theorem powerSafe_startJob {p : StartParams} (ho : intakeOpen s = true) : Verdict.powerSafe (startJob p s) := by
  unfold startJob
  split
  · exact Verdict.powerSafe_error
  refine Verdict.powerSafe_unless fun _ => ?_
  split
  · exact Verdict.powerSafe_error
  · exact Verdict.powerSafe_ok (Machine.powerSafe_advance (powerSafe_fillSlot hs ho))

theorem powerSafe_takeAnswer {k : Nat} {j : Job} {b : Boundary} {c : Choice} : (takeAnswer k j b c s).powerSafe :=
  powerSafe_ite (fun _ => (kept_raiseJob (Kept.refl s)).powerSafe hs) (powerSafe_ite (fun _ => hs)
    (Machine.powerSafe_advance ((kept_carryChoice (kept_onJob (Kept.refl s))).powerSafe hs)))

theorem powerSafe_answerJob {id c : Nat} : Verdict.powerSafe (answerJob id c s) := by
  unfold answerJob
  split
  · exact Verdict.powerSafe_error
  split
  · exact Verdict.powerSafe_error
  refine Verdict.powerSafe_ite (Verdict.powerSafe_advance hs (kept_endJob (Kept.refl s))) (Verdict.powerSafe_unless fun _ => ?_)
  split
  · exact Verdict.powerSafe_unless fun _ => Verdict.powerSafe_ok (powerSafe_takeAnswer hs)
  · exact Verdict.powerSafe_error

theorem powerSafe_holdJob {id : Nat} : Verdict.powerSafe (holdJob id s) := by
  unfold holdJob
  split
  · exact Verdict.powerSafe_error
  · exact Verdict.powerSafe_ite (Verdict.powerSafe_advance hs (kept_stopJob (Kept.refl s))) Verdict.powerSafe_error

theorem powerSafe_resumeJob {id : Nat} : Verdict.powerSafe (resumeJob id s) := by
  unfold resumeJob
  split
  · exact Verdict.powerSafe_error
  · exact Verdict.powerSafe_ite (Verdict.powerSafe_advance hs (kept_resumed (Kept.refl s))) Verdict.powerSafe_error

theorem powerSafe_abortJob {id : Nat} : Verdict.powerSafe (abortJob id s) := by
  unfold abortJob
  split
  · exact Verdict.powerSafe_error
  · exact Verdict.powerSafe_advance hs (kept_endJob (Kept.refl s))

theorem powerSafe_sendCredit {id n : Nat} : Verdict.powerSafe (sendCredit id n s) := by
  unfold sendCredit
  split
  · exact Verdict.powerSafe_error
  · exact Verdict.powerSafe_unless fun _ => Verdict.powerSafe_advance hs (kept_onJob (Kept.refl s))

/-! ## The mechanism, the modes, the settings (R96 to R99, R141, R142, R153, R183 to R189) -/

/-- R53, R146: an engine is taken and ACTIVE entered by a command. -/
theorem powerSafe_activeTaken {e : Engine} {x : Holder} (ho : intakeOpen s = true) : (enterActive (takeEngine e x s)).powerSafe := by
  have calm : Calm s (takeEngine e x s) := calm_takeEngine (Calm.refl s)
  exact powerSafe_enterActive (calm.powerSafe hs) (calm.doze.trans (intakeOpen_spec ho).2)

theorem powerSafe_startCalibration (ho : intakeOpen s = true) : (startCalibration s).powerSafe :=
  (kept_beginCalibration (Kept.refl _)).powerSafe (powerSafe_activeTaken hs ho)

theorem powerSafe_startEject (ho : intakeOpen s = true) : (startEject s).powerSafe := by
  unfold startEject
  exact (kept_onScan (Kept.refl _)).powerSafe (powerSafe_activeTaken hs ho)

theorem powerSafe_startAdvance {n : Nat} (ho : intakeOpen s = true) : (startAdvance n s).powerSafe := by
  unfold startAdvance
  have counted : ∀ {v : State}, Kept v (v.onMech (fun x => { x with advanced := 0 })) := kept_onMech (fun _ => rfl) (fun _ => rfl) (Kept.refl _)
  exact (kept_enqueue counted).powerSafe (powerSafe_activeTaken hs ho)

theorem powerSafe_startCut (ho : intakeOpen s = true) : (startCut s).powerSafe :=
  (kept_beginCycle (Kept.refl _)).powerSafe (powerSafe_activeTaken hs ho)

/-- R153: MODE-SET DOZE is accepted in STANDBY, with no job in a slot. -/
theorem powerSafe_modeDoze (ho : intakeOpen s = true) : Verdict.powerSafe (modeDoze s) := by
  refine Verdict.powerSafe_unless fun hrefused => Verdict.powerSafe_ok ?_
  simp only [not_or, not_not] at hrefused
  obtain ⟨hactive, hslots, -⟩ := hrefused
  exact { hs with dozeFromStandby := fun _ => ⟨(intakeOpen_spec ho).1.resolve_left hactive, noJobs_of_usedSlots hs.fourSlots hslots⟩ }

theorem powerSafe_modeSet {m : Nat} (ho : intakeOpen s = true) : Verdict.powerSafe (modeSet m s) := by
  unfold modeSet
  split
  · exact Verdict.powerSafe_ok (powerSafe_enterActive ((calm_onPower (Calm.refl s) rfl rfl).powerSafe hs) (intakeOpen_spec ho).2)
  · exact Verdict.powerSafe_ite (Verdict.powerSafe_ok hs) (Verdict.powerSafe_unless fun _ => Verdict.powerSafe_ok (powerSafe_enterStandby hs))
  · exact powerSafe_modeDoze hs ho
  · exact Verdict.powerSafe_ok hs
  · exact Verdict.powerSafe_error

theorem powerSafe_alarmSet {n : Nat} : Verdict.powerSafe (alarmSet n s) :=
  Verdict.powerSafe_unless fun _ => Verdict.powerSafe_ite (Verdict.powerSafe_calm hs (calm_onWake (Calm.refl s)))
    (Verdict.powerSafe_calm hs (calm_onWake (Calm.refl s)))

theorem powerSafe_settingSet {id v : Nat} : Verdict.powerSafe (settingSet id v s) := by
  unfold settingSet
  split
  · exact Verdict.powerSafe_error
  · exact Verdict.powerSafe_unless fun _ => Verdict.powerSafe_unless fun _ => Verdict.powerSafe_unless fun _ =>
      Verdict.powerSafe_ok (powerSafe_settingsEffect ((calm_onSettings (Calm.refl s)).powerSafe hs))

theorem powerSafe_settingsDefault {o : Nat} : Verdict.powerSafe (settingsDefault o s) := by
  have restored : Calm s (s.onSettings Settings.restored) := calm_onSettings (Calm.refl s)
  have erased : ∀ {f}, Calm s (beginStore .default ((s.onSettings Settings.restored).onSettings f)) :=
    calm_onSettings (calm_onSettings restored)
  exact Verdict.powerSafe_unless fun _ => Verdict.powerSafe_unless fun _ => Verdict.powerSafe_unless fun _ => Verdict.powerSafe_unless fun _ =>
    Verdict.powerSafe_ite (Verdict.powerSafe_ok (powerSafe_settingsEffect (restored.powerSafe hs)))
      (Verdict.powerSafe_ok (powerSafe_settingsEffect (erased.powerSafe hs)))

end

end Sys2Proof.Machine
end

section
/-! Every step keeps the power law (O37). -/

namespace Sys2Proof.Machine

-- One theorem at a time, as in the tests: a thread for each would exceed the memory allowed.
set_option Elab.async false

variable {s t : State}

/-- R24 to R209: every step of the opcode table. -/
theorem powerSafe_exec {i : Instr} (hs : s.powerSafe) (ht : exec i s = .next t) : t.powerSafe := by
  cases i with
  | ping _ _ _ _ =>
    rw [exec_ping] at ht
    exact powerSafe_report hs ht
  | getEvents _ =>
    rw [exec_getEvents] at ht
    exact powerSafe_command hs ht fun v _ h => Verdict.powerSafe_ite (Verdict.powerSafe_calm h (kept_onEvents (Kept.refl v)).calm)
      (Verdict.powerSafe_ite (Verdict.powerSafe_calm h (kept_onEvents (Kept.refl v)).calm) Verdict.powerSafe_error)
  | eventMask _ =>
    rw [exec_eventMask] at ht
    exact powerSafe_command hs ht fun v _ h => Verdict.powerSafe_calm h (kept_onEvents (Kept.refl v)).calm
  | docCreate _ _ _ =>
    rw [exec_docCreate] at ht
    exact powerSafe_command hs ht fun _ _ h => powerSafe_docCreate h
  | docClose _ =>
    rw [exec_docClose] at ht
    exact powerSafe_command hs ht fun _ _ h => powerSafe_docClose h
  | docDelete _ =>
    rw [exec_docDelete] at ht
    exact powerSafe_command hs ht fun _ _ h => powerSafe_docDelete h
  | docInfo _ =>
    rw [exec_docInfo] at ht
    exact powerSafe_command hs ht fun _ _ h => Verdict.powerSafe_ite (Verdict.powerSafe_ok h) Verdict.powerSafe_error
  | docList =>
    rw [exec_docList] at ht
    exact powerSafe_report hs ht
  | pageInfo _ _ =>
    rw [exec_pageInfo] at ht
    refine powerSafe_command hs ht fun _ _ h => ?_
    split
    exacts [Verdict.powerSafe_ok h, Verdict.powerSafe_error]
  | pageDrop _ _ =>
    rw [exec_pageDrop] at ht
    exact powerSafe_command hs ht fun _ _ h => powerSafe_pageDrop h
  | storeStatus =>
    rw [exec_storeStatus] at ht
    exact powerSafe_report hs ht
  | jobStart _ _ _ _ _ _ _ _ =>
    rw [exec_jobStart] at ht
    exact powerSafe_command hs ht fun _ ho h => powerSafe_startJob h ho
  | jobAnswer _ _ =>
    rw [exec_jobAnswer] at ht
    exact powerSafe_command hs ht fun _ _ h => powerSafe_answerJob h
  | jobHold _ =>
    rw [exec_jobHold] at ht
    exact powerSafe_command hs ht fun _ _ h => powerSafe_holdJob h
  | jobResume _ =>
    rw [exec_jobResume] at ht
    exact powerSafe_command hs ht fun _ _ h => powerSafe_resumeJob h
  | jobAbort _ =>
    rw [exec_jobAbort] at ht
    exact powerSafe_command hs ht fun _ _ h => powerSafe_abortJob h
  | jobStatus _ =>
    rw [exec_jobStatus] at ht
    refine powerSafe_command hs ht fun _ _ h => ?_
    split
    exacts [Verdict.powerSafe_ok h, Verdict.powerSafe_error]
  | sendCredit _ _ =>
    rw [exec_sendCredit] at ht
    exact powerSafe_command hs ht fun v _ h => powerSafe_sendCredit ((kept_onFaults (Kept.refl v)).powerSafe h)
  | scanCalibrate =>
    rw [exec_scanCalibrate] at ht
    exact powerSafe_command hs ht fun _ ho h => Verdict.powerSafe_unless fun _ => Verdict.powerSafe_ok (powerSafe_startCalibration h ho)
  | docEject =>
    rw [exec_docEject] at ht
    exact powerSafe_command hs ht fun _ ho h => Verdict.powerSafe_unless fun _ => Verdict.powerSafe_ok (powerSafe_advance (powerSafe_startEject h ho))
  | paperAdvance _ =>
    rw [exec_paperAdvance] at ht
    exact powerSafe_command hs ht fun _ ho h => Verdict.powerSafe_unless fun _ => Verdict.powerSafe_unless fun _ =>
      Verdict.powerSafe_ok (powerSafe_startAdvance h ho)
  | cut =>
    rw [exec_cut] at ht
    exact powerSafe_command hs ht fun _ ho h => Verdict.powerSafe_unless fun _ => Verdict.powerSafe_ok (powerSafe_startCut h ho)
  | sensorRead =>
    rw [exec_sensorRead] at ht
    exact powerSafe_report hs ht
  | modeSet _ =>
    rw [exec_modeSet] at ht
    exact powerSafe_command hs ht fun _ ho h => powerSafe_modeSet h ho
  | alarmSet _ =>
    rw [exec_alarmSet] at ht
    exact powerSafe_command hs ht fun _ _ h => powerSafe_alarmSet h
  | alarmRead =>
    rw [exec_alarmRead] at ht
    exact powerSafe_report hs ht
  | settingGet _ =>
    rw [exec_settingGet] at ht
    refine powerSafe_command hs ht fun _ _ h => ?_
    split
    exacts [Verdict.powerSafe_ok h, Verdict.powerSafe_error]
  | settingSet _ _ =>
    rw [exec_settingSet] at ht
    exact powerSafe_command hs ht fun _ _ h => powerSafe_settingSet h
  | settingsStore =>
    rw [exec_settingsStore] at ht
    exact powerSafe_command hs ht fun v _ h => Verdict.powerSafe_unless fun _ => Verdict.powerSafe_unless fun _ =>
      Verdict.powerSafe_calm h (calm_onSettings (Calm.refl v))
  | settingsDefault _ =>
    rw [exec_settingsDefault] at ht
    exact powerSafe_command hs ht fun _ _ h => powerSafe_settingsDefault h
  | settingsProtect =>
    rw [exec_settingsProtect] at ht
    exact powerSafe_command hs ht fun v _ h => Verdict.powerSafe_unless fun _ =>
      Verdict.powerSafe_calm h (calm_onSettings (calm_onSettings (Calm.refl v)))
  | bootReport =>
    rw [exec_bootReport] at ht
    exact powerSafe_report hs ht
  | clearCauses =>
    rw [exec_clearCauses] at ht
    exact powerSafe_command hs ht fun v _ h => Verdict.powerSafe_calm h (calm_onSilence (calm_onStart (Calm.refl v)))
  | restart =>
    rw [exec_restart] at ht
    exact powerSafe_command hs ht fun v _ h => Verdict.powerSafe_unless fun _ => Verdict.powerSafe_calm h (calm_onLink (Calm.refl v) rfl)
  | unknownCommand _ =>
    rw [exec_unknownCommand] at ht
    exact powerSafe_calmEvent hs ht (kept_placeReply (kept_releaseCommand (Kept.refl s))).calm
  | frameReceived =>
    rw [exec_frameReceived] at ht
    exact powerSafe_calmEvent hs ht (calm_judgeFrame (Calm.refl s))
  | frameGapTimeout =>
    rw [exec_frameGapTimeout] at ht
    exact powerSafe_calmEvent hs ht (kept_dropGap (Kept.refl s)).calm
  | dataInRouting =>
    rw [exec_dataInRouting] at ht
    refine powerSafe_calmEvent hs ht ?_
    split
    · exact (kept_routeFrame (kept_onLink (f := fun l => { l with inbound := l.inbound.tail }) (fun _ => rfl) (fun _ => rfl) (Kept.refl s))).calm
    · exact Calm.refl s
  | receivedLineRecord =>
    rw [exec_receivedLineRecord] at ht
    exact powerSafe_calmJobEvent hs ht (kept_receiveLine (Kept.refl s)).calm
  | receivedPageBegin =>
    rw [exec_receivedPageBegin] at ht
    exact powerSafe_calmJobEvent hs ht (kept_receiveBegin (Kept.refl s)).calm
  | receivedPageEnd =>
    rw [exec_receivedPageEnd] at ht
    exact powerSafe_calmJobEvent hs ht (kept_receiveEnd (Kept.refl s)).calm
  | undelimitableItem =>
    rw [exec_undelimitableItem] at ht
    exact powerSafe_calmJobEvent hs ht (kept_receiveLost (Kept.refl s)).calm
  | replySent =>
    rw [exec_replySent] at ht
    exact powerSafe_event hs ht fun _ => powerSafe_replySent hs
  | dataOutSent _ =>
    rw [exec_dataOutSent] at ht
    exact powerSafe_calmJobEvent hs ht (kept_dataOutSent (Kept.refl s)).calm
  | scanLineEntryAdmit =>
    rw [exec_scanLineEntryAdmit] at ht
    exact powerSafe_calmJobEvent hs ht (kept_admitScanLine (Kept.refl s)).calm
  | scanLineCaptured _ =>
    rw [exec_scanLineCaptured] at ht
    exact powerSafe_calmEvent hs ht (kept_endCapture (Kept.refl s)).calm
  | spanCodeLine =>
    rw [exec_spanCodeLine] at ht
    exact powerSafe_calmEvent hs ht (kept_codeCaptured (Kept.refl s)).calm
  | scanInTakeRecord =>
    rw [exec_scanInTakeRecord] at ht
    exact powerSafe_calmJobEvent hs ht (kept_takeScanned (Kept.refl s)).calm
  | lampWarm =>
    rw [exec_lampWarm] at ht
    exact powerSafe_calmJobEvent hs ht (kept_lampWarmed (Kept.refl s)).calm
  | calibrationCaptureEnd _ =>
    rw [exec_calibrationCaptureEnd] at ht
    exact powerSafe_calmJobEvent hs ht (calm_endCalibrationLine (Calm.refl s))
  | motionBegin _ =>
    rw [exec_motionBegin] at ht
    exact powerSafe_jobEvent hs ht fun hd => powerSafe_beginMotion hs (ready_of_motionBeginDue hd)
  | feedStep _ =>
    rw [exec_feedStep] at ht
    exact powerSafe_jobEvent hs ht fun hd => powerSafe_takeStep hs (ready_of_stepDue hs hd)
  | motorRest _ =>
    rw [exec_motorRest] at ht
    exact powerSafe_calmJobEvent hs ht (kept_comeToRest (Kept.refl s)).calm
  | energizingEnd _ =>
    rw [exec_energizingEnd] at ht
    exact powerSafe_jobEvent hs ht fun hd => powerSafe_endEnergizing hs (ready_of_energizingDue hs hd)
  | holdDelayExpiry _ =>
    rw [exec_holdDelayExpiry] at ht
    exact powerSafe_event hs ht (powerSafe_holdDelay hs)
  | offDelayExpiry _ =>
    rw [exec_offDelayExpiry] at ht
    exact powerSafe_event hs ht (powerSafe_offDelay hs)
  | pwmPeriodEnd _ =>
    rw [exec_pwmPeriodEnd] at ht
    exact powerSafe_calmEvent hs ht (kept_endPeriod (Kept.refl s)).calm
  | docEntryChange _ =>
    rw [exec_docEntryChange] at ht
    exact powerSafe_jobEvent hs ht fun _ => powerSafe_sensed ((calm_onLevels (Calm.refl s)).powerSafe hs)
  | docReadChange _ =>
    rw [exec_docReadChange] at ht
    exact powerSafe_jobEvent hs ht fun _ => powerSafe_docRead ((calm_onLevels (Calm.refl s)).powerSafe hs)
  | paperChange _ =>
    rw [exec_paperChange] at ht
    exact powerSafe_jobEvent hs ht fun _ => powerSafe_sensed ((calm_onLevels (Calm.refl s)).powerSafe hs)
  | coverChange _ =>
    rw [exec_coverChange] at ht
    exact powerSafe_jobEvent hs ht fun _ => powerSafe_cover ((calm_onLevels (Calm.refl s)).powerSafe hs)
  | cutterHomeChange _ =>
    rw [exec_cutterHomeChange] at ht
    exact powerSafe_calmJobEvent hs ht (calm_homeChanged (Calm.refl s))
  | wakeKeyChange _ =>
    rw [exec_wakeKeyChange] at ht
    exact powerSafe_event hs ht fun _ => 
      powerSafe_ite (fun _ => powerSafe_wakeCause ((calm_onLevels (Calm.refl s)).powerSafe hs)) ((calm_onLevels (Calm.refl s)).powerSafe hs)
  | cutterTimeout =>
    rw [exec_cutterTimeout] at ht
    exact powerSafe_jobEvent hs ht fun _ => powerSafe_cycleTimesOut hs
  | printLineOffer _ _ _ =>
    rw [exec_printLineOffer] at ht
    exact powerSafe_calmJobEvent hs ht (kept_offerLine (kept_onFaults (Kept.refl s))).calm
  | strobeSubpulseEnd =>
    rw [exec_strobeSubpulseEnd] at ht
    exact powerSafe_calmJobEvent hs ht (calm_endSubpulse (Calm.refl s))
  | headTimerLimit =>
    rw [exec_headTimerLimit] at ht
    exact powerSafe_calmJobEvent hs ht (calm_endSubpulse (Calm.refl s))
  | headReady =>
    rw [exec_headReady] at ht
    exact powerSafe_event hs ht (powerSafe_headReady hs)
  | converterTimedSample _ _ =>
    rw [exec_converterTimedSample] at ht
    exact powerSafe_calmJobEvent hs ht (kept_onEnergy (f := fun e => { e with lastTimed := some s.now }) (fun _ => rfl) (fun _ => rfl)
      (kept_takeSamples (Kept.refl s))).calm
  | idleCountExpiry =>
    rw [exec_idleCountExpiry] at ht
    exact powerSafe_event hs ht fun _ => powerSafe_enterStandby hs
  | dozeCountExpiry =>
    rw [exec_dozeCountExpiry] at ht
    exact powerSafe_event hs ht (powerSafe_dozeExpires hs)
  | linkReceiveEdge =>
    rw [exec_linkReceiveEdge] at ht
    exact powerSafe_event hs ht fun _ => powerSafe_wakeCause hs
  | wakingEnd =>
    rw [exec_wakingEnd] at ht
    exact powerSafe_event hs ht fun hd => powerSafe_reachStandby hs (of_decide_eq_true (Bool.and_eq_true_iff.1 hd).1)
  | ringPulse =>
    rw [exec_ringPulse] at ht
    exact powerSafe_event hs ht fun _ => (calm_takePulse (Calm.refl _)).powerSafe (powerSafe_ringOverdue hs)
  | ringBurstEnd =>
    rw [exec_ringBurstEnd] at ht
    exact powerSafe_event hs ht fun _ => powerSafe_judgeBurst hs
  | ringGapExpiry =>
    rw [exec_ringGapExpiry] at ht
    exact powerSafe_calmEvent hs ht (calm_ringStops (Calm.refl s))
  | alarmExpiry =>
    rw [exec_alarmExpiry] at ht
    exact powerSafe_event hs ht fun _ => powerSafe_alarmExpires hs
  | silenceFirstExpiry =>
    rw [exec_silenceFirstExpiry] at ht
    exact powerSafe_calmJobEvent hs ht (calm_firstExpiry (Calm.refl s))
  | silenceSecondExpiry =>
    rw [exec_silenceSecondExpiry] at ht
    exact powerSafe_calmJobEvent hs ht (calm_secondExpiry (Calm.refl s))
  | hostrstPulseEnd =>
    rw [exec_hostrstPulseEnd] at ht
    exact powerSafe_calmEvent hs ht (calm_onLink (calm_onSilence (Calm.refl s)) rfl)
  | batteryCheck _ =>
    rw [exec_batteryCheck] at ht
    exact powerSafe_calmEvent hs ht (calm_readBattery (Calm.refl s))
  | powerOnReset =>
    rw [exec_powerOnReset] at ht
    exact powerSafe_event hs ht fun _ => (calm_onStart (Calm.refl _)).powerSafe (powerSafe_resetBlocks .powerOn s)
  | supplyDropReset =>
    rw [exec_supplyDropReset] at ht
    exact powerSafe_event hs ht fun _ => (calm_onStart (Calm.refl _)).powerSafe (powerSafe_resetBlocks _ s)
  | supplyBelowPowerOff =>
    rw [exec_supplyBelowPowerOff] at ht
    exact powerSafe_event hs ht fun _ => powerSafe_resetBlocks .powerOn s
  | pinReset =>
    rw [exec_pinReset] at ht
    exact powerSafe_event hs ht fun _ => powerSafe_resetBlocks .pin s
  | resetEnd _ _ _ _ =>
    rw [exec_resetEnd] at ht
    exact powerSafe_calmEvent hs ht (calm_of_eq rfl rfl rfl rfl rfl rfl rfl)
  | settingsPhaseEnd _ =>
    rw [exec_settingsPhaseEnd] at ht
    exact powerSafe_calmEvent hs ht (calm_of_eq rfl rfl rfl rfl rfl rfl rfl)
  | memoryPhaseEnd _ _ _ _ =>
    rw [exec_memoryPhaseEnd] at ht
    exact powerSafe_calmEvent hs ht (calm_onStart (calm_build (Calm.refl s)))
  | mechanismPhaseEnd =>
    rw [exec_mechanismPhaseEnd] at ht
    exact powerSafe_calmEvent hs ht (calm_release (Calm.refl s))
  | settingsStoreEnd _ =>
    rw [exec_settingsStoreEnd] at ht
    refine powerSafe_calmEvent hs ht ?_
    split
    exacts [calm_endStore (Calm.refl s), Calm.refl s]
  | linkByteReceived _ _ =>
    rw [exec_linkByteReceived] at ht
    exact powerSafe_calmEvent hs ht ((calm_beforeByte (Calm.refl s)).kept (kept_receiveByte (Kept.refl _)))
  | mechanismLevelsTaken _ =>
    rw [exec_mechanismLevelsTaken] at ht
    exact powerSafe_calmEvent hs ht (calm_beginStartCalibration (calm_beginHoming (calm_onStart (calm_onLevels (Calm.refl s)))))

/-- Settles O37: HEADPWR comes with ACTIVE alone, motions and strobes begin under READY, and a job starts or is granted where no DOZE is
accepted (`powerSafe_exec`); all else gains nothing of what the law reads (`Calm`). A microsecond of the clock is a step too (log 1). -/
theorem powerSafeKept : Obligations.PowerSafeKept := by
  unfold Obligations.PowerSafeKept
  intro s t hs ht
  unfold step at ht
  split at ht
  · next i rest _ =>
    have dequeued : Calm s (s.onPending fun _ => rest) := calm_of_eq rfl rfl rfl rfl rfl rfl rfl
    exact powerSafe_exec (dequeued.powerSafe hs) ht
  · cases ht
    have later : Calm s (s.onNow fun n => n + 1) := calm_of_eq rfl rfl rfl rfl rfl rfl rfl
    exact later.powerSafe hs

end Sys2Proof.Machine
end

section
/-! The plan of a line (O29). -/

namespace Sys2Proof.Machine

-- One theorem at a time, as in the tests: a thread for each would exceed the memory allowed.
set_option Elab.async false

/-! ## Dots by head block (R106, R107) -/

theorem blackCount_append (l k : Line) : blackCount (l ++ k) = blackCount l + blackCount k := by simp [blackCount]

/-- The head blocks cut the line. -/
theorem sum_headBlocks (l : Line) (n : Nat) :
    ((List.range n).map (fun b => blackCount (headBlock l b))).sum = blackCount (l.take (216 * n)) := by
  induction n with
  | zero => rfl
  | succ n ih =>
    rw [List.range_succ, List.map_append, List.sum_append_nat, ih, Nat.mul_succ, List.take_add, blackCount_append]
    simp [headBlock]

theorem sum_eightBlocks {l : Line} (h : l.length = 1728) :
    ((List.range 8).map (fun b => blackCount (headBlock l b))).sum = blackCount l := by
  rw [sum_headBlocks, List.take_of_length_le h.le]

/-- The new dots of a head block are those of the line that lie in it. -/
theorem freshDots_headBlock (l history : Line) (b : Nat) :
    freshDots (headBlock l b) (headBlock history b) = headBlock (freshDots l history) b := by
  simp only [freshDots, headBlock, List.zip, List.map_zipWith, List.take_zipWith, List.drop_zipWith]

/-- A new dot is black. -/
theorem newDots_le (l history : Line) : newDots l history ≤ blackCount l := by
  unfold newDots freshDots blackCount
  induction l generalizing history with
  | nil => simp
  | cons x xs ih =>
    cases history with
    | nil => simp
    | cons y ys =>
      have := ih ys
      cases x <;> cases y <;> simp <;> omega

theorem blackCount_headBlock_le (l : Line) (b : Nat) : blackCount (headBlock l b) ≤ 216 :=
  (List.length_filter_le _ _).trans (List.length_take_le _ _)

/-! ## The counts of the head blocks (R107) -/

section
variable (l history : Line)

theorem blockCounts_black : (blockCounts l history).map (fun t => t.2.1) = (List.range 8).map (fun b => blackCount (headBlock l b)) := by
  rw [blockCounts, List.map_map]; rfl

theorem blockCounts_fresh :
    (blockCounts l history).map (fun t => t.2.2) = (List.range 8).map (fun b => blackCount (headBlock (freshDots l history) b)) := by
  rw [blockCounts, List.map_map]
  exact List.map_congr_left fun b _ => congrArg blackCount (freshDots_headBlock l history b)

theorem blockCounts_inked : ((blockCounts l history).filter (fun t => decide (0 < t.2.1))).map (fun t => t.1) =
    (List.range 8).filter (fun b => decide (0 < blackCount (headBlock l b))) := by
  rw [blockCounts, List.filter_map, List.map_map]
  exact List.map_id _

variable {l history} in
theorem mem_blockCounts {t : Nat × Nat × Nat} (h : t ∈ blockCounts l history) : t.2.1 ≤ 216 ∧ t.2.2 ≤ t.2.1 := by
  obtain ⟨b, -, rfl⟩ := List.mem_map.1 h
  exact ⟨blackCount_headBlock_le l b, newDots_le _ _⟩

end

/-! ## The groups (R108) -/

/-- R108: a group in progress: it has blocks when it has dots, no more dots than the limit, and no more new dots than dots. -/
structure Group.sound (limit : Nat) (q : Group) : Prop where
  inked : q.blocks = [] ↔ q.dots = 0
  dots : q.dots ≤ limit
  fresh : q.fresh ≤ q.dots

theorem Group.sound.empty (limit : Nat) : Group.sound limit ⟨[], 0, 0⟩ := ⟨⟨fun _ => rfl, fun _ => rfl⟩, Nat.zero_le _, Nat.le_refl _⟩

/-- The counts of a head block: no more dots than the limit, and no more new dots than dots. -/
def countsSound (limit : Nat) (t : Nat × Nat × Nat) : Prop := t.2.1 ≤ limit ∧ t.2.2 ≤ t.2.1

theorem Group.sound.join {limit b n m : Nat} {q : Group} (hq : q.sound limit) (hc : countsSound limit (b, n, m)) (hn : n ≠ 0)
    (hfit : q.blocks = [] ∨ q.dots + n ≤ limit) : Group.sound limit ⟨q.blocks ++ [b], q.dots + n, q.fresh + m⟩ := by
  obtain ⟨hlimit, hm⟩ := hc
  dsimp only at hlimit hm
  have hq0 := hq.inked
  have hfresh := hq.fresh
  refine ⟨by simp; omega, ?_, by dsimp only; omega⟩
  rcases hfit with h | h
  · have := hq0.1 h; dsimp only; omega
  · exact h

theorem Group.sound.single {limit b n m : Nat} (hc : countsSound limit (b, n, m)) (hn : n ≠ 0) : Group.sound limit ⟨[b], n, m⟩ :=
  ⟨by simp [hn], hc.1, hc.2⟩

/-- Each group that is closed has blocks, and keeps the limit. -/
theorem groupBlocks_sound {limit : Nat} {q : Group} {l : List (Nat × Nat × Nat)} (hq : q.sound limit)
    (hl : ∀ t ∈ l, countsSound limit t) : ∀ p ∈ groupBlocks limit q l, p.sound limit ∧ p.blocks ≠ [] := by
  fun_induction groupBlocks limit q l with
  | case1 => simp
  | case2 q h => simp [hq, h]
  | case3 q b m rest ih => exact ih hq fun t ht => hl t (List.mem_cons_of_mem _ ht)
  | case4 q b n m rest hn hfit ih =>
    exact ih (hq.join (hl _ List.mem_cons_self) hn hfit) fun t ht => hl t (List.mem_cons_of_mem _ ht)
  | case5 q b n m rest hn hfull ih =>
    intro p hp
    rcases List.mem_cons.1 hp with rfl | hp
    · exact ⟨hq, fun h => hfull (.inl h)⟩
    · exact ih (.single (hl _ List.mem_cons_self) hn) (fun t ht => hl t (List.mem_cons_of_mem _ ht)) p hp

/-- The groups take every head block with black dots once, in order. -/
theorem groupBlocks_blocks (limit : Nat) (q : Group) (l : List (Nat × Nat × Nat)) :
    ((groupBlocks limit q l).map Group.blocks).flatten =
      q.blocks ++ (l.filter (fun t => decide (0 < t.2.1))).map (fun t => t.1) := by
  fun_induction groupBlocks limit q l with
  | case1 q h => simp [h]
  | case2 q h => simp
  | case3 q b m rest ih => simp [ih]
  | case4 q b n m rest hn hfit ih => simp [ih, Nat.pos_of_ne_zero hn]
  | case5 q b n m rest hn hfull ih => simp [ih, Nat.pos_of_ne_zero hn]

/-- The groups carry all the dots and all the new dots. -/
theorem groupBlocks_sums {limit : Nat} {q : Group} {l : List (Nat × Nat × Nat)} (hq : q.sound limit)
    (hl : ∀ t ∈ l, countsSound limit t) :
    ((groupBlocks limit q l).map Group.dots).sum = q.dots + (l.map (fun t => t.2.1)).sum ∧
    ((groupBlocks limit q l).map Group.fresh).sum = q.fresh + (l.map (fun t => t.2.2)).sum := by
  fun_induction groupBlocks limit q l with
  | case1 q h =>
    have hdots := hq.inked.1 h
    have hfresh := hq.fresh
    simp only [List.map_nil, List.sum_nil]
    omega
  | case2 q h => simp
  | case3 q b m rest ih =>
    obtain ⟨hdots, hfresh⟩ := ih hq fun t ht => hl t (List.mem_cons_of_mem _ ht)
    have hm := (hl _ List.mem_cons_self).2
    simp only [List.map_cons, List.sum_cons, hdots, hfresh]
    dsimp only at hm
    omega
  | case4 q b n m rest hn hfit ih =>
    obtain ⟨hdots, hfresh⟩ := ih (hq.join (hl _ List.mem_cons_self) hn hfit) fun t ht => hl t (List.mem_cons_of_mem _ ht)
    simp only [List.map_cons, List.sum_cons, hdots, hfresh]
    omega
  | case5 q b n m rest hn hfull ih =>
    obtain ⟨hdots, hfresh⟩ := ih (.single (hl _ List.mem_cons_self) hn) fun t ht => hl t (List.mem_cons_of_mem _ ht)
    simp only [List.map_cons, List.sum_cons, hdots, hfresh]
    exact ⟨trivial, trivial⟩

/-! ## The phases and the line time (R111 to R113) -/

/-- R111, R112: the two subpulses share a width of WMAX at most. -/
theorem phaseOf_width {g : Settings} (h : g.historyH ≤ 16) (wv : Nat) (q : Group) : (phaseOf g wv q).s1 + (phaseOf g wv q).s2 ≤ g.wmax := by
  have hs1 : min (loadWidth wv q.dots g.loadK) g.wmax * g.historyH / 16 ≤ min (loadWidth wv q.dots g.loadK) g.wmax :=
    Nat.div_le_of_le_mul (by rw [Nat.mul_comm 16]; exact Nat.mul_le_mul_left _ h)
  calc (phaseOf g wv q).s1 + (phaseOf g wv q).s2 = min (loadWidth wv q.dots g.loadK) g.wmax := Nat.add_sub_cancel' hs1
    _ ≤ g.wmax := Nat.min_le_right _ _

theorem phaseOf_fireS2 {g : Settings} {wv : Nat} {q : Group} (h : (phaseOf g wv q).fireS2 = true) : 0 < q.fresh :=
  of_decide_eq_true (Bool.and_eq_true_iff.1 h).1

theorem planLine_phases (g : Settings) (l history : Line) (thermistor supply steps : Nat) :
    ∃ wv, (planLine g l history thermistor supply steps).phases = (phaseGroups g.dotLimit l history).map (phaseOf g wv) := ⟨_, rfl⟩

/-- R113: I_req over the steps covers the line time, by less than a step more. -/
theorem ceilDiv_mul (a : Nat) {n : Nat} (hn : 0 < n) : a ≤ ceilDiv a n * n ∧ ceilDiv a n * n < a + n := by
  have hdiv := Nat.div_add_mod (a + n - 1) n
  have hmod := Nat.mod_lt (a + n - 1) hn
  rw [Nat.mul_comm] at hdiv
  unfold ceilDiv
  omega

/-- Settles O29: the groups are the head blocks with black dots, cut where the limit is reached (`groupBlocks_sound`,
`groupBlocks_blocks`, `groupBlocks_sums`). -/
theorem linePlanHolds : Obligations.LinePlanHolds := by
  unfold Obligations.LinePlanHolds
  intro g l history thermistor supply steps hl hh hlimit hH hsteps
  have counts : ∀ t ∈ blockCounts l history, countsSound g.dotLimit t := fun t ht =>
    ⟨(mem_blockCounts ht).1.trans hlimit, (mem_blockCounts ht).2⟩
  have sound := groupBlocks_sound (Group.sound.empty g.dotLimit) counts
  obtain ⟨dots, fresh⟩ := groupBlocks_sums (Group.sound.empty g.dotLimit) counts
  have hfresh : (freshDots l history).length = 1728 := by simp [freshDots, hl, hh]
  obtain ⟨wv, hphases⟩ := planLine_phases g l history thermistor supply steps
  obtain ⟨covers, tight⟩ := ceilDiv_mul (lineTime (planLine g l history thermistor supply steps).phases) hsteps
  refine ⟨?_, ?_, ?_, fun p hp => ?_, Nat.le_max_right _ _, Nat.le_max_left _ _, covers, tight⟩
  · rw [hphases, List.map_map, ← blockCounts_inked l history]
    exact groupBlocks_blocks g.dotLimit ⟨[], 0, 0⟩ (blockCounts l history)
  · rw [hphases, List.map_map]
    calc _ = 0 + ((blockCounts l history).map (fun t => t.2.1)).sum := dots
      _ = blackCount l := by rw [Nat.zero_add, blockCounts_black, sum_eightBlocks hl]
  · rw [hphases, List.map_map]
    calc _ = 0 + ((blockCounts l history).map (fun t => t.2.2)).sum := fresh
      _ = newDots l history := by rw [Nat.zero_add, blockCounts_fresh, sum_eightBlocks hfresh, newDots]
  · rw [hphases] at hp
    obtain ⟨q, hq, rfl⟩ := List.mem_map.1 hp
    obtain ⟨hsound, hblocks⟩ := sound q hq
    exact ⟨Nat.pos_of_ne_zero fun h => hblocks (hsound.inked.2 h), hsound.dots, phaseOf_width hH wv q, hsound.fresh, phaseOf_fireS2⟩

end Sys2Proof.Machine
end

section
/-! The emergency stop halts the mechanism and its jobs (O36). -/

namespace Sys2Proof.Machine

-- One theorem at a time, as in the tests: a thread for each would exceed the memory allowed.
set_option Elab.async false

variable {s t u : State}

/-! ## What is halted stays so while the operations and the jobs are told (R136) -/

/-- R135: the motors, the cutter, the print energy unit and the DRAM stand, and no capture begins. -/
structure Stilled (s t : State) : Prop where
  mech : t.mech = s.mech
  energy : t.energy = s.energy
  dram : t.dram = s.dram
  capture : s.scan.capture = none → t.scan.capture = none

theorem Stilled.refl (s : State) : Stilled s s := ⟨rfl, rfl, rfl, id⟩

theorem Stilled.trans (a : Stilled s t) (b : Stilled t u) : Stilled s u :=
  ⟨b.mech.trans a.mech, b.energy.trans a.energy, b.dram.trans a.dram, b.capture ∘ a.capture⟩

theorem stilled_ite {c : Prop} [Decidable c] {a b : State} (ha : Stilled s a) (hb : Stilled s b) : Stilled s (if c then a else b) := by
  split
  exacts [ha, hb]

theorem stilled_foldl {α : Type} {g : State → α → State} (hg : ∀ s x, Stilled s (g s x)) (l : List α) (s : State) :
    Stilled s (l.foldl g s) :=
  List.foldlRecOn l g (motive := Stilled s) (Stilled.refl s) fun t h x _ => h.trans (hg t x)

section
variable (s : State)

theorem stilled_onStore (f : Store → Store) : Stilled s (s.onStore f) := ⟨rfl, rfl, rfl, id⟩
theorem stilled_onJobs (f : WorkOrders → WorkOrders) : Stilled s (s.onJobs f) := ⟨rfl, rfl, rfl, id⟩
theorem stilled_onPower (f : Power → Power) : Stilled s (s.onPower f) := ⟨rfl, rfl, rfl, id⟩

theorem stilled_onScan {f : ScanPath → ScanPath} (h : s.scan.capture = none → (f s.scan).capture = none) : Stilled s (s.onScan f) :=
  ⟨rfl, rfl, rfl, h⟩

theorem stilled_raise (n : Nat) (d : Detail) : Stilled s (raise n d s) := by
  unfold raise
  split <;> exact ⟨rfl, rfl, rfl, id⟩

theorem stilled_raiseJob (k : Nat) (f : Option FinalStatus) : Stilled s (raiseJob k f s) := by
  unfold raiseJob
  split
  exacts [stilled_raise s _ _, Stilled.refl s]

theorem stilled_endOp (e : Engine) (op : InternalOp) : Stilled s (endOp e op s) := by
  unfold endOp
  split
  exacts [stilled_onJobs s _, Stilled.refl s]

/-! ### A page discarded, a code met (R11, R57, R63) -/

theorem stilled_onDoc (n : Nat) (f : Document → Document) : Stilled s (onDoc n f s) := stilled_ite (Stilled.refl s) (stilled_onStore s _)

theorem stilled_freeBlock (b : Nat) : Stilled s (freeBlock b s) := by
  rw [freeBlock_eq]
  exact ⟨rfl, rfl, rfl, id⟩

theorem stilled_erasePage (slot : Nat) : Stilled s (erasePage slot s) := by
  have freed : Stilled s (freeBlocksOf (ownedBlocks s slot) (forgetPage slot s)) :=
    (stilled_onStore s _).trans (stilled_foldl (fun t b => stilled_freeBlock t b) _ _)
  exact freed.trans ((stilled_onStore _ _).trans (stilled_onDoc _ _ _))

theorem stilled_discardPage (slot : Nat) : Stilled s (discardPage slot s) := by
  unfold discardPage
  exact (stilled_erasePage s slot).trans ((stilled_onStore _ _).trans ((stilled_onJobs _ _).trans (stilled_onJobs _ _)))

theorem stilled_discardScanPage : Stilled s (discardScanPage s) := by
  have freed : Stilled s (freeSlots s) := stilled_onScan s fun _ => rfl
  have left : ∀ {f}, Stilled s ((dropScanHeld (freeSlots s)).onStore f) := freed.trans ⟨rfl, rfl, rfl, id⟩
  unfold discardScanPage
  split
  · exact freed
  · exact stilled_ite (left.trans (stilled_discardPage _ _)) left

theorem stilled_raiseFull (r : FullReason) : Stilled s (raiseFull r s) := stilled_ite (Stilled.refl s) (stilled_raise s _ _)

theorem stilled_codeEffect (b : Boundary) : Stilled s (codeEffect b s) := by
  unfold codeEffect
  split
  · exact (stilled_discardScanPage s).trans (stilled_onStore _ _)
  · split
    exacts [stilled_raiseFull s _, stilled_raiseFull s _, Stilled.refl s]
  · split
    exacts [stilled_raiseFull s _, stilled_raiseFull s _, Stilled.refl s]
  · exact Stilled.refl s

theorem stilled_enterBoundary (k : Nat) (b : Boundary) : Stilled s (enterBoundary k b s) :=
  ((stilled_codeEffect s b).trans (stilled_onJobs _ _)).trans (stilled_raiseJob _ _ _)

/-! ### The operations and the jobs of the mechanism (R136) -/

/-- An internal operation ended with its DONE. -/
theorem stilled_doneIf {c : Prop} [Decidable c] (op : DoneOp) (o : DoneOutcome) (n : Nat) (e : Engine) (x : InternalOp) :
    Stilled s (if c then raiseDone op o n (endOp e x s) else s) :=
  stilled_ite ((stilled_endOp s e x).trans (stilled_raise _ _ _)) (Stilled.refl s)

theorem stilled_emergencyOps (o : DoneOutcome) : Stilled s (emergencyOps o s) := by
  unfold emergencyOps
  extract_lets afterEject afterAdvance afterCut
  have heject : Stilled s afterEject :=
    stilled_ite ((stilled_onScan s id).trans ((stilled_endOp _ _ _).trans (stilled_raise _ _ _))) (Stilled.refl s)
  have hadvance : Stilled s afterAdvance := heject.trans (stilled_doneIf _ _ _ _ _ _)
  have hcut : Stilled s afterCut := hadvance.trans (stilled_doneIf _ _ _ _ _ _)
  exact hcut.trans (stilled_endOp _ _ _)

/-- R136: a job meets a boundary, its work in hand as it stood; or it runs no motor. -/
theorem emergencyJob_cases (cause : Reason) (lost : Bool) (k : Nat) :
    (emergencyJob cause lost k s = s ∧ ∀ j, jobIn s k = some j → j.state ≠ .running ∧ j.state ≠ .holding) ∨
    ∃ b v, v.work = s.work ∧ Stilled s v ∧ emergencyJob cause lost k s = enterBoundary k b v := by
  have scanned : ∀ {c : Prop} [Decidable c] {f : ScanPath → ScanPath}, (s.scan.capture = none → (f s.scan).capture = none) →
      (if c then s.onScan f else s).work = s.work ∧ Stilled s (if c then s.onScan f else s) := fun hf =>
    ⟨by split <;> rfl, stilled_ite (stilled_onScan s hf) (Stilled.refl s)⟩
  unfold emergencyJob
  split
  · next hj => exact .inl ⟨rfl, fun j h => by rw [hj] at h; cases h⟩
  next j hj =>
    split
    · exact .inr ⟨_, _, (scanned id).1, (scanned id).2, rfl⟩
    · exact .inr ⟨_, _, (scanned id).1, (scanned id).2, rfl⟩
    · exact .inr ⟨_, _, (scanned id).1, (scanned id).2, rfl⟩
    · next hrunning hholding _ =>
      refine .inl ⟨rfl, fun j' h => ?_⟩
      rw [hj] at h
      cases h
      exact ⟨hrunning, hholding⟩

theorem stilled_emergencyJob (cause : Reason) (lost : Bool) (k : Nat) : Stilled s (emergencyJob cause lost k s) := by
  rcases emergencyJob_cases s cause lost k with ⟨h, -⟩ | ⟨b, v, -, hv, h⟩ <;> rw [h]
  exacts [Stilled.refl s, hv.trans (stilled_enterBoundary v k b)]

theorem stilled_stopTold (cause : Reason) : Stilled (headOff (mechanismHalted s)) (stopTold cause s) :=
  (stilled_emergencyOps _ _).trans (stilled_foldl (fun t k => stilled_emergencyJob t cause _ k) _ _)

end

/-! ## The jobs of the mechanism (R136) -/

/-- R136: a job in the slot neither runs nor comes to rest. -/
def atStop (s : State) (k : Nat) : Prop := ∀ kind st, markIn s k = some (kind, st) → st ≠ .running ∧ st ≠ .holding

theorem atStop_of_marks {k : Nat} (h : markIn t k = markIn s k) (hs : atStop s k) : atStop t k := fun kind st hm => hs kind st (h ▸ hm)

/-- R63: a job at a boundary is stopped; the others stand as they did. -/
theorem atStop_enterBoundary {k i : Nat} {b : Boundary} (h : i = k ∨ atStop s i) : atStop (enterBoundary k b s) i := by
  intro kind st hm
  rw [enterBoundary, markIn_of_work (work_raiseJob _ k none), markIn_onJob] at hm
  split at hm
  · obtain ⟨j, -, he⟩ := Option.map_eq_some_iff.1 hm
    cases he
    exact ⟨fun h => (nomatch h), fun h => (nomatch h)⟩
  · next hi =>
    rw [markIn_of_work (work_codeEffect s b)] at hm
    exact h.resolve_left hi kind st hm

theorem atStop_emergencyJob {cause : Reason} {lost : Bool} {k i : Nat} (h : i = k ∨ atStop s i) :
    atStop (emergencyJob cause lost k s) i := by
  rcases emergencyJob_cases s cause lost k with ⟨he, hstop⟩ | ⟨b, v, hwork, -, he⟩ <;> rw [he]
  · rcases h with rfl | h
    · intro kind st hm
      obtain ⟨j, hj, -, rfl⟩ := markIn_some.1 hm
      exact hstop j hj
    · exact h
  · exact atStop_enterBoundary (h.imp_right (atStop_of_marks (markIn_of_work hwork i)))

theorem atStop_emergencyJobs {cause : Reason} {lost : Bool} {k : Nat} {l : List Nat} (h : k ∈ l ∨ atStop s k) :
    atStop (l.foldl (fun t i => emergencyJob cause lost i t) s) k := by
  induction l generalizing s with
  | nil => exact h.resolve_left (List.not_mem_nil)
  | cons i is ih =>
    refine ih ?_
    rcases h with h | h
    · exact (List.mem_cons.1 h).elim (fun h => .inr (atStop_emergencyJob (.inl h))) .inl
    · exact .inr (atStop_emergencyJob (.inr h))

theorem backToConsumed_frame (s : State) : (backToConsumed s).jobs.slots = s.jobs.slots ∧ (backToConsumed s).dram = s.dram := by
  unfold backToConsumed
  split <;> exact ⟨rfl, rfl⟩

theorem haltPrint_frame (s : State) : (haltPrint s).jobs.slots = s.jobs.slots ∧ (haltPrint s).dram = s.dram := by
  unfold haltPrint
  extract_lets left stands cut
  split
  exacts [⟨rfl, rfl⟩, backToConsumed_frame cut]

theorem driveOff_frame (s : State) : (driveOff s).jobs.slots = s.jobs.slots ∧ (driveOff s).dram = s.dram := by
  unfold driveOff
  split <;> exact ⟨rfl, rfl⟩

/-- R135: the halt of the mechanism leaves the job slots, the levels, the settings, the start-up and the DRAM. -/
theorem mechanismHalted_frame (s : State) : (mechanismHalted s).jobs.slots = s.jobs.slots ∧ (mechanismHalted s).levels = s.levels ∧
    (mechanismHalted s).settings = s.settings ∧ (mechanismHalted s).start = s.start ∧ (mechanismHalted s).dram = s.dram := by
  have given : Kept s (haltScan (haltPrint s)) := kept_haltScan (kept_haltPrint (Kept.refl s))
  obtain ⟨hslots, hdram⟩ := haltPrint_frame s
  unfold mechanismHalted
  generalize hv : (haltScan (haltPrint s)).onMech _ = v
  have off : Kept v (driveOff v) := kept_driveOff (Kept.refl v)
  obtain ⟨hslots', hdram'⟩ := driveOff_frame v
  subst hv
  exact ⟨hslots'.trans hslots, off.levels.trans given.levels, off.settings.trans given.settings, off.start.trans given.start, hdram'.trans hdram⟩

theorem mem_mechanismJobs {k : Nat} (hk : k < 4) {j : Job} (hj : jobIn s k = some j)
    (h : jobHolding s .scanner = some k ∨ jobHolding s .printer = some k) : k ∈ mechanismJobs s := by
  refine List.mem_filter.2 ⟨List.mem_filter.2 ⟨List.mem_range.2 hk, by rw [hj]; rfl⟩, ?_⟩
  simpa using h

/-- R136: the jobs that hold the SCANNER or the PRINTER are told. -/
theorem atStop_stopTold {cause : Reason} {k : Nat} (hk : k < 4)
    (h : jobHolding s .scanner = some k ∨ jobHolding s .printer = some k) : atStop (stopTold cause s) k := by
  refine atStop_emergencyJobs ?_
  cases hj : jobIn s k with
  | some j => exact .inl (mem_mechanismJobs hk hj h)
  | none =>
    refine .inr fun kind st hm => ?_
    have hslots : (headOff (mechanismHalted s)).jobs.slots = s.jobs.slots := by
      rw [headOff_eq]; exact (mechanismHalted_frame s).1
    rw [(holdersOnly_emergencyOps _ _).marks, markIn, jobIn, hslots] at hm
    change (jobIn s k).map Job.mark = _ at hm
    rw [hj] at hm
    cases hm

/-! ## The obligation -/

/-- R137: HEADPWR stays off while COVER shows OPEN. -/
theorem headOn_covered (h : s.levels.coverOpen = true) : headOn s = s := if_pos (by simp [h])

/-- Of what an emergency stop has told, HEADPWR alone may follow (R104). -/
theorem emergencyStop_onPower (cause : Reason) (s : State) : ∃ f, emergencyStop cause s = (stopTold cause s).onPower f := by
  rw [emergencyStop_eq]
  split
  · unfold headOn
    split
    exacts [⟨id, rfl⟩, ⟨_, rfl⟩]
  · exact ⟨id, rfl⟩

theorem emergencyStop_covered {cause : Reason} (h : (stopTold cause s).levels.coverOpen = true) :
    emergencyStop cause s = stopTold cause s := by
  rw [emergencyStop_eq, headOn_covered h, ite_self]

/-- Settles O36: the halt of the mechanism and of HEADPWR, which the telling of its operations and jobs leaves (`stilled_stopTold`), and each
job told stopped (`atStop_stopTold`). -/
theorem emergencyStopHalts : Obligations.EmergencyStopHalts := by
  unfold Obligations.EmergencyStopHalts
  intro cause s
  obtain ⟨-, hlevels, hsettings, hstart, hdram⟩ := mechanismHalted_frame s
  obtain ⟨_, _, _, hscan, hprint⟩ := mechanismHalted_feeds s
  have still := stilled_stopTold s cause
  have kept := kept_stopTold cause s
  have drives : (mechanismHalted s).mech.cutter.drives = false := driveOff_drives _
  have capture : (mechanismHalted s).scan.capture = none := by unfold mechanismHalted driveOff; split <;> rfl
  rw [headOff_eq] at still kept
  have hcover : s.levels.coverOpen = true → (stopTold cause s).levels.coverOpen = true := fun h => by
    rw [kept.levels]; exact (congrArg Levels.coverOpen hlevels).trans h
  obtain ⟨f, hstop⟩ := emergencyStop_onPower cause s
  have stilled : Stilled _ (emergencyStop cause s) := still.trans (hstop ▸ stilled_onPower _ f)
  dsimp only
  simp only [stilled.mech, stilled.energy, hscan, hprint, drives, stilled.capture capture]
  refine ⟨rfl, rfl, rfl, rfl, rfl, rfl, rfl, rfl, trivial, trivial, trivial, trivial, trivial,
    fun h => ?_, fun k j hk hj hholds => ?_, ?_, ?_, ?_, ?_⟩
  · rw [emergencyStop_covered (hcover h), kept.power]
  · rw [hstop] at hj
    exact atStop_stopTold hk hholds j.kind j.state (markIn_of_job hj)
  · rw [hstop]; exact kept.levels.trans hlevels
  · rw [hstop]; exact kept.settings.trans hsettings
  · rw [hstop]; exact kept.start.trans hstart
  · exact stilled.dram.trans hdram

end Sys2Proof.Machine
end

section
/-! The allowances of a motion and the level of its steps (O31). -/

namespace Sys2Proof.Machine

-- One theorem at a time, as in the tests: a thread for each would exceed the memory allowed.
set_option Elab.async false

variable {f : Feed} {caps : List Nat} {e : Entry} {rest : List Entry}

/-! ## The allowances (R125) -/

theorem length_allowances (caps : List Nat) : (allowances caps).length = caps.length := by
  induction caps with
  | nil => rfl
  | cons c rest ih =>
    cases rest with
    | nil => rfl
    | cons d rest =>
      unfold allowances
      split
      · next h => simp [h] at ih
      · next h => simp [← ih, h]

theorem allowances_cons_cons (c d : Nat) (rest : List Nat) :
    allowances (c :: d :: rest) = min c ((allowances (d :: rest)).headD 0 + 1) :: allowances (d :: rest) := by
  conv_lhs => unfold allowances
  split
  · next h => have := length_allowances (d :: rest); simp [h] at this
  · next h => simp [h]

theorem allowances_tail (caps : List Nat) : allowances caps.tail = (allowances caps).tail := by
  match caps with
  | [] => rfl
  | [_] => rfl
  | c :: d :: rest => rw [allowances_cons_cons]; rfl

/-- R125: an allowance is at most one above the next, and the last is 0. -/
theorem head_allowances_le (caps : List Nat) : (allowances caps).headD 0 ≤ (allowances caps).tail.headD 0 + 1 := by
  match caps with
  | [] => exact Nat.zero_le _
  | [_] => exact Nat.zero_le _
  | c :: d :: rest => rw [allowances_cons_cons]; exact Nat.min_le_right _ _

theorem head_allowances_last (h : (allowances caps).tail = []) : (allowances caps).headD 0 = 0 := by
  match caps with
  | [] => rfl
  | [_] => rfl
  | c :: d :: rest =>
    rw [allowances_cons_cons, List.tail_cons, ← List.length_eq_zero_iff, length_allowances] at h
    cases h

/-- R123, R125: steps queued behind the others lower no allowance. -/
theorem head_allowances_append (caps more : List Nat) : (allowances caps).headD 0 ≤ (allowances (caps ++ more)).headD 0 := by
  match caps with
  | [] => exact Nat.zero_le _
  | [_] => exact Nat.zero_le _
  | c :: d :: rest =>
    have ih := head_allowances_append (d :: rest) more
    simp only [List.cons_append, allowances_cons_cons, List.headD_cons] at ih ⊢
    omega

/-- R125: each allowance by its cap and the next one. -/
theorem getElem?_allowances (caps : List Nat) (i : Nat) (h : i < caps.length) :
    ∃ a, (allowances caps)[i]? = some a ∧ (i + 1 = caps.length → a = 0) ∧
      ∀ b, (allowances caps)[i + 1]? = some b → a = min (caps.getD i 0) (b + 1) := by
  match caps, i with
  | [], _ => cases h
  | [_], 0 => exact ⟨0, rfl, fun _ => rfl, fun _ hb => nomatch hb⟩
  | [_], i + 1 => simp at h
  | c :: d :: rest, 0 =>
    rw [allowances_cons_cons]
    refine ⟨_, rfl, fun h => by simp at h, fun b hb => ?_⟩
    rw [List.getElem?_cons_succ, ← List.head?_eq_getElem?] at hb
    simp [List.headD_eq_head?_getD, hb]
  | c :: d :: rest, i + 1 =>
    obtain ⟨a, ha, hlast, hnext⟩ := getElem?_allowances (d :: rest) i (by simpa using h)
    rw [allowances_cons_cons]
    exact ⟨a, ha, fun h => hlast (by simpa using h), hnext⟩

/-- R125: whatever keeps to the caps, falls by at most one a step and ends at 0, the allowances do not lie below. -/
theorem le_allowances (caps other : List Nat) (hlen : other.length = caps.length)
    (hcaps : ∀ i, i < caps.length → other.getD i 0 ≤ caps.getD i 0)
    (hstep : ∀ i, i + 1 < caps.length → other.getD i 0 ≤ other.getD (i + 1) 0 + 1) (hlast : other.getLast? = some 0 ∨ other = []) (i : Nat) :
    i < caps.length → other.getD i 0 ≤ (allowances caps).getD i 0 := by
  induction caps generalizing other i with
  | nil => exact fun h => nomatch h
  | cons c rest ih =>
    intro hi
    obtain ⟨o, others, rfl⟩ := List.exists_cons_of_length_eq_add_one hlen
    cases rest with
    | nil =>
      obtain rfl := List.length_eq_zero_iff.1 (Nat.succ.inj hlen)
      obtain rfl : o = 0 := by simpa using hlast
      rcases i with _ | i
      exacts [Nat.zero_le _, absurd hi (by simp)]
    | cons d rest =>
      obtain ⟨o', others, rfl⟩ := List.exists_cons_of_length_eq_add_one (Nat.succ.inj hlen)
      have later := ih (o' :: others) (Nat.succ.inj hlen) (fun i hi => hcaps (i + 1) (Nat.succ_lt_succ hi))
        (fun i hi => hstep (i + 1) (Nat.succ_lt_succ hi)) (by simpa using hlast)
      rw [allowances_cons_cons]
      cases i with
      | succ i => exact later i (Nat.lt_of_succ_lt_succ hi)
      | zero =>
        have hc : o ≤ c := hcaps 0 hi
        have hs : o ≤ o' + 1 := hstep 0 (by simp)
        have hn : o' ≤ (allowances (d :: rest)).headD 0 := by
          have := later 0 (by simp)
          rwa [List.getD_cons_zero, List.getD_eq_getElem?_getD, ← List.head?_eq_getElem?, ← List.headD_eq_head?_getD] at this
        simp only [List.getD_cons_zero]
        omega

/-! ## The caps of a queue (R125) -/

theorem capsOf_append (before : Option Nat) (q more : List Entry) :
    ∃ last, capsOf before (q ++ more) = capsOf before q ++ capsOf last more := by
  induction q generalizing before with
  | nil => exact ⟨before, rfl⟩
  | cons e rest ih =>
    obtain ⟨last, h⟩ := ih (some e.target)
    exact ⟨last, by simp only [List.cons_append, capsOf, h, List.append_assoc]⟩

theorem feedOnly_cap (e : Entry) : e.feedOnly.left = e.left ∧ e.feedOnly.steps = e.steps ∧ e.feedOnly.target = e.target := by
  unfold Entry.feedOnly
  split <;> exact ⟨rfl, rfl, rfl⟩

/-- R129, R130: FEED-ONLY entries keep their steps and their targets. -/
theorem capsOf_feedOnly (before : Option Nat) (q : List Entry) : capsOf before (q.map Entry.feedOnly) = capsOf before q := by
  induction q generalizing before with
  | nil => rfl
  | cons e rest ih =>
    obtain ⟨hleft, hsteps, htarget⟩ := feedOnly_cap e
    simp only [List.map_cons, capsOf, ih, hleft, hsteps, htarget]

/-- R123, R125: a step taken leaves the caps of the steps behind it; an entry with no step left has none. -/
theorem capsOf_stepEntry (before : Option Nat) (e : Entry) (rest : List Entry) : capsOf (some e.target) (stepEntry (e :: rest)) =
    if e.left = 0 then capsOf before (e :: rest) else (capsOf before (e :: rest)).tail := by
  obtain ⟨kind, steps, left, ireq, target, due⟩ := e
  match left with
  | 0 => simp [stepEntry, capsOf]
  | 1 => simp [stepEntry, capsOf]
  | n + 2 => simp [stepEntry, capsOf, List.replicate_succ]

/-! ## The level of a motor (R124, R126) -/

theorem nextLevel_le (f : Feed) : f.nextLevel ≤ f.allowances.headD 0 := Nat.min_le_right _ _

/-- The allowances after a step of a motion: those behind the step taken. -/
theorem allowances_stepped (level now : Nat) (hm : f.moving = true) (hq : f.queue = e :: rest) :
    (f.stepped level now).allowances = if e.left = 0 then f.allowances else f.allowances.tail := by
  have h := capsOf_stepEntry (some f.lastTarget) e rest
  simp only [Feed.allowances, Feed.stepped, hm, hq, if_true, List.head?_cons, Option.map_some, Option.getD_some, h, ← allowances_tail,
    apply_ite allowances]

/-- R126: the level of a step of a motion is within one of the next allowance, and 0 with the last step. -/
theorem levelSound_stepped (now : Nat) (hm : f.moving = true) (hq : f.queue = e :: rest) : (f.stepped f.nextLevel now).levelSound where
  atRest h := absurd (hm.symm.trans h) (by decide)
  drained h := by
    have hnone : (f.stepped f.nextLevel now).allowances = [] := by unfold Feed.allowances; rw [h]; rfl
    have htail : f.allowances.tail = [] := by
      rw [allowances_stepped _ _ hm hq] at hnone
      split at hnone <;> simp [hnone]
    exact Nat.le_zero.1 ((nextLevel_le f).trans (head_allowances_last htail).le)
  allowed := by
    have hnext : f.nextLevel ≤ f.allowances.headD 0 := nextLevel_le f
    have hstep : f.allowances.headD 0 ≤ f.allowances.tail.headD 0 + 1 := head_allowances_le _
    rw [allowances_stepped _ _ hm hq]
    change f.nextLevel ≤ _
    split <;> omega

/-- R123: an entry queued raises the allowances, if anything. -/
theorem levelSound_enqueued (h : f.levelSound) (more : List Entry) : ({ f with queue := f.queue ++ more } : Feed).levelSound where
  atRest := h.atRest
  drained hq := h.drained (List.append_eq_nil_iff.1 hq).1
  allowed := by
    obtain ⟨last, hcaps⟩ := capsOf_append (if f.moving then some f.lastTarget else none) f.queue more
    have hhead := head_allowances_append (capsOf (if f.moving then some f.lastTarget else none) f.queue) (capsOf last more)
    rw [← hcaps] at hhead
    exact h.allowed.trans (Nat.succ_le_succ hhead)

/-- R122, R126: the level of the next step is within one of the level. -/
theorem nextLevel_within (h : f.level ≤ f.allowances.headD 0 + 1) : f.nextLevel ≤ f.level + 1 ∧ f.level ≤ f.nextLevel + 1 := by
  unfold Feed.nextLevel
  omega

/-! ## The obligation -/

/-- Settles O31: each allowance by its cap and the next (`getElem?_allowances`), the largest that keep to them (`le_allowances`), those
behind a step taken (`allowances_stepped`), and the level a step leaves (`levelSound_stepped`). -/
theorem allowancesHold : Obligations.AllowancesHold := by
  unfold Obligations.AllowancesHold
  refine ⟨getElem?_allowances, le_allowances, fun f now hm hq hentries => ?_, fun f now hm hq _ hlevel => ?_⟩
  · obtain ⟨e, rest, hq⟩ := List.exists_cons_of_ne_nil hq
    have hleft : e.left ≠ 0 := (hentries e (by simp [hq])).1.ne'
    rw [allowances_stepped _ _ hm hq, if_neg hleft]
  · obtain ⟨e, rest, hq⟩ := List.exists_cons_of_ne_nil hq
    obtain ⟨hup, hdown⟩ := nextLevel_within hlevel
    exact ⟨hup, hdown, (levelSound_stepped now hm hq).allowed⟩

end Sys2Proof.Machine
end

section
/-! The currents of the motors and the PWM generators (O34), the wake causes (O40), and the levels taken at the start (O50). -/

namespace Sys2Proof.Machine

-- One theorem at a time, as in the tests: a thread for each would exceed the memory allowed.
set_option Elab.async false

variable {s : State}

/-! ## The currents and the generators (R131, R133) -/

theorem generatorOf_endPeriod (g i : Pwm) (s : State) :
    generatorOf (endPeriod g s) i = if i = g then ⟨givenValue s g, ((generatorOf s g).cycle + 1) % 4⟩ else generatorOf s i := by
  cases g <;> cases i <;> rfl

/-- R133: a generator has no part in the motors and the cutter. -/
theorem endPeriod_motors (g : Pwm) (s : State) : (endPeriod g s).mech.scanFeed = s.mech.scanFeed ∧
    (endPeriod g s).mech.printFeed = s.mech.printFeed ∧ (endPeriod g s).mech.cutter = s.mech.cutter := by
  cases g <;> exact ⟨rfl, rfl, rfl⟩

/-- R133: four periods give `v / 4` counts each, and the remainder is spread over the first of them. -/
theorem sum_highCounts (v : Nat) : ((List.range 4).map (fun k => (Generator.mk v k).highCounts)).sum = v := by
  have hv : 4 * (v / 4) + v % 4 = v := Nat.div_add_mod v 4
  simp only [List.range, List.range.loop, List.map_cons, List.map_nil, List.sum_cons, List.sum_nil, Generator.highCounts]
  split_ifs <;> omega

/-- Settles O34: each delay is due where the obligation says so, and a generator's period leaves the others (`generatorOf_endPeriod`). -/
theorem currentsAndPwm : Obligations.CurrentsAndPwm := by
  unfold Obligations.CurrentsAndPwm
  intro s
  refine ⟨fun m hc hm ht => ?_, fun m hc hd ht => ?_, fun g hg => ?_, sum_highCounts, fun m c => ?_⟩
  · rw [exec_holdDelayExpiry, event_due (by simp [holdDelayDue, hc, hm, passed, ms, ht])]
    rfl
  · rw [exec_offDelayExpiry, event_due (by simp [offDelayDue, hc, hd, passed, ms, ht])]
    rfl
  · refine ⟨_, (exec_pwmPeriodEnd g s).trans (event_due hg), ?_, fun i hi => ?_, endPeriod_motors g s⟩
    · exact (generatorOf_endPeriod g g s).trans (if_pos rfl)
    · exact (generatorOf_endPeriod g i s).trans (if_neg hi)
  · cases c <;> rfl

/-! ## The wake causes in DOZE and WAKING (R134, R151, R152) -/

/-- R151, R152: a cause ends DOZE, or is gathered in WAKING. -/
def Power.woken (c : WakeCauses) (now : Nat) (p : Power) : Power :=
  if p.mode = .doze then { p with mode := .waking, wakingAt := now, causes := c } else { p with causes := p.causes.union c }

section
variable (h : s.power.mode = .doze ∨ s.power.mode = .waking)
include h

theorem wakeCause_asleep (c : WakeCauses) : wakeCause c s = s.onPower (Power.woken c s.now) := by
  unfold wakeCause Power.woken State.onPower
  rcases h with h | h <;> simp [h]

omit h in
theorem raise_onPower (n : Nat) (d : Detail) (f : Power → Power) (s : State) : raise n d (s.onPower f) = (raise n d s).onPower f := by
  unfold raise
  rw [State.onPower_start]
  split <;> rfl

/-- R134, R151: SENSOR is raised beside the wake. -/
theorem sensed_asleep (c : WakeCauses) : wakeCause c (raiseSensor s) = raiseSensor (s.onPower (Power.woken c s.now)) := by
  have hpower : (raiseSensor s).power = s.power := raise_power _ _ s
  rw [wakeCause_asleep (by rw [hpower]; exact h), (kept_raiseSensor (Kept.refl s)).now, raiseSensor, ← raise_onPower]
  rfl

theorem exec_linkReceiveEdge_asleep : exec .linkReceiveEdge s =
    .next (settle (s.onPower (Power.woken ⟨false, false, false, false, false, false, true⟩ s.now))) := by
  rw [exec_linkReceiveEdge, event_due (by simpa using h), wakeCause_asleep h]
  rfl

section
variable (hr : s.start.phase = .ready) {b : Bool}
include hr

theorem exec_docEntryChange_asleep (hb : s.levels.docEntry ≠ b) : exec (.docEntryChange b) s =
    .next (settle (advance (raiseSensor ((s.onLevels (fun l => { l with docEntry := b })).onPower
      (Power.woken ⟨false, false, true, false, false, false, false⟩ s.now))))) := by
  rw [exec_docEntryChange, jobEvent_due (levelDue hr hb)]
  exact congrArg (fun v => (.next (settle (advance v)) : Result)) (sensed_asleep (s := s.onLevels _) h _)

theorem exec_paperChange_asleep (hb : s.levels.paper ≠ b) : exec (.paperChange b) s =
    .next (settle (advance (raiseSensor ((s.onLevels (fun l => { l with paper := b })).onPower
      (Power.woken ⟨false, false, false, false, true, false, false⟩ s.now))))) := by
  rw [exec_paperChange, jobEvent_due (levelDue hr hb)]
  exact congrArg (fun v => (.next (settle (advance v)) : Result)) (sensed_asleep (s := s.onLevels _) h _)

omit hr in
theorem coverCloses_asleep : coverCloses s = raiseSensor s := by
  rw [coverCloses, if_neg (by rcases h with h | h <;> simp [h])]

/-- R135, R137, R151: with nothing powered, a change of COVER wakes alone. -/
theorem exec_coverChange_asleep (hb : s.levels.coverOpen ≠ b) (hscan : s.mech.scanFeed.current = .off)
    (hprint : s.mech.printFeed.current = .off) (hhead : s.power.headSince = none) : exec (.coverChange b) s =
    .next (settle (advance (raiseSensor ((s.onLevels (fun l => { l with coverOpen := b })).onPower
      (Power.woken ⟨false, false, false, true, false, false, false⟩ s.now))))) := by
  have hsensor : (if b = true then coverOpens (s.onLevels (fun l => { l with coverOpen := b }))
      else coverCloses (s.onLevels (fun l => { l with coverOpen := b }))) = raiseSensor (s.onLevels (fun l => { l with coverOpen := b })) := by
    split
    · exact coverOpens_rest (s := s.onLevels _) hscan hprint hhead
    · exact coverCloses_asleep (s := s.onLevels _) h
  rw [exec_coverChange, jobEvent_due (levelDue hr hb)]
  dsimp only
  rw [hsensor]
  exact congrArg (fun v => (.next (settle (advance v)) : Result)) (sensed_asleep (s := s.onLevels _) h _)

theorem exec_wakeKeyPressed_asleep (hb : s.levels.wakeKey = false) : exec (.wakeKeyChange true) s =
    .next (settle ((s.onLevels (fun l => { l with wakeKey := true })).onPower
      (Power.woken ⟨false, false, false, false, false, true, false⟩ s.now))) := by
  rw [exec_wakeKeyChange, event_due (levelDue hr (by simp [hb]))]
  exact congrArg (fun v => (.next (settle v) : Result)) (wakeCause_asleep (s := s.onLevels _) h _)

omit h in
theorem exec_wakeKeyReleased (hb : s.levels.wakeKey = true) : exec (.wakeKeyChange false) s =
    .next (settle (s.onLevels (fun l => { l with wakeKey := false }))) := by
  rw [exec_wakeKeyChange, event_due (levelDue hr (by simp [hb]))]
  rfl

end
end

/-- Settles O40: what a cause does to the mode is `Power.woken`, beside the SENSOR of a level (`sensed_asleep`); the end of WAKING raises
WAKE, of which no record is pending. -/
theorem wakeCausesWake : Obligations.WakeCausesWake := by
  unfold Obligations.WakeCausesWake
  refine ⟨fun b s h => ⟨exec_linkReceiveEdge_asleep h, fun hr => ⟨exec_docEntryChange_asleep h hr, exec_coverChange_asleep h hr,
    exec_paperChange_asleep h hr, fun hk hb => ?_, fun hk hb => ?_⟩⟩, fun s hm ht hr hn => ?_⟩
  · subst hb; exact exec_wakeKeyPressed_asleep h hr hk
  · subst hb; exact exec_wakeKeyReleased hr hk
  · rw [exec_wakingEnd, event_due (by simp [hm, passed, wakingTime, ms, ht])]
    unfold reachStandby
    rw [raise_ready _ _ hr, State.onEvents, Events.raised, modifyAt_eq_set hn]
    rfl

/-! ## The levels taken at the start (R134, R175) -/

/-- R175: the homing begins where COVER shows CLOSED and the blade is not home. -/
theorem beginHoming_eq (l : Levels) (s : State) : beginHoming l s = { s with
    mech := { s.mech with
      cutter := if l.coverOpen = false ∧ l.cutterHome = false then ⟨.returning, s.now⟩ else .off l.cutterHome }
    start := { s.start with homing := if l.coverOpen then some .notTried else if l.cutterHome then some .home else none } } := by
  unfold beginHoming
  cases hcover : l.coverOpen
  · cases hhome : l.cutterHome <;> rfl
  · simp [State.onStart, State.onMech]

/-- R175: a sheet at DOC-READ means JAM-AT-START; without one the calibration begins. -/
theorem beginStartCalibration_eq (l : Levels) (s : State) : beginStartCalibration l s = { s with
    scan := if l.docRead then s.scan else { s.scan with calibration := some (Calibration.fresh s.now true) }
    start := { s.start with jamAtStart := l.docRead, calOutcome := if l.docRead then some .uncalibrated else none } } := by
  unfold beginStartCalibration
  cases l.docRead <;> rfl

/-- Settles O50, by what the homing and the calibration begin with (`beginHoming_eq`, `beginStartCalibration_eq`). -/
theorem levelsTakenAtStart : Obligations.LevelsTakenAtStart := by
  unfold Obligations.LevelsTakenAtStart
  intro l s hp
  refine ⟨_, (exec_mechanismLevelsTaken l s).trans (event_due (decide_eq_true hp)), ?_⟩
  rw [beginStartCalibration_eq, beginHoming_eq]
  refine ⟨rfl, rfl, rfl, fun hcover => ?_, fun hcover hhome => ?_, fun hcover hhome => ⟨?_, ?_⟩, fun hread => ⟨hread, ?_⟩,
    fun hread => ⟨hread, ?_, ?_⟩, rfl, rfl, rfl⟩
  all_goals simp [settle, *]

end Sys2Proof.Machine
end

section
/-! What leaves the mechanism as it stands (O2): the store, the readers, the Event Unit, the link and the jobs' operations that reach no
motor's queue. -/

namespace Sys2Proof.Machine

-- One theorem at a time, as in the tests: a thread for each would exceed the memory allowed.
set_option Elab.async false

variable {s t : State}

theorem foldl_mech {α : Type} {g : State → α → State} (hg : ∀ s x, (g s x).mech = s.mech) (l : List α) (s : State) :
    (l.foldl g s).mech = s.mech :=
  List.foldlRecOn l g (motive := fun t => t.mech = s.mech) rfl fun t h x _ => (hg t x).trans h

section
variable (s : State)

/-! ## The slots, the engines, the events and the link -/

@[simp] theorem onPage_mech (slot : Nat) (f : Page → Page) : (onPage slot f s).mech = s.mech := rfl
@[simp] theorem onBlock_mech (b : Nat) (f : Block → Block) : (onBlock b f s).mech = s.mech := rfl
@[simp] theorem onDoc_mech (n : Nat) (f : Document → Document) : (onDoc n f s).mech = s.mech := by unfold onDoc; split <;> rfl
@[simp] theorem onReader_mech (o : Outlet) (f : Reader → Reader) : (onReader o f s).mech = s.mech := rfl
@[simp] theorem onJob_mech (k : Nat) (f : Job → Job) : (onJob k f s).mech = s.mech := rfl
@[simp] theorem setPrint_mech (f : PrintSide → PrintSide) : (setPrint f s).mech = s.mech := rfl
@[simp] theorem setSend_mech (f : SendSide → SendSide) : (setSend f s).mech = s.mech := rfl
@[simp] theorem setHolder_mech (e : Engine) (h : Holder) : (setHolder e h s).mech = s.mech := rfl
@[simp] theorem takeEngine_mech (e : Engine) (h : Holder) : (takeEngine e h s).mech = s.mech := by cases e <;> rfl
@[simp] theorem endOp_mech (e : Engine) (op : InternalOp) : (endOp e op s).mech = s.mech := by unfold endOp; split <;> rfl
@[simp] theorem raise_mech (n : Nat) (d : Detail) : (raise n d s).mech = s.mech := by unfold raise; split <;> rfl
@[simp] theorem linkFault_mech (f : LinkFault) : (linkFault f s).mech = s.mech := by simp [linkFault]
@[simp] theorem raiseSensor_mech : (raiseSensor s).mech = s.mech := by simp [raiseSensor]
@[simp] theorem raiseDone_mech (op : DoneOp) (o : DoneOutcome) (n : Nat) : (raiseDone op o n s).mech = s.mech := by simp [raiseDone]

/-! ## The store (R1 to R22) -/

@[simp] theorem lowAfterTaking_mech : (lowAfterTaking s).mech = s.mech := by unfold lowAfterTaking; split <;> simp
@[simp] theorem linkBlock_mech (slot b : Nat) : (linkBlock slot b s).mech = s.mech := by unfold linkBlock; dsimp only; split <;> rfl
@[simp] theorem freeBlock_mech (b : Nat) : (freeBlock b s).mech = s.mech := by rw [freeBlock_eq]; rfl
@[simp] theorem freeBlocksOf_mech (bs : List Nat) : (freeBlocksOf bs s).mech = s.mech := foldl_mech (fun s b => freeBlock_mech s b) bs s
@[simp] theorem forgetPage_mech (slot : Nat) : (forgetPage slot s).mech = s.mech := rfl
@[simp] theorem erasePage_mech (slot : Nat) : (erasePage slot s).mech = s.mech := by simp [erasePage]
@[simp] theorem discardPage_mech (slot : Nat) : (discardPage slot s).mech = s.mech := by simp [discardPage]
@[simp] theorem removePage_mech (slot : Nat) : (removePage slot s).mech = s.mech := by simp [removePage]
@[simp] theorem onWriter_mech (n : Nat) (f : Job → Job) : (onWriter n f s).mech = s.mech := by unfold onWriter; split <;> rfl
@[simp] theorem dropWaiter_mech (w : Waiter) : (dropWaiter w s).mech = s.mech := rfl
@[simp] theorem addWaiter_mech (w : Waiter) : (addWaiter w s).mech = s.mech := rfl
@[simp] theorem dropScanHeld_mech : (dropScanHeld s).mech = s.mech := rfl
@[simp] theorem dropLinkHeld_mech : (dropLinkHeld s).mech = s.mech := rfl
@[simp] theorem freeTaken_mech : (freeTaken s).mech = s.mech := rfl
@[simp] theorem writerLosesPage_mech (slot : Nat) : (writerLosesPage slot s).mech = s.mech := by
  unfold writerLosesPage; dsimp only; split <;> split <;> rfl
@[simp] theorem putBytes_mech (slot : Nat) (bs : List Byte) : (putBytes slot bs s).1.mech = s.mech := rfl
@[simp] theorem commitRecord_mech (slot : Nat) (c : Bool) : (commitRecord slot c s).mech = s.mech := by simp [commitRecord]
@[simp] theorem dropAtLimit_mech (slot : Nat) : (dropAtLimit slot s).mech = s.mech := by simp [dropAtLimit, dropPageLine]
@[simp] theorem endPageNormally_mech (slot : Nat) : (endPageNormally slot s).mech = s.mech := rfl
end

theorem allocate_mech {slot : Nat} (h : allocate slot s = some t) : t.mech = s.mech := by
  obtain ⟨_, _, rfl⟩ := Option.map_eq_some_iff.1 h
  simp

@[simp] theorem appendRecord_mech (slot : Nat) (bs : List Byte) (s : State) : (appendRecord slot bs s).1.mech = s.mech := by
  rcases appendRecord_cases slot bs s with ⟨-, he⟩ | ⟨t, -, ha, he⟩ | ⟨-, -, he⟩ <;> rw [he]
  · rfl
  · simp [allocate_mech ha]
  · rfl

theorem startPage_mech {n : Nat} {r : Resolution} {w : PageWidth} {f : Bool} {p : Nat × State} (h : startPage n r w f s = .ok p) :
    p.2.mech = s.mech := by
  unfold startPage at h
  dsimp only at h
  split at h
  · cases h
  split at h
  · cases h
  split at h <;> cases h
  cases ha : allocate _ _ with
  | none => simp
  | some x => simp [allocate_mech ha]

section
variable (s : State)

/-! ## The readers (R12 to R21) -/

@[simp] theorem whitenFor_mech (o : Outlet) : (whitenFor o s).mech = s.mech := by cases o <;> rfl
@[simp] theorem onReaderJob_mech (o : Outlet) (f : Job → Job) : (onReaderJob o f s).mech = s.mech := by unfold onReaderJob; split <;> rfl
@[simp] theorem trimPage_mech (slot lines : Nat) (place : Option Cursor) : (trimPage slot lines place s).mech = s.mech := by
  cases place <;> simp [trimPage]
@[simp] theorem damagePage_mech (slot lines : Nat) (place : Option Cursor) : (damagePage slot lines place s).mech = s.mech := by
  simp [damagePage, apply_ite State.mech]
@[simp] theorem chainFault_mech (o : Outlet) (slot : Nat) : (chainFault o slot s).mech = s.mech := by simp [chainFault]
@[simp] theorem beginPage_mech (o : Outlet) (n i slot : Nat) (f : Bool) : (beginPage o n i slot f s).mech = s.mech := by
  simp [beginPage, apply_ite State.mech]
@[simp] theorem lastReaderLeft_mech (slot : Nat) : (lastReaderLeft slot s).mech = s.mech := by
  simp [lastReaderLeft, apply_ite State.mech]
@[simp] theorem leavePage_mech (o : Outlet) : (leavePage o s).mech = s.mech := by
  unfold leavePage; split
  · rfl
  · simp [apply_ite State.mech]
@[simp] theorem toConsumed_mech (o : Outlet) : (toConsumed o s).mech = s.mech := by simp [toConsumed]
@[simp] theorem toStart_mech (o : Outlet) : (toStart o s).mech = s.mech := by unfold toStart; split <;> simp
@[simp] theorem suspectBlocks_mech (bs : List Nat) : (suspectBlocks bs s).mech = s.mech := foldl_mech (fun s b => onBlock_mech s b _) bs s
@[simp] theorem handOn_mech (o : Outlet) (l : Line) (r : List Byte) (c : Cursor) : (handOn o l r c s).mech = s.mech := rfl
@[simp] theorem conceal_mech (o : Outlet) (slot : Nat) (w : PageWidth) (bs failing : List ChainByte) :
    (conceal o slot w bs failing s).mech = s.mech := by
  unfold conceal; dsimp only; split <;> simp
@[simp] theorem countRecovered_mech (bs : List ChainByte) : (countRecovered bs s).mech = s.mech := by
  unfold countRecovered; split <;> rfl
@[simp] theorem readHere_mech (o : Outlet) (slot : Nat) : (readHere o slot s).mech = s.mech := by
  unfold readHere; dsimp only; split
  · simp
  · split <;> simp
@[simp] theorem arriveAt_mech (o : Outlet) (c : Cursor) : (arriveAt o c s).mech = s.mech := rfl
@[simp] theorem readLineOf_mech (o : Outlet) : (readLineOf o s).mech = s.mech := by
  unfold readLineOf; dsimp only; repeat' split
  all_goals simp
@[simp] theorem consumeLine_mech (o : Outlet) : (consumeLine o s).mech = s.mech := by unfold consumeLine; split <;> simp
@[simp] theorem consumeLines_mech (o : Outlet) (n : Nat) : (consumeLines o n s).mech = s.mech := by
  induction n generalizing s with
  | zero => rfl
  | succ n ih => simp [consumeLines, ih]
end

theorem farRule_mech {o : Outlet} (h : farRule o s = some t) : t.mech = s.mech := by
  unfold farRule at h
  split at h
  · cases h
  · obtain ⟨_, _, rfl⟩ := Option.map_eq_some_iff.1 h; simp [freeFront]

section
variable (s : State)

/-! ## The head's supply and the modes (R103, R104, R146 to R152) -/

@[simp] theorem takeSamples_mech (c v : Byte) : (takeSamples c v s).mech = s.mech := by simp [takeSamples, apply_ite State.mech]
@[simp] theorem headOff_mech : (headOff s).mech = s.mech := by rw [headOff_eq]
@[simp] theorem headOn_mech : (headOn s).mech = s.mech := by unfold headOn; split <;> rfl
@[simp] theorem enterActive_mech : (enterActive s).mech = s.mech := by unfold enterActive; split <;> simp
@[simp] theorem wakeCause_mech (c : WakeCauses) : (wakeCause c s).mech = s.mech := by unfold wakeCause; split <;> rfl

/-! ## The jobs (R49 to R63) -/

@[simp] theorem discardScanPage_mech : (discardScanPage s).mech = s.mech := (stilled_discardScanPage s).mech
@[simp] theorem keepScanPage_mech : (keepScanPage s).mech = s.mech := by unfold keepScanPage; split <;> rfl
@[simp] theorem endLinkPage_mech (keep : Bool) : (endLinkPage keep s).mech = s.mech := by
  unfold endLinkPage; split
  · rfl
  · simp [keepShort, apply_ite State.mech]
@[simp] theorem raiseJob_mech (k : Nat) (f : Option FinalStatus) : (raiseJob k f s).mech = s.mech := (stilled_raiseJob s k f).mech
@[simp] theorem enterStopped_mech (k : Nat) (stop : Stop) : (enterStopped k stop s).mech = s.mech := by
  cases stop
  exacts [rfl, (stilled_enterBoundary s k _).mech]
@[simp] theorem stopJob_mech (k : Nat) (stop : Stop) : (stopJob k stop s).mech = s.mech := by unfold stopJob; split <;> simp
@[simp] theorem endWriting_mech (kind : JobKind) (keep : Bool) : (endWriting kind keep s).mech = s.mech := by
  simp [endWriting, apply_ite State.mech]
@[simp] theorem endReading_mech (kind : JobKind) : (endReading kind s).mech = s.mech := by simp [endReading, apply_ite State.mech]
@[simp] theorem giveUpWriting_mech (n id : Nat) : (giveUpWriting n id s).mech = s.mech := by unfold giveUpWriting; split <;> simp
@[simp] theorem leaveDocument_mech (j : Job) : (leaveDocument j s).mech = s.mech := by simp [leaveDocument]
@[simp] theorem joinLists_mech (k : Nat) (kind : JobKind) (y : Bool) : (joinLists k kind y s).mech = s.mech :=
  foldl_mech (g := fun s e => onWaits e (joinList s k y) s) (fun _ _ => rfl) _ s
@[simp] theorem leaveLists_mech (k : Nat) : (leaveLists k s).mech = s.mech := rfl
@[simp] theorem yieldJob_mech (k : Nat) (j : Job) : (yieldJob k j s).mech = s.mech := by
  have freed : ∀ v : State, (j.kind.engines.foldl (fun s e => setHolder e .free s) v).mech = v.mech :=
    foldl_mech (fun v e => setHolder_mech v e .free) _
  unfold yieldJob
  dsimp only
  split <;> simp [freed]
@[simp] theorem compareAtPageEnd_mech (k : Nat) : (compareAtPageEnd k s).mech = s.mech := by
  unfold compareAtPageEnd; split
  · rfl
  · simp [apply_ite State.mech]
@[simp] theorem carryRepeat_mech (k : Nat) : (carryRepeat k s).mech = s.mech := by unfold carryRepeat; dsimp only; split <;> rfl
@[simp] theorem grantJob_mech (k : Nat) (kind : JobKind) : (grantJob k kind s).mech = s.mech := by
  have worked : ∀ (v : State) (e : Engine), (beginWork e (takeEngine e (.job k) v)).mech = v.mech := fun v e => by cases e <;> rfl
  have engaged : (engage k kind s).mech = s.mech := foldl_mech worked _ _
  rw [grantJob_eq]
  split <;> simp [granted, engaged]

/-! ## The scan side (R65 to R100) -/

@[simp] theorem acceptStart_mech (k slot : Nat) : (acceptStart k slot s).mech = s.mech := rfl
@[simp] theorem requestStart_mech (k : Nat) (j : Job) : (requestStart k j s).mech = s.mech := by
  unfold requestStart scanStart
  split
  · next h => simp [startPage_mech h]
  · simp
@[simp] theorem waitSilently_mech (k : Nat) (b : Bool) : (waitSilently k b s).mech = s.mech := by unfold waitSilently; split <;> rfl
@[simp] theorem endScanPage_mech (k : Nat) (j : Job) : (endScanPage k j s).mech = s.mech := by
  unfold endScanPage; dsimp only; split <;> rfl
@[simp] theorem endScanSide_mech (k : Nat) : (endScanSide k s).mech = s.mech := by unfold endScanSide; split <;> simp [setScanPhase]
@[simp] theorem beginEject_mech (a : AfterEject) (b : Bool) : (beginEject a b s).mech = s.mech := rfl

/-! ## The print and the send side (R46, R68 to R77) -/

@[simp] theorem starveRead_mech (k : Nat) (b : Bool) : (starveRead k b s).mech = s.mech := rfl
@[simp] theorem nextLine_mech : (nextLine s).mech = s.mech := by
  unfold nextLine; dsimp only; repeat' split
  all_goals simp
@[simp] theorem countClamped_mech (l : StoredLine) (n : Nat) : (countClamped l n s).mech = s.mech := by unfold countClamped; split <;> rfl
@[simp] theorem backToConsumed_mech : (backToConsumed s).mech = s.mech := by unfold backToConsumed; split <;> simp [printToConsumed]
@[simp] theorem frameSent_mech (o : OutFrame) : (frameSent o s).mech = s.mech := by
  unfold frameSent; split
  · simp
  · simp [apply_ite State.mech]
end

end Sys2Proof.Machine
end

section
/-! What leaves the paces of both motors (O2): the jobs' operations, which make LINE entries FEED-ONLY at most, the currents and the cutter;
and what puts an entry in a queue. -/

namespace Sys2Proof.Machine

-- One theorem at a time, as in the tests: a thread for each would exceed the memory allowed.
set_option Elab.async false

variable {s t : State}

/-! ## The pace of a motor (R125, R126) -/

/-- All that `Feed.levelSound` reads of a motor: whether it moves, whether a step is queued, its level and the allowances. -/
def Feed.pace (f : Feed) : Bool × Bool × Nat × List Nat := (f.moving, f.queue.isEmpty, f.level, f.allowances)

/-- The paces of the two motors. -/
def Mechanism.paces (x : Mechanism) : (Bool × Bool × Nat × List Nat) × (Bool × Bool × Nat × List Nat) := (x.scanFeed.pace, x.printFeed.pace)

theorem Feed.levelSound.of_pace {f g : Feed} (h : f.levelSound) (hp : g.pace = f.pace) : g.levelSound := by
  simp only [Feed.pace, Prod.mk.injEq] at hp
  obtain ⟨hmoving, hempty, hlevel, hallowed⟩ := hp
  refine ⟨fun hm => hlevel.trans (h.atRest (hmoving ▸ hm)), fun hq => hlevel.trans (h.drained ?_), ?_⟩
  · rw [hq] at hempty
    exact List.isEmpty_iff.1 hempty.symm
  · rw [hlevel, hallowed]
    exact h.allowed

theorem State.levelsSound.of_paces (hs : s.levelsSound) (h : t.mech.paces = s.mech.paces) : t.levelsSound := by
  obtain ⟨hscan, hprint⟩ := hs
  simp only [Mechanism.paces, Prod.mk.injEq] at h
  exact ⟨hscan.of_pace h.1, hprint.of_pace h.2⟩

/-- R126: a motor at level 0. -/
theorem levelSound_zero {f : Feed} (h : f.level = 0) : f.levelSound := ⟨fun _ => h, fun _ => h, by omega⟩

theorem levelsSound_iff : s.levelsSound ↔ ∀ m, (feedOf s m).levelSound :=
  ⟨fun h m => by cases m; exacts [h.1, h.2], fun h => ⟨h .scan, h .print⟩⟩

theorem onFeed_paces {g : Feed → Feed} (hg : ∀ f, (g f).pace = f.pace) (m : Motor) (s : State) : (onFeed m g s).mech.paces = s.mech.paces := by
  cases m
  exacts [congrArg (·, s.mech.printFeed.pace) (hg _), congrArg (s.mech.scanFeed.pace, ·) (hg _)]

/-- A change of one motor that leaves its level sound. -/
theorem levels_onFeed {m : Motor} {g : Feed → Feed} (hs : s.levelsSound) (hg : (g (feedOf s m)).levelSound) : (onFeed m g s).levelsSound := by
  refine levelsSound_iff.2 fun i => ?_
  rw [feedOf_onFeed]
  split
  exacts [hg, levelsSound_iff.1 hs i]

/-- R123: an entry queued. -/
theorem levels_enqueue {m : Motor} {e : Entry} (hs : s.levelsSound) : (enqueue m e s).levelsSound :=
  levels_onFeed hs (levelSound_enqueued (levelsSound_iff.1 hs m) _)

theorem foldl_paces {α : Type} {g : State → α → State} (hg : ∀ s x, (g s x).mech.paces = s.mech.paces) (l : List α) (s : State) :
    (l.foldl g s).mech.paces = s.mech.paces :=
  List.foldlRecOn l g (motive := fun t => t.mech.paces = s.mech.paces) rfl fun t h x _ => (hg t x).trans h

section
variable (s : State)

/-! ## The currents and the cutter (R131, R138) -/

@[simp] theorem setCurrent_paces (m : Motor) (c : MotorState) : (setCurrent m c s).mech.paces = s.mech.paces :=
  onFeed_paces (g := fun f => { f with current := c, since := s.now }) (fun _ => rfl) m s
@[simp] theorem currentsNow_paces (m : Motor) : (currentsNow m s).mech.paces = s.mech.paces := by
  unfold currentsNow; dsimp only; repeat' split
  all_goals simp
@[simp] theorem enterStandby_paces : (enterStandby s).mech.paces = s.mech.paces := by
  unfold enterStandby
  rw [headOff_eq]
  rfl
@[simp] theorem driveOff_paces : (driveOff s).mech.paces = s.mech.paces := by unfold driveOff; split <;> rfl

/-! ## The jobs (R61 to R63, R129) -/

@[simp] theorem feedOnlyQueue_paces (m : Motor) : (feedOnlyQueue m s).mech.paces = s.mech.paces :=
  onFeed_paces (fun f => by simp [Feed.pace, Feed.allowances, capsOf_feedOnly]) m s

@[simp] theorem releaseEngine_paces (e : Engine) : (releaseEngine e s).mech.paces = s.mech.paces := by
  have faults : ∀ (l : List Nat) (v : State), (l.foldl (fun s _ => linkFault .noReceiver s) v).mech = v.mech :=
    foldl_mech fun v _ => linkFault_mech v _
  cases e
  case scanner => exact feedOnlyQueue_paces s .scan
  case printer => exact feedOnlyQueue_paces s .print
  case linkIn => simp [releaseEngine, faults]
  case linkOut => simp [releaseEngine]

@[simp] theorem endJob_paces (k : Nat) (status : FinalStatus) : (endJob k status s).mech.paces = s.mech.paces := by
  have released : ∀ (l : List Engine) (v : State), (l.foldl (fun s e => releaseEngine e s) v).mech.paces = v.mech.paces :=
    foldl_paces fun v e => releaseEngine_paces v e
  unfold endJob
  dsimp only
  split
  · rfl
  · simp only [State.onJobs_mech, raiseJob_mech, released, leaveDocument_mech]
    repeat' split
    all_goals simp

@[simp] theorem endIfDone_paces (k : Nat) : (endIfDone k s).mech.paces = s.mech.paces := by
  unfold endIfDone; repeat' split
  all_goals simp
@[simp] theorem moveOn_paces (k : Nat) : (moveOn k s).mech.paces = s.mech.paces := by simp [moveOn]
@[simp] theorem carryNext_paces (k : Nat) : (carryNext k s).mech.paces = s.mech.paces := by unfold carryNext; split <;> simp
@[simp] theorem carryPageEnd_paces (k : Nat) (c : Choice) : (carryPageEnd k c s).mech.paces = s.mech.paces := by
  unfold carryPageEnd; split <;> simp
@[simp] theorem meet_paces (k : Nat) (b : Boundary) : (meet k b s).mech.paces = s.mech.paces := by
  unfold meet; repeat' split
  all_goals simp

/-! ## The scan side and the print side (R66, R67, R71, R100) -/

@[simp] theorem jamScan_paces (k : Nat) (r : Reason) : (jamScan k r s).mech.paces = s.mech.paces := by simp [jamScan, raiseDocJam, setScanPhase]
@[simp] theorem meetFull_paces (k : Nat) (r : FullReason) (mid : Bool) : (meetFull k r mid s).mech.paces = s.mech.paces := by simp [meetFull]
@[simp] theorem afterEject_paces (k : Nat) (a : AfterEject) : (afterEject k a s).mech.paces = s.mech.paces := by
  unfold afterEject; split <;> simp
@[simp] theorem copyEnd_paces (k : Nat) (j : Job) : (copyEnd k j s).mech.paces = s.mech.paces := by
  unfold copyEnd; repeat' split
  all_goals simp
end

end Sys2Proof.Machine
end

section
/-! What follows of itself within a step keeps the levels of both motors sound (O2): an entry may be queued, and no step is taken. -/

namespace Sys2Proof.Machine

-- One theorem at a time, as in the tests: a thread for each would exceed the memory allowed.
set_option Elab.async false

variable {s t : State}

/-! ## The scan side (R65 to R67, R84 to R100) -/

section
variable (hs : s.levelsSound)
include hs

theorem levels_canMeet {k : Nat} {j : Job} {c : BoundaryCode} (ht : (if canMeet j c then some (meet k (plainCode c) s) else none) = some t) :
    t.levelsSound := by
  split at ht <;> cases ht
  exact hs.of_paces (by simp)

theorem levels_noRoom {k : Nat} {j : Job} {r : FullReason} {mid : Bool} (ht : noRoom k j r mid s = some t) : t.levelsSound := by
  unfold noRoom at ht
  split at ht
  · cases ht
  split at ht
  · split at ht <;> cases ht
    exact hs.of_paces (by simp)
  split at ht <;> cases ht
  exact hs.of_paces (by simp)

/-- An entry queued after changes that leave the paces. -/
theorem levels_admitted {m : Motor} {e : Entry} (h : t.mech.paces = s.mech.paces) : (enqueue m e t).levelsSound := levels_enqueue (hs.of_paces h)

theorem levels_ejectOffer {e : Eject} (ht : ejectOffer s e = some t) : t.levelsSound := by
  unfold ejectOffer at ht
  split at ht
  · cases ht
  split at ht
  · split at ht <;> cases ht
    exact levels_admitted hs rfl
  split at ht
  · cases ht
  split at ht
  · split at ht <;> cases ht
    exact levels_enqueue hs
  split at ht
  · cases ht; exact hs.of_paces rfl
  split at ht <;> cases ht
  exact levels_admitted hs rfl

theorem levels_lookRule {k : Nat} {j : Job} {again : Bool} (ht : lookRule k j again s = some t) : t.levelsSound := by
  refine hs.of_paces ?_
  unfold lookRule heldLook at ht
  split at ht
  · split at ht
    · cases ht
    split at ht <;> cases ht
    simp
  split at ht
  · cases ht; simp
  split at ht
  · cases ht; simp
  split at ht <;> cases ht
  simp

theorem levels_warmRule {k : Nat} {j : Job} (ht : warmRule k j s = some t) : t.levelsSound := by
  unfold warmRule at ht
  split at ht
  · split at ht <;> cases ht
    · exact hs.of_paces (by simp)
    · exact hs.of_paces rfl
  · cases ht

theorem levels_pickRule {k : Nat} {j : Job} (ht : pickRule k j s = some t) : t.levelsSound := by
  unfold pickRule at ht
  dsimp only at ht
  split at ht
  · split at ht
    · split at ht <;> cases ht
      exact hs.of_paces rfl
    · split at ht <;> cases ht
      exact levels_admitted hs rfl
  split at ht <;> cases ht
  exact hs.of_paces (by simp)

theorem levels_linesRule {k : Nat} {j : Job} (ht : linesRule k j s = some t) : t.levelsSound := by
  unfold linesRule at ht
  dsimp only at ht
  split at ht
  · cases ht; exact hs.of_paces (by simp)
  split at ht
  · cases ht; exact levels_admitted hs rfl
  split at ht
  · cases ht; exact levels_admitted hs rfl
  split at ht
  · cases ht; exact hs.of_paces (by simp)
  split at ht
  · cases ht
    split
    exacts [hs.of_paces rfl, levels_admitted hs rfl]
  split at ht <;> cases ht
  exact hs.of_paces rfl

theorem levels_pageDoneRule {k : Nat} {j : Job} (ht : pageDoneRule k j s = some t) : t.levelsSound := by
  unfold pageDoneRule at ht
  split at ht
  · split at ht <;> cases ht
    exact hs.of_paces rfl
  · exact levels_canMeet hs ht

theorem levels_ejectRule {k : Nat} {j : Job} (ht : ejectRule k j s = some t) : t.levelsSound := by
  unfold ejectRule at ht
  split at ht
  · split at ht
    · cases ht; exact hs.of_paces (by simp)
    split at ht
    · next ho => cases ht; exact levels_ejectOffer hs ho
    · split at ht <;> cases ht
      exact hs.of_paces (by simp)
  · cases ht

theorem levels_midPageRule {k : Nat} {j : Job} (ht : midPageRule k j s = some t) : t.levelsSound := by
  unfold midPageRule at ht
  split at ht
  · exact levels_noRoom hs ht
  split at ht <;> cases ht
  exact hs.of_paces (by simp)

theorem levels_heldStartRule {k : Nat} {j : Job} (ht : heldStartRule k j s = some t) : t.levelsSound := by
  unfold heldStartRule at ht
  split at ht <;> cases ht
  exact hs.of_paces (by simp)

theorem levels_lostRule {k : Nat} {j : Job} (ht : lostRule k j s = some t) : t.levelsSound := by
  unfold lostRule at ht
  split at ht
  · split at ht <;> cases ht
    exact hs.of_paces (by simp)
  · cases ht

theorem levels_scanPhaseRule {k : Nat} {j : Job} (ht : scanPhaseRule k j s = some t) : t.levelsSound := by
  unfold scanPhaseRule at ht
  split at ht
  · exact levels_lookRule hs ht
  · exact levels_lookRule hs ht
  · exact orElse_some (P := State.levelsSound) (levels_noRoom hs) (levels_heldStartRule hs) ht
  · exact levels_warmRule hs ht
  · exact levels_pickRule hs ht
  · exact levels_linesRule hs ht
  · exact levels_pageDoneRule hs ht
  · exact levels_ejectRule hs ht
  · cases ht
  · cases ht
  · cases ht

theorem levels_scanRule (ht : scanRule s = some t) : t.levelsSound := by
  unfold scanRule at ht
  split at ht
  · cases ht
  refine orElse_some (P := State.levelsSound) (levels_lostRule hs) (orElse_some (P := State.levelsSound) (fun ht => ?_) (levels_scanPhaseRule hs)) ht
  split at ht
  · exact levels_midPageRule hs ht
  · cases ht

theorem levels_docEjectRule (ht : docEjectRule s = some t) : t.levelsSound := by
  unfold docEjectRule at ht
  split at ht
  · split at ht
    · cases ht
    split at ht
    · cases ht; exact hs.of_paces (by simp [raiseDocJam])
    split at ht
    · next ho => cases ht; exact levels_ejectOffer hs ho
    split at ht <;> cases ht
    exact hs.of_paces (by simp)
  · cases ht

theorem levels_lampRule (ht : lampRule s = some t) : t.levelsSound := by
  unfold lampRule at ht
  split at ht <;> cases ht
  exact hs.of_paces rfl

/-! ## The print side (R68 to R71, R140) -/

theorem levels_starveReadRule {k : Nat} {j : Job} {b : Bool} (ht : starveReadRule k j b s = some t) : t.levelsSound := by
  unfold starveReadRule at ht
  split at ht <;> cases ht
  exact hs.of_paces rfl

theorem levels_needPageRule {k : Nat} {j : Job} (ht : needPageRule k j s = some t) : t.levelsSound := by
  unfold needPageRule waitingRule at ht
  split at ht
  · exact levels_starveReadRule hs ht
  split at ht
  · exact levels_starveReadRule hs ht
  all_goals cases ht; exact hs.of_paces (by simp)

theorem levels_printingRule {k : Nat} {j : Job} (ht : printingRule k j s = some t) : t.levelsSound := by
  unfold printingRule at ht
  split at ht
  · exact levels_starveReadRule hs ht
  split at ht
  · exact levels_starveReadRule hs ht
  · exact levels_starveReadRule hs ht
  · cases ht; exact hs.of_paces rfl

theorem levels_readDoneRule (ht : readDoneRule s = some t) : t.levelsSound := by
  unfold readDoneRule at ht
  split at ht <;> cases ht
  refine hs.of_paces ?_
  split <;> simp

theorem levels_cuttingRule {j : Job} (ht : cuttingRule j s = some t) : t.levelsSound := by
  unfold cuttingRule at ht
  split at ht
  · cases ht; exact hs.of_paces rfl
  · split at ht
    · cases ht; exact hs.of_paces rfl
    split at ht <;> cases ht
    exact levels_admitted hs rfl
  · split at ht <;> cases ht
    exact hs.of_paces rfl
  · cases ht
  · cases ht; exact hs.of_paces rfl

theorem levels_pageCutRule {k : Nat} {j : Job} (ht : pageCutRule k j s = some t) : t.levelsSound := by
  unfold pageCutRule at ht
  split at ht
  · split at ht <;> cases ht
    exact hs.of_paces rfl
  · exact levels_canMeet hs ht

theorem levels_printRule (ht : printRule s = some t) : t.levelsSound := by
  unfold printRule at ht
  split at ht
  · cases ht
  split at ht
  · exact levels_starveReadRule hs ht
  split at ht
  · cases ht
  · exact levels_needPageRule hs ht
  · exact levels_printingRule hs ht
  · exact levels_readDoneRule hs ht
  · exact levels_cuttingRule hs ht
  · exact levels_pageCutRule hs ht
  · exact levels_canMeet hs ht

/-! ## The send side (R76, R77) -/

theorem levels_noCreditRule {k : Nat} (ht : noCreditRule k s = some t) : t.levelsSound := by
  unfold noCreditRule at ht
  split at ht <;> cases ht
  exact hs.of_paces rfl

theorem levels_placeRecord {k : Nat} {j : Job} {l : ReadLine} (ht : placeRecord k j l s = some t) : t.levelsSound := by
  unfold placeRecord at ht
  dsimp only at ht
  split at ht
  · cases ht; exact hs.of_paces rfl
  split at ht <;> cases ht
  exact hs.of_paces rfl

theorem levels_sendingRule {k : Nat} {j : Job} (ht : sendingRule k j s = some t) : t.levelsSound := by
  unfold sendingRule at ht
  dsimp only at ht
  split at ht
  · cases ht; exact hs.of_paces rfl
  split at ht
  · split at ht
    · exact levels_noCreditRule hs ht
    · exact levels_placeRecord hs ht
  split at ht
  · split at ht
    · cases ht; exact hs.of_paces rfl
    split at ht
    · exact levels_noCreditRule hs ht
    · cases ht
      refine hs.of_paces ?_
      split <;> simp
  · split at ht
    · cases ht; exact hs.of_paces rfl
    split at ht <;> cases ht
    exact hs.of_paces rfl
  · split at ht <;> cases ht
    all_goals exact hs.of_paces rfl

theorem levels_sendNeedPageRule {k : Nat} {j : Job} (ht : sendNeedPageRule k j s = some t) : t.levelsSound := by
  unfold sendNeedPageRule waitingRule at ht
  split at ht
  · exact levels_starveReadRule hs ht
  split at ht
  · exact levels_starveReadRule hs ht
  all_goals cases ht; exact hs.of_paces (by simp)

theorem levels_sendRule (ht : sendRule s = some t) : t.levelsSound := by
  unfold sendRule at ht
  split at ht
  · cases ht
  split at ht
  · exact levels_sendNeedPageRule hs ht
  · split at ht
    · cases ht; exact hs.of_paces rfl
    split at ht
    · cases ht; exact hs.of_paces rfl
    split at ht
    · cases ht
    split at ht
    · exact levels_sendingRule hs ht
    split at ht <;> cases ht
    exact hs.of_paces rfl
  · exact levels_canMeet hs ht
  · cases ht
  · cases ht

/-! ## What follows of itself (R9, R54, R57, R61) -/

theorem levels_serveRecord {slot : Nat} {f : State → State} (hf : ∀ v, (f v).mech = v.mech) (ht : (allocate slot s).map f = some t) :
    t.levelsSound := by
  obtain ⟨v, ha, rfl⟩ := Option.map_eq_some_iff.1 ht
  exact hs.of_paces (by rw [hf, allocate_mech ha])

theorem levels_serveRule (ht : serveRule s = some t) : t.levelsSound := by
  obtain ⟨w, -, ht⟩ := List.exists_of_findSome?_eq_some ht
  cases w <;> simp only [serve] at ht
  case scanRecord =>
    unfold serveScan at ht
    split at ht
    · exact levels_serveRecord hs (fun v => by simp) ht
    · cases ht
  case linkRecord =>
    unfold serveLink at ht
    split at ht
    · exact levels_serveRecord hs (fun v => by simp) ht
    · cases ht
  case pageStart =>
    unfold serveStart at ht
    split at ht
    · cases ht
    split at ht
    · split at ht
      · next hstart => cases ht; exact hs.of_paces (by simp [startPage_mech hstart])
      · cases ht
    · cases ht

theorem levels_holdingRule (ht : holdingRule s = some t) : t.levelsSound := by
  obtain ⟨k, -, ht⟩ := List.exists_of_findSome?_eq_some ht
  split at ht
  · split at ht <;> cases ht
    exact hs.of_paces (by simp)
  · cases ht

theorem levels_internalRule (ht : internalRule s = some t) : t.levelsSound := by
  refine hs.of_paces ?_
  unfold internalRule at ht
  split at ht
  · cases ht; simp
  split at ht
  · cases ht; simp
  split at ht <;> cases ht
  simp

theorem levels_grantRule (ht : grantRule s = some t) : t.levelsSound := by
  obtain ⟨_, _, rfl⟩ := Option.map_eq_some_iff.1 ht
  exact hs.of_paces (by simp)

theorem levels_farRule {o : Outlet} (ht : farRule o s = some t) : t.levelsSound := hs.of_paces (by rw [farRule_mech ht])

theorem levels_nextRule (ht : nextRule s = some t) : t.levelsSound :=
  orElse_some (P := State.levelsSound) (levels_lampRule hs) (orElse_some (P := State.levelsSound) (levels_farRule hs)
    (orElse_some (P := State.levelsSound) (levels_farRule hs) (orElse_some (P := State.levelsSound) (levels_serveRule hs)
    (orElse_some (P := State.levelsSound) (levels_scanRule hs) (orElse_some (P := State.levelsSound) (levels_docEjectRule hs)
    (orElse_some (P := State.levelsSound) (levels_printRule hs) (orElse_some (P := State.levelsSound) (levels_sendRule hs)
    (orElse_some (P := State.levelsSound) (levels_holdingRule hs) (orElse_some (P := State.levelsSound) (levels_internalRule hs)
    (levels_grantRule hs)))))))))) ht

theorem levels_advance : (advance s).levelsSound := advanceBy_induction (fun _ _ ht h => levels_nextRule h ht) _ hs

end

end Sys2Proof.Machine
end

section
/-! The steps and motions of a motor, and the emergency stop, keep the levels of both motors sound (O2). -/

namespace Sys2Proof.Machine

-- One theorem at a time, as in the tests: a thread for each would exceed the memory allowed.
set_option Elab.async false

variable {s t : State} {m : Motor}

/-! ## The steps (R124, R126, R127) -/

theorem paces_of_feeds (h : ∀ m, feedOf t m = feedOf s m) : t.mech.paces = s.mech.paces :=
  Prod.ext (congrArg Feed.pace (h .scan)) (congrArg Feed.pace (h .print))

/-- R130: the first step of an entry makes the entries of the print queue FEED-ONLY at most. -/
theorem firstStep_paces (e : Entry) (s : State) : (firstStep e s).mech.paces = s.mech.paces := by
  rcases firstStep_mech e s with h | h <;> rw [h]
  exact feedOnlyQueue_paces s .print

theorem takeStep_paces {level : Nat} {e : Entry} {rest : List Entry} (h : (feedOf s m).queue = e :: rest) :
    (takeStep m level s).mech.paces = (onFeed m (Feed.stepped level s.now) s).mech.paces := by
  have counted := paces_of_feeds fun i => feedOf_stepCounted m i e (onFeed m (Feed.stepped level s.now) s)
  rw [takeStep_cons h]
  split
  exacts [(firstStep_paces e _).trans counted, counted]

/-- A step keeps the law where the stepped feed meets it. -/
theorem levels_takeStep {level : Nat} (hs : s.levelsSound) (hl : ((feedOf s m).stepped level s.now).levelSound) :
    (takeStep m level s).levelsSound := by
  cases hq : (feedOf s m).queue with
  | nil => unfold takeStep; rw [hq]; exact hs
  | cons e rest => exact (levels_onFeed hs hl).of_paces (takeStep_paces hq)

/-! ## The motions (R124, R126, R131) -/

/-- R124, R126: a motion begins from rest, and its first step is taken at level 0. -/
theorem levels_beginMotion (hs : s.levelsSound) (hd : motionBeginDue s m = true) : (beginMotion m s).levelsSound := by
  have still : (feedOf s m).moving = false := by
    simp only [motionBeginDue, motionDue, Bool.and_eq_true, Bool.not_eq_true'] at hd
    exact hd.1.1.1.1
  have slow : (feedOf s m).level = 0 := (levelsSound_iff.1 hs m).atRest still
  unfold beginMotion
  dsimp only
  split
  · exact levels_takeStep (levels_onFeed hs (levelSound_zero slow)) (levelSound_zero rfl)
  · exact levels_onFeed hs (levelSound_zero slow)

theorem levels_endEnergizing (hs : s.levelsSound) : (endEnergizing m s).levelsSound :=
  levels_takeStep (hs.of_paces (setCurrent_paces s m .run)) (levelSound_zero rfl)

/-- R126: the next step of a motion, within one of its next allowance. -/
theorem levels_feedStep (hs : s.levelsSound) (hd : stepDue s m = true) : (takeStep m (feedOf s m).nextLevel s).levelsSound := by
  simp only [stepDue, Bool.and_eq_true, Bool.not_eq_true'] at hd
  obtain ⟨⟨⟨⟨moving, -⟩, queued⟩, -⟩, -⟩ := hd
  refine levels_takeStep hs ?_
  cases hq : (feedOf s m).queue with
  | nil => rw [hq] at queued; cases queued
  | cons e rest => exact levelSound_stepped s.now moving hq

theorem levels_comeToRest (hs : s.levelsSound) : (comeToRest m s).levelsSound := levels_onFeed hs (levelSound_zero rfl)

/-! ## The emergency stop and the resets (R121, R135) -/

/-- R135: both motors are at level 0. -/
theorem levels_emergencyStop (cause : Reason) (s : State) : (emergencyStop cause s).levelsSound := by
  obtain ⟨_, _, _, hscan, hprint⟩ := mechanismHalted_feeds s
  obtain ⟨f, hstop⟩ := emergencyStop_onPower cause s
  have hmech : (emergencyStop cause s).mech = (mechanismHalted s).mech := by
    rw [hstop]
    exact (stilled_stopTold s cause).mech.trans (headOff_mech _)
  unfold State.levelsSound
  rw [hmech, hscan, hprint]
  exact ⟨levelSound_zero rfl, levelSound_zero rfl⟩

theorem levels_resetBlocks (kind : ResetKind) (s : State) : (resetBlocks kind s).levelsSound := ⟨levelSound_zero rfl, levelSound_zero rfl⟩

theorem levels_resetStarted (kind : ResetKind) (f : StartUp → StartUp) (s : State) : ((resetBlocks kind s).onStart f).levelsSound :=
  (levels_resetBlocks kind s).of_paces rfl

end Sys2Proof.Machine
end

section
/-! What the events and the commands bring about leaves the paces of both motors (O2), but for the steps, the motions and the entries. -/

namespace Sys2Proof.Machine

-- One theorem at a time, as in the tests: a thread for each would exceed the memory allowed.
set_option Elab.async false

variable (s : State)

/-! ## The link and its channel (R37 to R43, R191 to R197) -/

@[simp] theorem huntAgain_mech : (huntAgain s).mech = s.mech := rfl
@[simp] theorem dropGap_mech : (dropGap s).mech = s.mech := by simp [dropGap]
@[simp] theorem judgeFrame_mech : (judgeFrame s).mech = s.mech := by simp [judgeFrame, validFrame, apply_ite State.mech]
@[simp] theorem takeFrameByte_mech (b : Byte) : (takeFrameByte b s).mech = s.mech := by simp [takeFrameByte, apply_ite State.mech]
@[simp] theorem huntByte_mech (b : Byte) : (huntByte b s).mech = s.mech := by simp [huntByte, apply_ite State.mech]
@[simp] theorem receiveByte_mech (b : Byte) (framing : Bool) : (receiveByte b framing s).mech = s.mech := by
  simp [receiveByte, apply_ite State.mech]
@[simp] theorem beforeByte_mech : (beforeByte s).mech = s.mech := by simp [beforeByte, apply_ite State.mech]
@[simp] theorem enqueueFrame_mech (f : InFrame) : (enqueueFrame f s).mech = s.mech := by unfold enqueueFrame; split <;> rfl
@[simp] theorem routeFrame_mech (f : InFrame) : (routeFrame f s).mech = s.mech := by
  unfold routeFrame; split
  · simp
  · simp [apply_ite State.mech]
@[simp] theorem onLinkIn_mech (f : LinkIn → LinkIn) : (onLinkIn f s).mech = s.mech := rfl
@[simp] theorem takeItem_mech (rest : List Byte) : (takeItem rest s).mech = s.mech := rfl
@[simp] theorem meetRxFull_paces (k : Nat) (r : FullReason) : (meetRxFull k r s).mech.paces = s.mech.paces := by simp [meetRxFull]
@[simp] theorem storeReceived_paces (k slot : Nat) (record : List Byte) (c : Bool) :
    (storeReceived k slot record c s).mech.paces = s.mech.paces := by
  simp [storeReceived, apply_ite State.mech, apply_ite Mechanism.paces]
@[simp] theorem dropReceived_mech (k : Nat) (c : LinkIn) : (dropReceived k c s).mech = s.mech := by
  unfold dropReceived; dsimp only; repeat' split
  all_goals rfl
@[simp] theorem takeLine_paces (record : List Byte) (c : Bool) : (takeLine record c s).mech.paces = s.mech.paces := by
  unfold takeLine; repeat' split
  all_goals simp
@[simp] theorem endReceived_mech : (endReceived s).mech = s.mech := by
  unfold endReceived; dsimp only; repeat' split
  all_goals simp
@[simp] theorem beginReceived_paces (r : Resolution) (w : PageWidth) : (beginReceived r w s).mech.paces = s.mech.paces := by
  unfold beginReceived
  split
  · rfl
  split
  · next h => simp [startPage_mech h]
  · simp
@[simp] theorem receiveLine_paces : (receiveLine s).mech.paces = s.mech.paces := by unfold receiveLine; split <;> simp
@[simp] theorem receiveBegin_paces : (receiveBegin s).mech.paces = s.mech.paces := by unfold receiveBegin; split <;> simp
@[simp] theorem receiveEnd_mech : (receiveEnd s).mech = s.mech := by unfold receiveEnd; split <;> simp
@[simp] theorem receiveLost_paces : (receiveLost s).mech.paces = s.mech.paces := by
  unfold receiveLost; split
  · simp [apply_ite State.mech, apply_ite Mechanism.paces]
  · rfl
@[simp] theorem dataOutSent_mech (faults : ParityFaults) : (dataOutSent faults s).mech = s.mech := by
  unfold dataOutSent; split
  · rfl
  · simp [transmitNext]

/-! ## The scan path, its lamp and calibration (R83, R88 to R97) -/

@[simp] theorem onSlots_mech (f : List LineSlot → List LineSlot) : (onSlots f s).mech = s.mech := rfl
@[simp] theorem endCapture_mech (raw : List Byte) : (endCapture raw s).mech = s.mech := by unfold endCapture; split <;> rfl
@[simp] theorem codeCaptured_mech : (codeCaptured s).mech = s.mech := by unfold codeCaptured; split <;> rfl
@[simp] theorem storeScanned_mech (slot n : Nat) (record : List Byte) : (storeScanned slot n record s).mech = s.mech := by
  simp [storeScanned, onUntaken, apply_ite State.mech]
@[simp] theorem takeScanned_mech : (takeScanned s).mech = s.mech := by
  unfold takeScanned; repeat' split
  all_goals simp [onUntaken, dropPageLine]
@[simp] theorem endCalibration_mech (o : DoneOutcome) (c : CalOutcome) : (endCalibration o c s).mech = s.mech := by
  unfold endCalibration; dsimp only; split <;> simp [lampOff]
@[simp] theorem endCalibrationLine_mech (raw : List Byte) : (endCalibrationLine raw s).mech = s.mech := by
  unfold endCalibrationLine; split
  · rfl
  · simp [installCalibration, lampOn, apply_ite State.mech]
@[simp] theorem abandonCalibration_mech : (abandonCalibration s).mech = s.mech := by unfold abandonCalibration; split <;> simp
@[simp] theorem sheetArrives_mech : (sheetArrives s).mech = s.mech := by
  unfold sheetArrives; repeat' split
  all_goals rfl
@[simp] theorem sheetLeaves_mech : (sheetLeaves s).mech = s.mech := by
  unfold sheetLeaves; repeat' split
  all_goals rfl

/-! ## The cutter and the sensors (R134 to R140) -/

@[simp] theorem sensed_mech (c : WakeCauses) : (sensed c s).mech = s.mech := by simp [sensed]
@[simp] theorem cycleSucceeds_mech : (cycleSucceeds s).mech = s.mech := by
  unfold cycleSucceeds; dsimp only; repeat' split
  all_goals simp [cutSucceeded]
@[simp] theorem homeChanged_paces (home : Bool) : (homeChanged home s).mech.paces = s.mech.paces := by
  unfold homeChanged; dsimp only; split
  · rw [cycleSucceeds_mech]; rfl
  · rfl
@[simp] theorem quietJam_paces : (quietJam s).mech.paces = s.mech.paces := by
  unfold quietJam; dsimp only; repeat' split
  all_goals simp
@[simp] theorem coverCloses_mech : (coverCloses s).mech = s.mech := by simp [coverCloses, apply_ite State.mech]
@[simp] theorem beginHoming_paces (l : Levels) : (beginHoming l s).mech.paces = s.mech.paces := by
  unfold beginHoming; dsimp only; repeat' split
  all_goals rfl
@[simp] theorem beginStartCalibration_mech (l : Levels) : (beginStartCalibration l s).mech = s.mech := by
  unfold beginStartCalibration; split <;> rfl

/-! ## The firing (R114, R116) -/

@[simp] theorem endSubpulse_mech : (endSubpulse s).mech = s.mech := by
  unfold endSubpulse lineStrobed; repeat' split
  all_goals simp

/-! ## The modes, ringing, silence, the battery (R149 to R165) -/

@[simp] theorem ringStops_mech (why : RingStop) : (ringStops why s).mech = s.mech := by
  unfold ringStops; dsimp only; split <;> simp
@[simp] theorem ringQualifies_mech (length : Nat) : (ringQualifies length s).mech = s.mech := by
  unfold ringQualifies; dsimp only; repeat' split
  all_goals simp
@[simp] theorem judgeBurst_mech : (judgeBurst s).mech = s.mech := by unfold judgeBurst; dsimp only; split <;> simp
@[simp] theorem ringOverdue_mech : (ringOverdue s).mech = s.mech := by simp [ringOverdue, apply_ite State.mech]
@[simp] theorem takePulse_mech : (takePulse s).mech = s.mech := by
  unfold takePulse; repeat' split
  all_goals simp
@[simp] theorem alarmExpires_mech : (alarmExpires s).mech = s.mech := by
  unfold alarmExpires; dsimp only; split <;> simp
@[simp] theorem firstExpiry_mech : (firstExpiry s).mech = s.mech := by
  have held : ∀ l : List Nat, (l.foldl (fun s k => stopJob k .hold s) s).mech = s.mech := fun l =>
    foldl_mech (fun v k => stopJob_mech v k .hold) l s
  simp [firstExpiry, held]
@[simp] theorem secondExpiry_paces : (secondExpiry s).mech.paces = s.mech.paces := by
  rw [secondExpiry_eq]
  exact foldl_paces (fun v k => endJob_paces v k .aborted) _ (hostResetBegun s)
@[simp] theorem silenceNow_paces : (silenceNow s).mech.paces = s.mech.paces := by
  simp [silenceNow, apply_ite State.mech, apply_ite Mechanism.paces]
@[simp] theorem readBattery_mech (low : Bool) : (readBattery low s).mech = s.mech := by unfold readBattery; dsimp only; split <;> simp

/-! ## The start-up and the settings' stores (R169 to R177, R187) -/

@[simp] theorem build_mech (size : Nat) (failing : List Nat) (faults : ParityFaults) :
    (if s.start.domainLost then buildFresh size failing s else buildRebuilt faults s).mech = s.mech := by
  split
  · rfl
  · obtain ⟨_, _, -, hbuilt, rebuilt⟩ := buildRebuilt_eq faults s
    obtain ⟨_, _, _, _, rfl⟩ := rebuilt.frame.rest
    rw [hbuilt]
    rfl
@[simp] theorem raiseHeldAlarm_mech : (raiseHeldAlarm s).mech = s.mech := by unfold raiseHeldAlarm; split <;> simp
@[simp] theorem release_mech : (release s).mech = s.mech := by
  unfold release
  extract_lets ready linked counted booted supplied
  rw [raiseHeldAlarm_mech]
  have hbooted : booted.mech = s.mech := raise_mech counted 0 _
  change (if booted.start.batteryLow then raise 3 (.supply false true none) booted else booted).mech = s.mech
  split <;> simp [hbooted]
@[simp] theorem endStore_mech (r : StoreResult) (w : Writing) : (endStore r w s).mech = s.mech := by unfold endStore; split <;> simp

/-! ## The jobs' commands (R49 to R74) -/

@[simp] theorem fillSlot_mech (k : Nat) (j : Job) : (fillSlot k j s).mech = s.mech := by simp [fillSlot]
@[simp] theorem finishJam_paces (k : Nat) (j : Job) : (finishJam k j s).mech.paces = s.mech.paces := by
  unfold finishJam; repeat' split
  all_goals simp
@[simp] theorem carryFullMid_mech (k : Nat) (j : Job) (c : Choice) : (carryFullMid k j c s).mech = s.mech := by
  unfold carryFullMid; repeat' split
  all_goals simp
@[simp] theorem carryFullStart_paces (k : Nat) (j : Job) (c : Choice) : (carryFullStart k j c s).mech.paces = s.mech.paces := by
  unfold carryFullStart; repeat' split
  all_goals simp
@[simp] theorem repeatPrint_mech : (repeatPrint s).mech = s.mech := by unfold repeatPrint; split <;> simp [whitenHistory]
@[simp] theorem finishPrint_paces (k : Nat) (j : Job) : (finishPrint k j s).mech.paces = s.mech.paces := by
  unfold finishPrint ejectToFinish; repeat' split
  all_goals simp
@[simp] theorem carryPaper_paces (k : Nat) (j : Job) (c : Choice) : (carryPaper k j c s).mech.paces = s.mech.paces := by
  unfold carryPaper; split <;> simp [skipPage]
@[simp] theorem carryCut_paces (k : Nat) (j : Job) (c : Choice) : (carryCut k j c s).mech.paces = s.mech.paces := by
  unfold carryCut; split <;> simp
@[simp] theorem carryChoice_paces (k : Nat) (j : Job) (b : Boundary) (c : Choice) : (carryChoice k j b c s).mech.paces = s.mech.paces := by
  unfold carryChoice; repeat' split
  all_goals simp
@[simp] theorem resumed_paces (k : Nat) (j : Job) : (resumed k j s).mech.paces = s.mech.paces := by
  simp [resumed, apply_ite State.mech, apply_ite Mechanism.paces]
@[simp] theorem deleteDocument_mech (n : Nat) : (deleteDocument n s).mech = s.mech := by
  rw [deleteDocument, onDoc_mech]
  exact foldl_mech (fun v p => erasePage_mech v p) _ s

end Sys2Proof.Machine
end

section
/-! Every step keeps the levels of both motors sound (O2). -/

namespace Sys2Proof.Machine

-- One theorem at a time, as in the tests: a thread for each would exceed the memory allowed.
set_option Elab.async false

variable {s t : State}

/-! ## The verdicts of the commands (R195, R196) -/

/-- R126 holds of what a verdict of DONE leaves. -/
def Verdict.levelsSound (v : Verdict) : Prop := ∀ r, v = .ok r → r.1.levelsSound

theorem Verdict.levels_ok {data : List Byte} (h : s.levelsSound) : Verdict.levelsSound (.ok (s, data)) := fun _ hr => by cases hr; exact h
theorem Verdict.levels_error {a : Answer} : Verdict.levelsSound (.error a) := fun _ hr => nomatch hr

theorem Verdict.levels_ite {c : Prop} [Decidable c] {a b : Verdict} (ha : Verdict.levelsSound a) (hb : Verdict.levelsSound b) :
    Verdict.levelsSound (if c then a else b) := by
  split
  exacts [ha, hb]

/-- A check that refuses, or what follows it. -/
theorem Verdict.levels_unless {c : Prop} [Decidable c] {a : Answer} {v : Verdict} (hv : Verdict.levelsSound v) :
    Verdict.levelsSound (if c then .error a else v) := levels_ite levels_error hv

theorem levels_ite {c : Prop} [Decidable c] (ht : t.levelsSound) (hs : s.levelsSound) : (if c then t else s).levelsSound := by
  split
  exacts [ht, hs]

section
variable (hs : s.levelsSound)
include hs

theorem levels_event {due : Bool} {effect : State → State} (ht : event due effect s = .next t) (h : due = true → (effect s).levelsSound) :
    t.levelsSound := by
  rcases event_cases ht with ⟨hd, rfl⟩ | ⟨-, rfl⟩
  exacts [(h hd).of_paces rfl, hs]

/-- An event that leaves the paces. -/
theorem levels_quietEvent {due : Bool} {effect : State → State} (ht : event due effect s = .next t)
    (h : (effect s).mech.paces = s.mech.paces) : t.levelsSound := levels_event hs ht fun _ => hs.of_paces h

theorem levels_jobEvent {due : Bool} {effect : State → State} (ht : jobEvent due effect s = .next t)
    (h : due = true → (effect s).levelsSound) : t.levelsSound := levels_event hs ht fun hd => levels_advance (h hd)

theorem levels_quietJobEvent {due : Bool} {effect : State → State} (ht : jobEvent due effect s = .next t)
    (h : (effect s).mech.paces = s.mech.paces) : t.levelsSound := levels_jobEvent hs ht fun _ => hs.of_paces h

/-- R195: a command step keeps the law where its verdict does. -/
theorem levels_command {i : Instr} {judge : State → Verdict} (ht : command i judge s = .next t)
    (h : ∀ v, v.levelsSound → Verdict.levelsSound (judge v)) : t.levelsSound := by
  refine levels_event hs ht fun _ => ?_
  have released : (releaseCommand s).levelsSound := hs.of_paces rfl
  have judged := h _ released
  unfold answer
  split
  · next r hr => exact (judged r hr).of_paces rfl
  · exact released.of_paces rfl

/-- A command that answers with data alone (R195). -/
theorem levels_report {i : Instr} {data : State → List Byte} (ht : command i (fun s => .ok (s, data s)) s = .next t) : t.levelsSound :=
  levels_command hs ht fun _ h => Verdict.levels_ok h

/-- A verdict of DONE that leaves the paces. -/
theorem Verdict.levels_quiet {data : List Byte} (h : t.mech.paces = s.mech.paces) : Verdict.levelsSound (.ok (t, data)) :=
  Verdict.levels_ok (hs.of_paces h)

theorem Verdict.levels_advance {data : List Byte} (h : t.mech.paces = s.mech.paces) : Verdict.levelsSound (.ok (advance t, data)) :=
  Verdict.levels_ok (Machine.levels_advance (hs.of_paces h))

/-! ## The documents (R24 to R29) -/

theorem levels_docCreate {o r w : Byte} : Verdict.levelsSound (docCreate o r w s) := by
  unfold docCreate
  split
  · split
    exacts [Verdict.levels_quiet hs (by simp), Verdict.levels_error]
  all_goals exact Verdict.levels_error

theorem levels_docClose {n : Nat} : Verdict.levelsSound (docClose n s) :=
  Verdict.levels_unless (Verdict.levels_unless (Verdict.levels_advance hs (by simp)))

theorem levels_docDelete {n : Nat} : Verdict.levelsSound (docDelete n s) :=
  Verdict.levels_unless (Verdict.levels_unless (Verdict.levels_advance hs (by simp)))

theorem levels_pageDrop {n i : Nat} : Verdict.levelsSound (pageDrop n i s) := by
  unfold pageDrop
  split
  exacts [Verdict.levels_error, Verdict.levels_unless (Verdict.levels_advance hs (by simp))]

/-! ## The job commands (R49 to R78) -/

theorem levels_startJob {p : StartParams} : Verdict.levelsSound (startJob p s) := by
  unfold startJob
  split
  · exact Verdict.levels_error
  refine Verdict.levels_unless ?_
  split
  exacts [Verdict.levels_error, Verdict.levels_advance hs (by simp)]

theorem levels_takeAnswer {k : Nat} {j : Job} {b : Boundary} {c : Choice} : (takeAnswer k j b c s).levelsSound :=
  levels_ite (hs.of_paces (by simp)) (levels_ite hs (Machine.levels_advance (hs.of_paces (by simp))))

theorem levels_answerJob {id c : Nat} : Verdict.levelsSound (answerJob id c s) := by
  unfold answerJob
  split
  · exact Verdict.levels_error
  split
  · exact Verdict.levels_error
  refine Verdict.levels_ite (Verdict.levels_advance hs (by simp)) (Verdict.levels_unless ?_)
  split
  exacts [Verdict.levels_unless (Verdict.levels_ok (levels_takeAnswer hs)), Verdict.levels_error]

theorem levels_holdJob {id : Nat} : Verdict.levelsSound (holdJob id s) := by
  unfold holdJob
  split
  exacts [Verdict.levels_error, Verdict.levels_ite (Verdict.levels_advance hs (by simp)) Verdict.levels_error]

theorem levels_resumeJob {id : Nat} : Verdict.levelsSound (resumeJob id s) := by
  unfold resumeJob
  split
  exacts [Verdict.levels_error, Verdict.levels_ite (Verdict.levels_advance hs (by simp)) Verdict.levels_error]

theorem levels_abortJob {id : Nat} : Verdict.levelsSound (abortJob id s) := by
  unfold abortJob
  split
  exacts [Verdict.levels_error, Verdict.levels_advance hs (by simp)]

theorem levels_sendCredit {id n : Nat} : Verdict.levelsSound (sendCredit id n s) := by
  unfold sendCredit
  split
  exacts [Verdict.levels_error, Verdict.levels_unless (Verdict.levels_advance hs (by simp))]

/-! ## The mechanism, the modes, the settings (R96 to R99, R141, R142, R153, R183 to R189) -/

/-- R53, R146: an engine is taken and ACTIVE entered by a command. -/
theorem levels_activeTaken {e : Engine} {x : Holder} : (enterActive (takeEngine e x s)).levelsSound := hs.of_paces (by simp)

/-- R141: one entry, its steps counted from 0. -/
theorem levels_startAdvance {n : Nat} : (startAdvance n s).levelsSound :=
  levels_enqueue ((levels_activeTaken hs).of_paces (t := (enterActive _).onMech fun x => { x with advanced := 0 }) rfl)

theorem levels_modeSet {m : Nat} : Verdict.levelsSound (modeSet m s) := by
  unfold modeSet
  split
  · exact Verdict.levels_quiet hs (by simp)
  · exact Verdict.levels_ite (Verdict.levels_ok hs) (Verdict.levels_unless (Verdict.levels_quiet hs (by simp)))
  · exact Verdict.levels_unless (Verdict.levels_quiet hs rfl)
  · exact Verdict.levels_ok hs
  · exact Verdict.levels_error

theorem levels_alarmSet {n : Nat} : Verdict.levelsSound (alarmSet n s) :=
  Verdict.levels_unless (Verdict.levels_ite (Verdict.levels_quiet hs rfl) (Verdict.levels_quiet hs rfl))

/-- R185: the currents, STANDBY and a silence expiry leave the paces. -/
theorem levels_settingsEffect {low : Nat} : (settingsEffect low s).levelsSound := by
  have counted : (if s.settings.lowWater = low then s else lowAfterSetting s).levelsSound := levels_ite hs (hs.of_paces rfl)
  have currents := fun (v : State) (hv : v.levelsSound) => hv.of_paces (t := currentsNow .print (currentsNow .scan v)) (by simp)
  have idle := fun {c : Prop} [Decidable c] (v : State) (hv : v.levelsSound) =>
    levels_ite (c := c) (hv.of_paces (enterStandby_paces v)) hv
  exact levels_advance ((idle _ (currents _ counted)).of_paces (silenceNow_paces _))

theorem levels_settingSet {id v : Nat} : Verdict.levelsSound (settingSet id v s) := by
  have put : ∀ f, (s.onSettings f).levelsSound := fun _ => hs.of_paces rfl
  unfold settingSet
  split
  · exact Verdict.levels_error
  · exact Verdict.levels_unless (Verdict.levels_unless (Verdict.levels_unless (Verdict.levels_ok (levels_settingsEffect (put _)))))

theorem levels_settingsDefault {o : Nat} : Verdict.levelsSound (settingsDefault o s) := by
  have restored : (s.onSettings Settings.restored).levelsSound := hs.of_paces rfl
  have erased : ∀ f, (beginStore .default ((s.onSettings Settings.restored).onSettings f)).levelsSound := fun _ => hs.of_paces rfl
  exact Verdict.levels_unless (Verdict.levels_unless (Verdict.levels_unless (Verdict.levels_unless
    (Verdict.levels_ite (Verdict.levels_ok (levels_settingsEffect restored)) (Verdict.levels_ok (levels_settingsEffect (erased _)))))))

/-! ## The entries of lines (R46, R92, R105) -/

theorem levels_admitScanLine : (admitScanLine s).levelsSound :=
  (levels_enqueue (m := .scan) (e := scanEntry s s.scan.sheet.nextLine) hs).of_paces rfl

theorem levels_admitLine {l : StoredLine} : (admitLine l s).levelsSound := by
  unfold admitLine
  extract_lets history plan tag counted queued inked
  have admitted : queued.levelsSound := levels_admitted hs (congrArg Mechanism.paces (countClamped_mech s l plan.clamped))
  exact admitted.of_paces rfl

theorem levels_offerLine {thermistor supply : Byte} : (offerLine thermistor supply s).levelsSound := by
  have read : (nextLine s).levelsSound := hs.of_paces (by simp)
  have sampled : (takeSamples thermistor supply (nextLine s)).levelsSound := read.of_paces (by simp)
  unfold offerLine
  dsimp only
  split
  exacts [read, levels_ite sampled (levels_admitLine sampled)]

/-! ## The sensors and the cutter (R134 to R139) -/

theorem levels_coverOpens : (coverOpens s).levelsSound := levels_ite (levels_emergencyStop _ _) (hs.of_paces (by simp))

theorem levels_cover {opened : Bool} {c : WakeCauses} : (wakeCause c (if opened then coverOpens s else coverCloses s)).levelsSound := by
  have moved : (if opened then coverOpens s else coverCloses s).levelsSound := levels_ite (levels_coverOpens hs) (hs.of_paces (by simp))
  exact moved.of_paces (by simp)

theorem levels_cycleTimesOut : (cycleTimesOut s).levelsSound :=
  levels_ite (hs.of_paces (by simp)) (levels_ite (levels_emergencyStop _ _) (hs.of_paces (by simp)))

/-- R150, R180, R197: DOZE and a RESTART follow a reply. -/
theorem levels_replySent : (replySent s).levelsSound :=
  levels_ite (levels_resetBlocks _ _) (levels_ite (hs.of_paces rfl) (hs.of_paces rfl))

end

/-! ## The step -/

/-- R24 to R209: every step of the opcode table. -/
theorem levels_exec {i : Instr} (hs : s.levelsSound) (ht : exec i s = .next t) : t.levelsSound := by
  cases i with
  | ping _ _ _ _ =>
    rw [exec_ping] at ht
    exact levels_report hs ht
  | getEvents _ =>
    rw [exec_getEvents] at ht
    exact levels_command hs ht fun _ h => Verdict.levels_ite (Verdict.levels_quiet h rfl)
      (Verdict.levels_ite (Verdict.levels_quiet h rfl) Verdict.levels_error)
  | eventMask _ =>
    rw [exec_eventMask] at ht
    exact levels_command hs ht fun _ h => Verdict.levels_quiet h rfl
  | docCreate _ _ _ =>
    rw [exec_docCreate] at ht
    exact levels_command hs ht fun _ h => levels_docCreate h
  | docClose _ =>
    rw [exec_docClose] at ht
    exact levels_command hs ht fun _ h => levels_docClose h
  | docDelete _ =>
    rw [exec_docDelete] at ht
    exact levels_command hs ht fun _ h => levels_docDelete h
  | docInfo _ =>
    rw [exec_docInfo] at ht
    exact levels_command hs ht fun _ h => Verdict.levels_ite (Verdict.levels_ok h) Verdict.levels_error
  | docList =>
    rw [exec_docList] at ht
    exact levels_report hs ht
  | pageInfo _ _ =>
    rw [exec_pageInfo] at ht
    refine levels_command hs ht fun _ h => ?_
    split
    exacts [Verdict.levels_ok h, Verdict.levels_error]
  | pageDrop _ _ =>
    rw [exec_pageDrop] at ht
    exact levels_command hs ht fun _ h => levels_pageDrop h
  | storeStatus =>
    rw [exec_storeStatus] at ht
    exact levels_report hs ht
  | jobStart _ _ _ _ _ _ _ _ =>
    rw [exec_jobStart] at ht
    exact levels_command hs ht fun _ h => levels_startJob h
  | jobAnswer _ _ =>
    rw [exec_jobAnswer] at ht
    exact levels_command hs ht fun _ h => levels_answerJob h
  | jobHold _ =>
    rw [exec_jobHold] at ht
    exact levels_command hs ht fun _ h => levels_holdJob h
  | jobResume _ =>
    rw [exec_jobResume] at ht
    exact levels_command hs ht fun _ h => levels_resumeJob h
  | jobAbort _ =>
    rw [exec_jobAbort] at ht
    exact levels_command hs ht fun _ h => levels_abortJob h
  | jobStatus _ =>
    rw [exec_jobStatus] at ht
    refine levels_command hs ht fun _ h => ?_
    split
    exacts [Verdict.levels_ok h, Verdict.levels_error]
  | sendCredit _ count =>
    rw [exec_sendCredit] at ht
    exact levels_command hs ht fun v h => levels_sendCredit (s := v.onFaults fun _ => count.faults) (h.of_paces rfl)
  | scanCalibrate =>
    rw [exec_scanCalibrate] at ht
    exact levels_command hs ht fun _ h => Verdict.levels_unless (Verdict.levels_quiet (levels_activeTaken h) rfl)
  | docEject =>
    rw [exec_docEject] at ht
    exact levels_command hs ht fun _ h => Verdict.levels_unless (Verdict.levels_advance (levels_activeTaken h) rfl)
  | paperAdvance _ =>
    rw [exec_paperAdvance] at ht
    exact levels_command hs ht fun _ h => Verdict.levels_unless (Verdict.levels_unless (Verdict.levels_ok (levels_startAdvance h)))
  | cut =>
    rw [exec_cut] at ht
    exact levels_command hs ht fun _ h => Verdict.levels_unless (Verdict.levels_quiet (levels_activeTaken h) rfl)
  | sensorRead =>
    rw [exec_sensorRead] at ht
    exact levels_report hs ht
  | modeSet _ =>
    rw [exec_modeSet] at ht
    exact levels_command hs ht fun _ h => levels_modeSet h
  | alarmSet _ =>
    rw [exec_alarmSet] at ht
    exact levels_command hs ht fun _ h => levels_alarmSet h
  | alarmRead =>
    rw [exec_alarmRead] at ht
    exact levels_report hs ht
  | settingGet _ =>
    rw [exec_settingGet] at ht
    refine levels_command hs ht fun _ h => ?_
    split
    exacts [Verdict.levels_ok h, Verdict.levels_error]
  | settingSet _ _ =>
    rw [exec_settingSet] at ht
    exact levels_command hs ht fun _ h => levels_settingSet h
  | settingsStore =>
    rw [exec_settingsStore] at ht
    exact levels_command hs ht fun _ h => Verdict.levels_unless (Verdict.levels_unless (Verdict.levels_quiet h rfl))
  | settingsDefault _ =>
    rw [exec_settingsDefault] at ht
    exact levels_command hs ht fun _ h => levels_settingsDefault h
  | settingsProtect =>
    rw [exec_settingsProtect] at ht
    exact levels_command hs ht fun _ h => Verdict.levels_unless (Verdict.levels_quiet h rfl)
  | bootReport =>
    rw [exec_bootReport] at ht
    exact levels_report hs ht
  | clearCauses =>
    rw [exec_clearCauses] at ht
    exact levels_command hs ht fun _ h => Verdict.levels_quiet h rfl
  | restart =>
    rw [exec_restart] at ht
    exact levels_command hs ht fun _ h => Verdict.levels_unless (Verdict.levels_quiet h rfl)
  | unknownCommand _ =>
    rw [exec_unknownCommand] at ht
    exact levels_quietEvent hs ht rfl
  | frameReceived =>
    rw [exec_frameReceived] at ht
    exact levels_quietEvent hs ht (by simp)
  | frameGapTimeout =>
    rw [exec_frameGapTimeout] at ht
    exact levels_quietEvent hs ht (by simp)
  | dataInRouting =>
    rw [exec_dataInRouting] at ht
    exact levels_quietEvent hs ht (by split <;> simp)
  | receivedLineRecord =>
    rw [exec_receivedLineRecord] at ht
    exact levels_quietJobEvent hs ht (by simp)
  | receivedPageBegin =>
    rw [exec_receivedPageBegin] at ht
    exact levels_quietJobEvent hs ht (by simp)
  | receivedPageEnd =>
    rw [exec_receivedPageEnd] at ht
    exact levels_quietJobEvent hs ht (by simp)
  | undelimitableItem =>
    rw [exec_undelimitableItem] at ht
    exact levels_quietJobEvent hs ht (by simp)
  | replySent =>
    rw [exec_replySent] at ht
    exact levels_event hs ht fun _ => levels_replySent hs
  | dataOutSent _ =>
    rw [exec_dataOutSent] at ht
    exact levels_quietJobEvent hs ht (by simp)
  | scanLineEntryAdmit =>
    rw [exec_scanLineEntryAdmit] at ht
    exact levels_jobEvent hs ht fun _ => levels_admitScanLine hs
  | scanLineCaptured _ =>
    rw [exec_scanLineCaptured] at ht
    exact levels_quietEvent hs ht (by simp)
  | spanCodeLine =>
    rw [exec_spanCodeLine] at ht
    exact levels_quietEvent hs ht (by simp)
  | scanInTakeRecord =>
    rw [exec_scanInTakeRecord] at ht
    exact levels_quietJobEvent hs ht (by simp)
  | lampWarm =>
    rw [exec_lampWarm] at ht
    exact levels_quietJobEvent hs ht rfl
  | calibrationCaptureEnd _ =>
    rw [exec_calibrationCaptureEnd] at ht
    exact levels_quietJobEvent hs ht (by simp)
  | motionBegin _ =>
    rw [exec_motionBegin] at ht
    exact levels_jobEvent hs ht (levels_beginMotion hs)
  | feedStep _ =>
    rw [exec_feedStep] at ht
    exact levels_jobEvent hs ht (levels_feedStep hs)
  | motorRest _ =>
    rw [exec_motorRest] at ht
    exact levels_jobEvent hs ht fun _ => levels_comeToRest hs
  | energizingEnd _ =>
    rw [exec_energizingEnd] at ht
    exact levels_jobEvent hs ht fun _ => levels_endEnergizing hs
  | holdDelayExpiry _ =>
    rw [exec_holdDelayExpiry] at ht
    exact levels_quietEvent hs ht (by simp)
  | offDelayExpiry _ =>
    rw [exec_offDelayExpiry] at ht
    exact levels_quietEvent hs ht (by simp)
  | pwmPeriodEnd g =>
    rw [exec_pwmPeriodEnd] at ht
    exact levels_quietEvent hs ht (by cases g <;> rfl)
  | docEntryChange _ =>
    rw [exec_docEntryChange] at ht
    exact levels_quietJobEvent hs ht (by simp)
  | docReadChange _ =>
    rw [exec_docReadChange] at ht
    exact levels_quietJobEvent hs ht (by dsimp only; split <;> simp)
  | paperChange _ =>
    rw [exec_paperChange] at ht
    exact levels_quietJobEvent hs ht (by simp)
  | coverChange opened =>
    rw [exec_coverChange] at ht
    exact levels_jobEvent hs ht fun _ => levels_cover (s := s.onLevels fun l => { l with coverOpen := opened }) (hs.of_paces rfl)
  | cutterHomeChange _ =>
    rw [exec_cutterHomeChange] at ht
    exact levels_quietJobEvent hs ht (by simp)
  | wakeKeyChange _ =>
    rw [exec_wakeKeyChange] at ht
    exact levels_quietEvent hs ht (by dsimp only; split <;> simp)
  | cutterTimeout =>
    rw [exec_cutterTimeout] at ht
    exact levels_jobEvent hs ht fun _ => levels_cycleTimesOut hs
  | printLineOffer _ _ faults =>
    rw [exec_printLineOffer] at ht
    exact levels_jobEvent hs ht fun _ => levels_offerLine (s := s.onFaults fun _ => faults) (hs.of_paces rfl)
  | strobeSubpulseEnd =>
    rw [exec_strobeSubpulseEnd] at ht
    exact levels_quietJobEvent hs ht (by simp)
  | headTimerLimit =>
    rw [exec_headTimerLimit] at ht
    exact levels_quietJobEvent hs ht (by simp)
  | headReady =>
    rw [exec_headReady] at ht
    exact levels_quietEvent hs ht rfl
  | converterTimedSample _ _ =>
    rw [exec_converterTimedSample] at ht
    exact levels_quietJobEvent hs ht (by simp)
  | idleCountExpiry =>
    rw [exec_idleCountExpiry] at ht
    exact levels_quietEvent hs ht (by simp)
  | dozeCountExpiry =>
    rw [exec_dozeCountExpiry] at ht
    exact levels_quietEvent hs ht rfl
  | linkReceiveEdge =>
    rw [exec_linkReceiveEdge] at ht
    exact levels_quietEvent hs ht (by simp)
  | wakingEnd =>
    rw [exec_wakingEnd] at ht
    exact levels_quietEvent hs ht (by simp [reachStandby])
  | ringPulse =>
    rw [exec_ringPulse] at ht
    exact levels_quietEvent hs ht (by simp)
  | ringBurstEnd =>
    rw [exec_ringBurstEnd] at ht
    exact levels_quietEvent hs ht (by simp)
  | ringGapExpiry =>
    rw [exec_ringGapExpiry] at ht
    exact levels_quietEvent hs ht (by simp)
  | alarmExpiry =>
    rw [exec_alarmExpiry] at ht
    exact levels_quietEvent hs ht (by simp)
  | silenceFirstExpiry =>
    rw [exec_silenceFirstExpiry] at ht
    exact levels_quietJobEvent hs ht (by simp)
  | silenceSecondExpiry =>
    rw [exec_silenceSecondExpiry] at ht
    exact levels_quietJobEvent hs ht (by simp)
  | hostrstPulseEnd =>
    rw [exec_hostrstPulseEnd] at ht
    exact levels_quietEvent hs ht rfl
  | batteryCheck _ =>
    rw [exec_batteryCheck] at ht
    exact levels_quietEvent hs ht (by simp)
  | powerOnReset =>
    rw [exec_powerOnReset] at ht
    exact levels_event hs ht fun _ => levels_resetStarted .powerOn _ s
  | supplyDropReset =>
    rw [exec_supplyDropReset] at ht
    exact levels_event hs ht fun _ => levels_resetStarted _ _ s
  | supplyBelowPowerOff =>
    rw [exec_supplyBelowPowerOff] at ht
    exact levels_event hs ht fun _ => levels_resetBlocks .powerOn s
  | pinReset =>
    rw [exec_pinReset] at ht
    exact levels_event hs ht fun _ => levels_resetBlocks .pin s
  | resetEnd _ _ _ _ =>
    rw [exec_resetEnd] at ht
    exact levels_quietEvent hs ht rfl
  | settingsPhaseEnd _ =>
    rw [exec_settingsPhaseEnd] at ht
    exact levels_quietEvent hs ht rfl
  | memoryPhaseEnd _ _ _ _ =>
    rw [exec_memoryPhaseEnd] at ht
    exact levels_quietEvent hs ht (by rw [State.onStart_mech, build_mech])
  | mechanismPhaseEnd =>
    rw [exec_mechanismPhaseEnd] at ht
    exact levels_quietEvent hs ht (by simp)
  | settingsStoreEnd _ =>
    rw [exec_settingsStoreEnd] at ht
    exact levels_quietEvent hs ht (by split <;> simp)
  | linkByteReceived _ _ =>
    rw [exec_linkByteReceived] at ht
    exact levels_quietEvent hs ht (by simp)
  | mechanismLevelsTaken _ =>
    rw [exec_mechanismLevelsTaken] at ht
    exact levels_quietEvent hs ht (by simp)

/-- Settles O2: a motion begins at level 0 (`levels_beginMotion`), each step is within one of the next allowance (`levels_feedStep`, by
`levelSound_stepped`), an entry queued only raises the allowances (`levels_enqueue`), and all else leaves the paces of both motors or
halts them (`levels_exec`). -/
theorem motionLevelsKept : Obligations.MotionLevelsKept := by
  unfold Obligations.MotionLevelsKept
  intro s t hs ht
  unfold step at ht
  split at ht
  · next i rest _ => exact levels_exec (s := { s with pending := rest }) (hs.of_paces rfl) ht
  · cases ht
    exact hs.of_paces rfl

end Sys2Proof.Machine
end

section
/-! The modes entered and left: by the counts (O39), by MODE-SET (O38), and with a REPLY sent (O15). -/

namespace Sys2Proof.Machine

-- One theorem at a time, as in the tests: a thread for each would exceed the memory allowed.
set_option Elab.async false

variable {s : State}

/-! ## STANDBY and DOZE entered (R148, R150) -/

/-- R131, R132: a motor that goes OFF keeps its queue and its count of steps. -/
def Feed.switchedOff (now : Nat) (f : Feed) : Feed := { f with current := .off, since := now }

theorem enterStandby_eq (s : State) : enterStandby s = { s with
    energy := { s.energy with
      history := List.replicate 1728 false, historyPage := none, firing := none, ready := false, supplyHold := false, lastTimed := none }
    mech := { s.mech with
      scanFeed := s.mech.scanFeed.switchedOff s.now, printFeed := s.mech.printFeed.switchedOff s.now }
    power := { s.power with mode := .standby, headSince := none, idleFrom := none, dozeFrom := none } } := by
  unfold enterStandby
  rw [headOff_eq]
  rfl

theorem enterDoze_eq (s : State) : enterDoze s = { s with
    power := { s.power with mode := .doze, dozeFrom := none, causes := .none }
    link := { s.link with receiver := .hunt, dozeAccepted := false }
    start := { s.start with selfRefresh := true } } := rfl

/-! ## The counts (R147, R149) -/

theorem reached_of {t0 limit now : Nat} {since : Option Nat} (h0 : since = some t0) (hn : t0 + limit * 1000000 ≤ now) :
    reached since limit now = true := by
  simp [reached, h0, seconds, hn]

theorem idleExpired_of {t0 : Nat} (hr : idleRuns s = true) (h0 : s.power.idleFrom = some t0)
    (hn : t0 + s.settings.idleTimeout * 1000000 ≤ s.now) : idleExpired s = true := by
  simp [idleExpired, hr, reached_of h0 hn]

theorem dozeExpired_of {t0 : Nat} (hr : dozeRuns s = true) (h0 : s.power.dozeFrom = some t0)
    (hn : t0 + s.settings.dozeDelay * 60 * 1000000 ≤ s.now) : dozeExpired s = true := by
  simp [dozeExpired, hr, reached_of h0 hn]

/-- Settles O39: each count's expiry enters its mode (`enterStandby_eq`, `enterDoze_eq`). -/
theorem modesEnteredByCounts : Obligations.ModesEnteredByCounts := by
  unfold Obligations.ModesEnteredByCounts
  refine ⟨fun t0 s hr h0 hn => ?_, fun t0 s hr h0 hn => ?_⟩
  · rw [exec_idleCountExpiry, event_due (idleExpired_of hr h0 hn), enterStandby_eq]
    refine ⟨_, rfl, ?_⟩
    and_intros
    all_goals rfl
  · rw [exec_dozeCountExpiry, event_due (dozeExpired_of hr h0 hn), enterDoze_eq]
    rfl

/-! ## MODE-SET (R153) -/

theorem modeActive_active (h : s.power.mode = .active) :
    modeActive s = .ok (s.onPower (fun p => { p with idleFrom := none }), modeData (s.onPower (fun p => { p with idleFrom := none }))) :=
  congrArg (fun u => (.ok (u, modeData u) : Verdict)) (enterActive_active (s := s.onPower fun p => { p with idleFrom := none }) h)

theorem modeActive_standby (h : s.power.mode = .standby) (hc : s.levels.coverOpen = false) (hoff : s.power.headSince = none) :
    ∃ data, modeActive s = .ok ({ s with
      power := { s.power with mode := .active, idleFrom := none, headSince := some s.now }
      energy := { s.energy with lastTimed := some s.now } }, data) := by
  have entered := enterActive_standby (s := s.onPower fun p => { p with idleFrom := none }) h hoff
  rw [State.onPower_levels, hc] at entered
  exact ⟨_, congrArg (fun u => (.ok (u, modeData u) : Verdict)) entered⟩

theorem modeStandby_active (h : s.power.mode = .active) (hs : holderOf s .scanner = .free) (hp : holderOf s .printer = .free) :
    modeStandby s = .ok (enterStandby s, modeData (enterStandby s)) := by
  simp [modeStandby, h, hs, hp]

theorem modeStandby_busy (h : s.power.mode = .active) (hb : holderOf s .scanner ≠ .free ∨ holderOf s .printer ≠ .free) :
    modeStandby s = .error .busy := by
  rw [modeStandby, if_neg (not_not.2 h), if_pos hb]

theorem modeDoze_standby (h : s.power.mode = .standby) (hj : usedSlots s = []) (hw : s.settings.writing = none) :
    modeDoze s = .ok (s.onLink (fun l => { l with dozeAccepted := true }), be1 3 ++ be2 0xFFFF) := by
  rw [modeDoze, if_neg (by simp [h, hj, hw])]
  rfl

theorem modeDoze_busy (h : s.power.mode = .active ∨ usedSlots s ≠ [] ∨ s.settings.writing.isSome = true) :
    modeDoze s = .error .busy := if_pos h

/-- R153, 11.1: every code but the four is refused. -/
theorem modeSet_badParam {m : Byte} (h : m ∉ [0, 1, 3, 4]) : modeSet m.toNat s = .error .badParam := by
  have other : m.toNat ∉ [0, 1, 3, 4] := fun hm => h (by simpa using List.mem_map_of_mem (f := BitVec.ofNat 8) hm)
  obtain ⟨h0, h1, h3, h4⟩ : m.toNat ≠ 0 ∧ m.toNat ≠ 1 ∧ m.toNat ≠ 3 ∧ m.toNat ≠ 4 := by
    simpa only [List.mem_cons, List.not_mem_nil, or_false, not_or] using other
  unfold modeSet
  split
  exacts [absurd ‹_› h0, absurd ‹_› h1, absurd ‹_› h3, absurd ‹_› h4, rfl]

/-- Settles O38: each mode by its own verdict, judged on the state with the frame released, which touches the link alone. -/
theorem modeSetModes : Obligations.ModeSetModes := by
  unfold Obligations.ModeSetModes
  intro m s ht
  rw [exec_modeSet]
  refine ⟨fun hm h => ?_, fun hm h hc hoff => ?_, fun hm h hs hp => ?_, fun hm h hj hw => ?_, fun hm h hb => ?_, fun hm hb => ?_,
    fun hm => ?_, fun hm => ?_⟩
  · subst hm
    exact command_replied ht rfl (modeActive_active (s := releaseCommand s) h)
  · subst hm
    obtain ⟨data, hdata⟩ := modeActive_standby (s := releaseCommand s) h hc hoff
    exact ⟨data, command_replied ht rfl hdata⟩
  · subst hm
    refine ⟨_, command_done ht rfl (modeStandby_active (s := releaseCommand s) h hs hp), ?_⟩
    rw [enterStandby_eq]
    exact ⟨rfl, rfl, rfl, rfl, rfl⟩
  · subst hm
    exact command_replied ht rfl (modeDoze_standby (s := releaseCommand s) h hj hw)
  · subst hm
    exact command_refuses ht rfl (modeStandby_busy (s := releaseCommand s) h hb)
  · subst hm
    exact command_refuses ht rfl (modeDoze_busy (s := releaseCommand s) hb)
  · subst hm
    exact command_replied ht rfl rfl
  · exact command_refused ht rfl (modeSet_badParam hm)

/-! ## A REPLY sent (R197) -/

/-- R197: the REPLY leaves the queue; a DATA-OUT frame that waits begins. -/
theorem transmitNext_replied (s : State) : transmitNext (s.onLink (fun l => { l with reply := none })) = { s with
    link := { s.link with reply := none, sending := if s.link.dataOut.isSome then some .dataOut else none } } := rfl

/-- Settles O15: by what the REPLY sent has accepted. -/
theorem replySentWhole : Obligations.ReplySentWhole := by
  unfold Obligations.ReplySentWhole
  intro s hr hs
  rw [exec_replySent, event_due (by simp [hr, hs])]
  unfold replySent
  rw [transmitNext_replied]
  refine ⟨fun hrestart hdoze => ?_, fun hrestart hdoze => ?_, fun hrestart => ?_⟩
  · simp only [hrestart, hdoze]; rfl
  · simp only [hrestart, hdoze]; rfl
  · rw [if_pos hrestart]

end Sys2Proof.Machine
end

section
/-! The Ring Qualifier (O41) and the Wake Timer (O42). -/

namespace Sys2Proof.Machine

-- One theorem at a time, as in the tests: a thread for each would exceed the memory allowed.
set_option Elab.async false

variable {s : State}

/-! ## Pulses (R154) -/

/-- R154: no timeout of the ringing fell before now. -/
theorem ringOverdue_eq_self (hburst : ¬(s.ring.state = .inBurst ∧ s.ring.latest + ms s.settings.ringPeriodMax < s.now))
    (hgap : ¬(s.ring.state = .gap ∧ s.ring.latest + ms s.settings.gapMax < s.now)) : ringOverdue s = s := by
  unfold ringOverdue
  dsimp only
  rw [if_neg fun h => hburst ((Bool.and_eq_true_iff.1 h).imp of_decide_eq_true of_decide_eq_true),
    if_neg fun h => hgap ((Bool.and_eq_true_iff.1 h).imp of_decide_eq_true of_decide_eq_true)]

theorem takePulse_begins (h : s.ring.state ≠ .inBurst) :
    takePulse s = { s with ring := { s.ring with state := .inBurst, first := s.now, latest := s.now } } := by
  unfold takePulse
  split
  · exact absurd ‹_› h
  · rfl

theorem takePulse_continues (h : s.ring.state = .inBurst) (hn : s.ring.latest + s.settings.ringPeriodMin * 1000 ≤ s.now) :
    takePulse s = s.onRing (fun r => { r with latest := s.now }) := by
  have period : ¬ s.now - s.ring.latest < ms s.settings.ringPeriodMin := by unfold ms; omega
  simp only [takePulse, h, if_neg period]

theorem takePulse_tooSoon (h : s.ring.state = .inBurst) (hl : s.ring.latest ≤ s.now)
    (hn : s.now < s.ring.latest + s.settings.ringPeriodMin * 1000) : takePulse s = ringStops .invalid s := by
  have period : s.now - s.ring.latest < ms s.settings.ringPeriodMin := by unfold ms; omega
  simp only [takePulse, h, if_pos period]

theorem exec_ringPulse_running (hr : s.start.phase ≠ .inReset) (h : ringOverdue s = s) :
    exec .ringPulse s = .next (settle (takePulse s)) := by
  rw [exec_ringPulse, event_due (show slowBlocksRun s = true from decide_eq_true hr), h]

/-! ## Bursts (R155 to R157) -/

/-- R155: the count once one more valid burst has come. -/
def Ring.bursts (r : Ring) : Nat := min 255 (r.count + 1)

/-- R155: a valid burst counted. -/
def burstCounted (s : State) : State := s.onRing (fun r => { r with state := .gap, count := r.bursts })

/-- R155, R157: RING of a burst counted. -/
def ringRaised (length : Nat) (s : State) : State := raise 9 (.ring none s.ring.count length) s

theorem ringQualifies_eq (length : Nat) (s : State) : ringQualifies length s =
    if s.settings.ringWakeCount ≤ s.ring.bursts then
      wakeCause { WakeCauses.none with ring := true } (ringRaised length (burstCounted s))
    else if s.power.mode = .doze then burstCounted s else ringRaised length (burstCounted s) := rfl

/-- R155: outside DOZE, and short of a wake in WAKING, a burst is reported. -/
theorem ringQualifies_reports {length : Nat} (h : s.power.mode = .active ∨ s.power.mode = .standby ∨
    (s.power.mode = .waking ∧ s.ring.bursts < s.settings.ringWakeCount)) :
    ringQualifies length s = ringRaised length (burstCounted s) := by
  have notDoze : s.power.mode ≠ .doze := by
    rcases h with h | h | ⟨h, -⟩ <;> rw [h] <;> decide
  rw [ringQualifies_eq, if_neg notDoze]
  split
  · next reached =>
    have awake : s.power.mode = .active ∨ s.power.mode = .standby := by
      rcases h with h | h | ⟨-, short⟩
      exacts [.inl h, .inr h, absurd reached (by omega)]
    exact wakeCause_awake _ (by rw [ringRaised, raise_power]; exact awake)
  · rfl

/-- R157: in DOZE nothing is reported before RING-WAKE-COUNT. -/
theorem ringQualifies_sleeps {length : Nat} (h : s.power.mode = .doze) (short : s.ring.bursts < s.settings.ringWakeCount) :
    ringQualifies length s = burstCounted s := by
  rw [ringQualifies_eq, if_neg (by omega), if_pos h]

/-- R151, R152, R157: at RING-WAKE-COUNT a burst is a wake cause beside its RING. -/
theorem ringQualifies_wakes {length : Nat} (h : s.power.mode = .doze ∨ s.power.mode = .waking)
    (reached : s.settings.ringWakeCount ≤ s.ring.bursts) : ringQualifies length s =
      ringRaised length ((burstCounted s).onPower (Power.woken { WakeCauses.none with ring := true } s.now)) := by
  have hpower : (ringRaised length (burstCounted s)).power = s.power := raise_power _ _ _
  have hnow : (ringRaised length (burstCounted s)).now = s.now := (kept_raise (Kept.refl (burstCounted s))).now
  rw [ringQualifies_eq, if_pos reached, wakeCause_asleep (by rw [hpower]; exact h), hnow]
  exact (raise_onPower _ _ _ _).symm

theorem Power.woken_doze {p : Power} (h : p.mode = .doze) (c : WakeCauses) (now : Nat) :
    p.woken c now = { p with mode := .waking, wakingAt := now, causes := c } := if_pos h

/-- R152: in WAKING the count joins the causes gathered. -/
theorem Power.woken_ring {p : Power} (h : p.mode = .waking) (now : Nat) :
    p.woken { WakeCauses.none with ring := true } now = { p with causes := { p.causes with ring := true } } := by
  simp [Power.woken, h, WakeCauses.union, WakeCauses.none]

theorem exec_ringBurstEnd_due (hr : s.start.phase ≠ .inReset) (h : s.ring.state = .inBurst)
    (hn : s.ring.latest + s.settings.ringPeriodMax * 1000 ≤ s.now) : exec .ringBurstEnd s = .next (settle (judgeBurst s)) := by
  rw [exec_ringBurstEnd, event_due (by simp [slowBlocksRun, hr, burstEndDue, h, passed, ms, hn])]

/-- R155: a burst within BURST-MIN and BURST-MAX. -/
theorem judgeBurst_valid (hmin : s.ring.first + s.settings.burstMin * 1000 ≤ s.ring.latest)
    (hmax : s.ring.latest ≤ s.ring.first + s.settings.burstMax * 1000) :
    judgeBurst s = ringQualifies ((s.ring.latest - s.ring.first) / 1000) s :=
  if_pos (by unfold ms; omega)

/-- R156: a burst too short or too long. -/
theorem judgeBurst_outOfRange (h : s.ring.latest - s.ring.first < s.settings.burstMin * 1000 ∨
    s.settings.burstMax * 1000 < s.ring.latest - s.ring.first) : judgeBurst s = ringStops .length s :=
  if_neg (by unfold ms; omega)

/-! ## The gap (R154, R156) -/

theorem exec_ringGapExpiry_due (hr : s.start.phase ≠ .inReset) (h : s.ring.state = .gap)
    (hn : s.ring.latest + s.settings.gapMax * 1000 ≤ s.now) : exec .ringGapExpiry s = .next (settle (ringStops .gap s)) := by
  rw [exec_ringGapExpiry, event_due (by simp [slowBlocksRun, hr, gapDue, h, passed, ms, hn])]

theorem ringStops_silent {why : RingStop} (h : s.ring.count = 0 ∨ s.power.mode = .doze) :
    ringStops why s = { s with ring := { s.ring with state := .idle, count := 0 } } := if_pos h

theorem ringStops_raises {why : RingStop} (hc : s.ring.count ≠ 0) (hm : s.power.mode ≠ .doze) :
    ringStops why s = raise 9 (.ring (some why) s.ring.count 0) { s with ring := { s.ring with state := .idle, count := 0 } } :=
  if_neg (not_or.2 ⟨hc, hm⟩)

/-- Settles O41: no timeout is overdue at the pulses named; a burst in range qualifies by the mode and RING-WAKE-COUNT
(`ringQualifies_reports`, `ringQualifies_sleeps`, `ringQualifies_wakes`). -/
theorem ringsAreJudged : Obligations.RingsAreJudged := by
  unfold Obligations.RingsAreJudged
  refine ⟨fun s hr => ⟨fun h => ?_, fun h hn => ?_, fun h hmin hmax => ?_, fun h hl hmin hmax => ?_⟩,
    fun s hr h hn => ⟨fun hmin hmax _ => ?_, fun hout => ?_⟩,
    fun s hr h hn => ⟨fun hquiet => ?_, fun hc hm => ?_⟩⟩
  · rw [exec_ringPulse_running hr (ringOverdue_eq_self (by simp [h]) (by simp [h])), takePulse_begins (by simp [h])]
  · rw [exec_ringPulse_running hr (ringOverdue_eq_self (by simp [h]) (by unfold ms; omega)), takePulse_begins (by simp [h])]
  · rw [exec_ringPulse_running hr (ringOverdue_eq_self (by unfold ms; omega) (by simp [h])), takePulse_continues h hmin]
    rfl
  · rw [exec_ringPulse_running hr (ringOverdue_eq_self (by unfold ms; omega) (by simp [h])), takePulse_tooSoon h hl hmin]
  · rw [exec_ringBurstEnd_due hr h hn, judgeBurst_valid hmin hmax]
    refine ⟨fun hm => ?_, fun hm short => ?_, fun hm reached => ?_, fun hm reached => ?_⟩
    · rw [ringQualifies_reports hm]; rfl
    · rw [ringQualifies_sleeps hm short]; rfl
    · rw [ringQualifies_wakes (.inl hm) reached]
      exact congrArg (fun p => (.next (settle (ringRaised _ { burstCounted s with power := p })) : Result)) (Power.woken_doze hm _ _)
    · rw [ringQualifies_wakes (.inr hm) reached]
      exact congrArg (fun p => (.next (settle (ringRaised _ { burstCounted s with power := p })) : Result)) (Power.woken_ring hm _)
  · rw [exec_ringBurstEnd_due hr h hn, judgeBurst_outOfRange hout]
  · rw [exec_ringGapExpiry_due hr h hn, ringStops_silent hquiet]
  · rw [exec_ringGapExpiry_due hr h hn, ringStops_raises hc hm]

/-! ## The Wake Timer (R158, R159) -/

theorem alarmSet_stops : alarmSet 0 s = .ok ({ s with wake := { s.wake with running := false } }, be3 0) := rfl

theorem alarmSet_starts {n : Nat} (h0 : n ≠ 0) (hn : n ≤ 262143) :
    alarmSet n s = .ok ({ s with wake := { s.wake with running := true, given := n, since := s.now } }, be3 n) := by
  rw [alarmSet, if_neg (by omega), if_neg h0]; rfl

theorem alarmSet_badParam {n : Nat} (hn : 262143 < n) : alarmSet n s = .error .badParam := if_pos hn

theorem alarmDue_of (h : s.wake.running = true) (hn : s.wake.since + s.wake.given * 1000000 ≤ s.now) : alarmDue s = true := by
  simp [alarmDue, h, passed, seconds, hn]

/-- R158: after RELEASE an expiry raises ALARM and is a wake cause. -/
theorem alarmExpires_ready (h : s.start.phase = .ready) : alarmExpires s =
    wakeCause ⟨false, true, false, false, false, false, false⟩
      (raise 10 (.alarm s.wake.given) { s with wake := { s.wake with running := false, held := false } }) := by
  unfold alarmExpires
  simp only [State.onWake_start, h, if_true]
  rfl

/-- R158: before RELEASE an expiry is held. -/
theorem alarmExpires_held (h : s.start.phase ≠ .ready) :
    alarmExpires s = { s with wake := { s.wake with running := false, held := true } } := by
  unfold alarmExpires
  simp only [State.onWake_start, h, if_false]
  simp [State.onWake, h]

/-- Settles O42. -/
theorem alarmRunsAndExpires : Obligations.AlarmRunsAndExpires := by
  unfold Obligations.AlarmRunsAndExpires
  refine ⟨fun n s ht => ?_, fun s hrun hn => ?_⟩
  · rw [exec_alarmSet]
    refine ⟨fun h0 => ?_, fun h0 hn => ?_, fun hn => command_refused ht rfl (alarmSet_badParam hn)⟩
    · subst h0
      exact command_replied ht rfl alarmSet_stops
    · have hne : n.toNat ≠ 0 := fun h => h0 (BitVec.eq_of_toNat_eq h)
      exact command_replied ht rfl (alarmSet_starts (s := releaseCommand s) hne hn)
  · rw [exec_alarmExpiry, event_due (alarmDue_of hrun hn)]
    exact ⟨fun h => by rw [alarmExpires_ready h], fun h => by rw [alarmExpires_held h]⟩

end Sys2Proof.Machine
end

section
/-! RELEASE (O51). -/

namespace Sys2Proof.Machine

-- One theorem at a time, as in the tests: a thread for each would exceed the memory allowed.
set_option Elab.async false

variable {s : State}

/-! ## Records pending (R199, R200) -/

/-- R199: a raise makes or changes the record of its own source alone. -/
theorem pending_raised (n k : Nat) (d : Detail) (e : Events) : (e.raised n d).pending[k]? =
    if k = n then e.pending[k]?.map (fun r => some (Record.raised r d)) else e.pending[k]? :=
  getElem?_modifyAt _ n k e.pending

/-- R200: a record that is pending with its mask clear. -/
theorem unmaskedPending_of {e : Events} {k : Nat} {r : Record} (hp : e.pending[k]? = some (some r)) (hm : e.masked[k]? = some false) :
    e.unmaskedPending = true :=
  List.any_eq_true.2 ⟨(some r, false), List.mem_of_getElem? (List.getElem?_zip_eq_some.2 ⟨hp, hm⟩), rfl⟩

/-- A raise made under a condition. -/
def Events.raisedIf (c : Bool) (n : Nat) (d : Detail) (e : Events) : Events := if c then e.raised n d else e

theorem pending_raisedIf (c : Bool) (n k : Nat) (d : Detail) (e : Events) : (e.raisedIf c n d).pending[k]? =
    if c = true ∧ k = n then e.pending[k]?.map (fun r => some (Record.raised r d)) else e.pending[k]? := by
  cases c <;> simp [Events.raisedIf, pending_raised]

@[simp] theorem masked_raisedIf (c : Bool) (n : Nat) (d : Detail) (e : Events) : (e.raisedIf c n d).masked = e.masked := by
  cases c <;> rfl

/-! ## RELEASE (R158, R177, R178) -/

/-- R158, R177, R200: what RELEASE raises: BOOT, SUPPLY for a LOW battery, and an ALARM held from the sequence. -/
def releasedEvents (boot : List Byte) (s : State) : Events :=
  ((s.events.raised 0 (.boot boot)).raisedIf s.start.batteryLow 3 (.supply false true none)).raisedIf s.wake.held 10
    (.alarm s.wake.given)

/-- R177, R178: READY, with the report made, the low condition judged, HOSTRST released, the receiver in HUNT. -/
def released (s : State) : State := { s with
  start := { s.start with phase := .ready, report := bootReportOf s }
  link := { s.link with hostReset := false, receiver := .hunt }
  store := { s.store with low := decide (freeBlocks s < s.settings.lowWater) } }

/-- R177: BOOT raised. -/
def booted (s : State) : State := (released s).onEvents (Events.raised 0 (.boot (bootDetail (released s))))

theorem raiseIf_ready (c : Bool) (n : Nat) (d : Detail) (h : s.start.phase = .ready) :
    (if c then raise n d s else s) = s.onEvents (Events.raisedIf c n d) := by
  cases c
  · rfl
  · exact raise_ready n d h

theorem raiseHeldAlarm_ready (h : s.start.phase = .ready) : raiseHeldAlarm s = { s with
    wake := { s.wake with held := false }
    events := s.events.raisedIf s.wake.held 10 (.alarm s.wake.given) } := by
  unfold raiseHeldAlarm
  cases hheld : s.wake.held
  · have stays : { s.wake with held := false } = s.wake := by rw [← hheld]
    rw [stays]; rfl
  · exact raise_ready (s := s.onWake _) _ _ h

theorem release_eq (s : State) : release s = { released s with
    wake := { s.wake with held := false }
    events := releasedEvents (bootDetail (released s)) s } := by
  calc release s
      = raiseHeldAlarm (if (booted s).start.batteryLow then raise 3 (.supply false true none) (booted s) else booted s) := rfl
    _ = raiseHeldAlarm ((booted s).onEvents (Events.raisedIf (booted s).start.batteryLow 3 (.supply false true none))) := by
        rw [raiseIf_ready _ _ _ rfl]
    _ = _ := raiseHeldAlarm_ready (s := (booted s).onEvents _) rfl

/-- R193: HOLD is released where the inbound buffer is empty. -/
theorem holdDue_of_empty (hp : s.start.phase = .ready) (hm : s.power.mode = .standby) (hr : s.link.receiver = .hunt)
    (hi : s.link.inbound = []) (hl : s.store.linkIn = none) : holdDue s = false := by
  simp [holdDue, freeBytes, inboundUsed, hp, hm, hr, hi, hl, Receiver.hunt, Config.inboundBytes, Config.holdBelow]

section
variable (hev : s.events = Events.afterReset)
include hev

theorem releasedEvents_boot (boot : List Byte) : (releasedEvents boot s).pending[0]? = some (some ⟨1, .boot boot⟩) := by
  simp [releasedEvents, pending_raisedIf, pending_raised, hev, Events.afterReset, Record.raised]

theorem releasedEvents_supply (boot : List Byte) : (releasedEvents boot s).pending[3]? =
    some (if s.start.batteryLow then some ⟨1, .supply false true none⟩ else none) := by
  cases hlow : s.start.batteryLow <;>
    simp [releasedEvents, pending_raisedIf, pending_raised, hev, Events.afterReset, Record.raised, hlow]

theorem releasedEvents_alarm (boot : List Byte) : (releasedEvents boot s).pending[10]? =
    some (if s.wake.held then some ⟨1, .alarm s.wake.given⟩ else none) := by
  cases hheld : s.wake.held <;>
    simp [releasedEvents, pending_raisedIf, pending_raised, hev, Events.afterReset, Record.raised, hheld]

/-- R200: BOOT is pending with its mask clear. -/
theorem releasedEvents_attention (boot : List Byte) : (releasedEvents boot s).unmaskedPending = true := by
  have masked : (releasedEvents boot s).masked = s.events.masked := by simp [releasedEvents, Events.raised]
  exact unmaskedPending_of (releasedEvents_boot hev boot) (by rw [masked, hev]; rfl)

end

/-- Settles O51: RELEASE raises on an Event Unit with nothing pending (`releasedEvents_boot`, `releasedEvents_supply`,
`releasedEvents_alarm`), and the empty buffer releases HOLD (`holdDue_of_empty`). -/
theorem releaseEndsStartUp : Obligations.ReleaseEndsStartUp := by
  unfold Obligations.ReleaseEndsStartUp
  intro h c s hphase hhoming hcal hmode hev hinbound hlinkIn
  have due : (decide (s.start.phase = .mechanism) && s.start.homing.isSome && s.start.calOutcome.isSome) = true := by
    simp [hphase, hhoming, hcal]
  have cutter : (bootReportOf s).cutter = h := by simp [bootReportOf, hhoming]
  have calibration : (bootReportOf s).calibration = c := by simp [bootReportOf, hcal]
  refine ⟨_, (exec_mechanismPhaseEnd s).trans (event_due due), ?_⟩
  rw [release_eq]
  exact ⟨rfl, rfl, holdDue_of_empty rfl hmode rfl hinbound hlinkIn, releasedEvents_attention hev _, ⟨_, releasedEvents_boot hev _⟩,
    releasedEvents_supply hev _, releasedEvents_alarm hev _, rfl, cutter, calibration, rfl, rfl, rfl, rfl⟩

end Sys2Proof.Machine
end

section
/-! A settings image written and loaded again (O56). -/

namespace Sys2Proof.Machine

-- One theorem at a time, as in the tests: a thread for each would exceed the memory allowed.
set_option Elab.async false

variable {g : Settings}

/-! ## Legal settings (R181) -/

theorem length_items : items.length = 80 := rfl

theorem inRange_iff : g.inRange = true ↔
    g.values.length = 80 ∧ ∀ p ∈ items.zip g.values, p.1.lo ≤ p.2 ∧ p.2 ≤ p.1.hi := by
  simp only [Settings.inRange, length_items, Bool.and_eq_true, beq_iff_eq, List.all_eq_true, decide_eq_true_eq]

theorem dependencies_iff : g.dependencies = true ↔
    g.resumeLimit + 8 ≤ g.hotLimit ∧ g.ringPeriodMin < g.ringPeriodMax ∧ g.burstMin < g.burstMax ∧
    (∀ l < 15, g.ramp .print (l + 1) ≤ g.ramp .print l) ∧ (∀ l < 15, g.ramp .scan (l + 1) ≤ g.ramp .scan l) := by
  simp only [Settings.dependencies, Bool.and_eq_true, List.all_eq_true, List.mem_range, decide_eq_true_eq, and_assoc]

theorem at_eq_getElem {place : Nat} (h : place < g.values.length) : g.at place = g.values[place] := by
  simp [Settings.at, h]

theorem at_le_hi (h : g.inRange = true) {place : Nat} (hp : place < 80) : g.at place ≤ (itemAt place).hi := by
  obtain ⟨hlen, hrange⟩ := inRange_iff.1 h
  have hplace : place < items.length := hp
  have hmem : (items[place], g.values[place]) ∈ items.zip g.values :=
    List.mem_of_getElem? (List.getElem?_zip_eq_some.2 ⟨List.getElem?_eq_getElem hplace, List.getElem?_eq_getElem (hlen ▸ hp)⟩)
  rw [at_eq_getElem (hlen ▸ hp), itemAt, List.getD_eq_getElem _ _ hplace]
  exact (hrange _ hmem).2

theorem values_lt_of_inRange (h : g.inRange = true) {v : Nat} (hv : v ∈ g.values) : v < 65536 := by
  obtain ⟨place, hlt, rfl⟩ := List.mem_iff_getElem.1 hv
  have hp : place < 80 := (inRange_iff.1 h).1 ▸ hlt
  have wide : ∀ p < 80, (itemAt p).hi < 65536 := by decide
  rw [← at_eq_getElem hlt]
  exact (at_le_hi h hp).trans_lt (wide place hp)

/-! ## The clamping of a legal set (R186) -/

/-- R186, step 1. -/
theorem clampAllRanges_eq_self (h : g.inRange = true) : clampAllRanges g.values = g.values := by
  obtain ⟨hlen, hrange⟩ := inRange_iff.1 h
  calc clampAllRanges g.values
      = (items.zip g.values).map Prod.snd := List.map_congr_left fun p hp => by
        obtain ⟨hlo, hhi⟩ := hrange p hp
        rw [min_eq_left hhi, max_eq_right hlo]
    _ = g.values := List.map_snd_zip hlen.le

/-- R186, steps 2 and 3. -/
theorem lowerAt_eq_self {place bound : Nat} {vs : List Nat} (h : vs.getD place 0 ≤ bound) : lowerAt place bound vs = vs := by
  refine List.ext_getElem? fun k => ?_
  rw [lowerAt, getElem?_modifyAt]
  split
  · subst k
    cases hv : vs[place]? with
    | none => rfl
    | some v =>
      have hle : v ≤ bound := by simpa [List.getD, hv] using h
      rw [Option.map_some, min_eq_left hle]
  · rfl

/-- R186, step 4: a table that descends from the bound stays. -/
theorem lowerRamp_eq_self {bound : Nat} {vs : List Nat} (h : (bound :: vs).IsChain (· ≥ ·)) : lowerRamp bound vs = vs := by
  induction vs generalizing bound with
  | nil => rfl
  | cons v vs ih =>
    obtain ⟨hv, hvs⟩ := List.isChain_cons_cons.1 h
    rw [lowerRamp, min_eq_left hv, ih hvs]

/-- R181, R186: the sixteen entries from `base` on, where they descend and the first is at most 20000. -/
theorem lowerRamp_table {base : Nat} (hlen : g.values.length = 80) (hbase : base + 16 ≤ 80) (first : g.at base ≤ 20000)
    (descends : ∀ l < 15, g.at (base + (l + 1)) ≤ g.at (base + l)) :
    lowerRamp 20000 ((g.values.drop base).take 16) = (g.values.drop base).take 16 := by
  have hentry : ∀ l (hl : l < ((g.values.drop base).take 16).length),
      ((g.values.drop base).take 16)[l] = g.at (base + l) := fun l hl => by
    rw [List.length_take, List.length_drop] at hl
    simp [at_eq_getElem (show base + l < g.values.length by omega)]
  have hsize : ((g.values.drop base).take 16).length = 16 := by rw [List.length_take, List.length_drop]; omega
  refine lowerRamp_eq_self (List.isChain_cons.2 ⟨fun v hv => ?_, List.isChain_iff_getElem.2 fun l hl => ?_⟩)
  · rw [List.head?_eq_getElem?, List.getElem?_eq_getElem (by omega), hentry] at hv
    cases hv
    exact first
  · rw [hentry, hentry]
    exact descends l (by omega)

/-- The values before the two tables, the tables, and the values after them. -/
theorem around_tables (vs : List Nat) : vs.take 24 ++ (vs.drop 24).take 16 ++ (vs.drop 40).take 16 ++ vs.drop 56 = vs := by
  have second : (vs.drop 40).take 16 ++ vs.drop 56 = vs.drop 40 := by
    rw [← List.drop_drop (i := 16) (j := 40), List.take_append_drop]
  have first : (vs.drop 24).take 16 ++ vs.drop 40 = vs.drop 24 := by
    rw [← List.drop_drop (i := 16) (j := 24), List.take_append_drop]
  rw [List.append_assoc, second, List.append_assoc, first, List.take_append_drop]

/-- R186: a legal set is loaded as it stands. -/
theorem clampLoaded_eq_self (hr : g.inRange = true) (hd : g.dependencies = true) : clampLoaded g.values = g.values := by
  obtain ⟨hhot, hperiod, hburst, hprint, hscan⟩ := dependencies_iff.1 hd
  have hlen := (inRange_iff.1 hr).1
  have resume : lowerAt 22 (g.values.getD 21 0 - 8) g.values = g.values := lowerAt_eq_self (Nat.le_sub_of_add_le hhot)
  have period : lowerAt 74 (g.values.getD 75 0 - 1) g.values = g.values := lowerAt_eq_self (Nat.le_sub_one_of_lt hperiod)
  have burst : lowerAt 76 (g.values.getD 77 0 - 1) g.values = g.values := lowerAt_eq_self (Nat.le_sub_one_of_lt hburst)
  have print := lowerRamp_table hlen (by decide) (at_le_hi hr (place := 24) (by decide)) hprint
  have scan := lowerRamp_table hlen (by decide) (at_le_hi hr (place := 40) (by decide)) hscan
  simp only [clampLoaded, clampAllRanges_eq_self hr, resume, period, burst, print, scan, around_tables]

/-! ## The image's fields (R209) -/

theorem num2_be2 (n : Nat) : num2 (BitVec.ofNat 8 (n / 256)) (BitVec.ofNat 8 n) = n % 65536 := by
  simp only [num2, BitVec.toNat_ofNat]
  omega

/-- R205: numbers written in two bytes are read back, modulo 65536. -/
theorem pairs_flatMap_be2 (vs : List Nat) : pairs (vs.flatMap be2) = vs.map (· % 65536) := by
  induction vs with
  | nil => rfl
  | cons v vs ih =>
    show num2 _ _ :: pairs (vs.flatMap be2) = _
    rw [num2_be2, ih, List.map_cons]

theorem pairs_be2 (n : Nat) : pairs (be2 n) = [n % 65536] := congrArg (fun v => [v]) (num2_be2 n)

theorem length_flatMap_be2 (vs : List Nat) : (vs.flatMap be2).length = 2 * vs.length := by
  induction vs with
  | nil => rfl
  | cons v vs ih => rw [List.flatMap_cons, List.length_append, ih, List.length_cons, be2, List.length_cons, List.length_singleton]; omega

/-- R209: the version, the values, the flag, the unused bytes, the sum check. -/
theorem imageOf_eq (vs : List Nat) (protect : Bool) : imageOf vs protect = be2 0x0103 ++ (vs.flatMap be2 ++
    (BitVec.ofNat 8 protect.toNat :: (List.replicate 347 0 ++ be2 (byteSum (imageBody vs protect))))) := by
  show be2 0x0103 ++ vs.flatMap be2 ++ [BitVec.ofNat 8 protect.toNat] ++ List.replicate 347 0 ++ _ = _
  simp only [List.append_assoc, List.cons_append, List.nil_append]

theorem imageOf_version (vs : List Nat) (protect : Bool) : (imageOf vs protect).take 2 = be2 0x0103 := by
  rw [imageOf_eq]; exact List.take_left' rfl

theorem imageOf_fields (vs : List Nat) (protect : Bool) : (imageOf vs protect).drop 2 = vs.flatMap be2 ++
    (BitVec.ofNat 8 protect.toNat :: (List.replicate 347 0 ++ be2 (byteSum (imageBody vs protect)))) := by
  rw [imageOf_eq]; exact List.drop_left' rfl

section
variable {vs : List Nat} (hlen : vs.length = 80) (protect : Bool)
include hlen

theorem length_imageBody : (imageBody vs protect).length = 510 := by
  simp only [imageBody, List.length_append, length_flatMap_be2, hlen, be2, flag1, be1, List.length_cons, List.length_nil,
    List.length_replicate]

theorem length_imageOf : (imageOf vs protect).length = 512 := by
  rw [imageOf, List.length_append, length_imageBody hlen]; rfl

theorem imageOf_body : (imageOf vs protect).take 510 = imageBody vs protect := List.take_left' (length_imageBody hlen protect)

theorem imageOf_check : (imageOf vs protect).drop 510 = be2 (byteSum (imageBody vs protect)) :=
  List.drop_left' (length_imageBody hlen protect)

theorem imageOf_values : ((imageOf vs protect).drop 2).take 160 = vs.flatMap be2 := by
  rw [imageOf_fields]
  exact List.take_left' (by rw [length_flatMap_be2, hlen])

theorem imageOf_flag : (imageOf vs protect)[162]? = some (BitVec.ofNat 8 protect.toNat) := by
  have hvalues : (vs.flatMap be2).length = 160 := by rw [length_flatMap_be2, hlen]
  rw [show 162 = 2 + 160 from rfl, ← List.getElem?_drop, imageOf_fields, List.getElem?_append_right hvalues.le, hvalues]
  rfl

/-- R168: the part takes back its own image. -/
theorem imageGood_imageOf : imageGood (imageOf vs protect) = true := by
  have version : pairs ((imageOf vs protect).take 2) = [0x0103] := congrArg pairs (imageOf_version vs protect)
  have check : pairs ((imageOf vs protect).drop 510) = [byteSum ((imageOf vs protect).take 510) % 65536] := by
    rw [imageOf_check hlen, imageOf_body hlen, pairs_be2]
  simp [imageGood, version, check, length_imageOf hlen, Config.imageBytes]

end

/-- R168: a good image whose values the clamping leaves. -/
theorem loadImage_unclamped {image : List Byte} (h : imageGood image = true) {stored : List Nat}
    (hs : pairs ((image.drop 2).take 160) = stored) (hc : clampLoaded stored = stored) :
    loadImage (.bytes image) true = (stored, decide (image[162]? ≠ some 0), .loaded, 0) := by
  have unchanged : (stored.zip stored).filter (fun p => decide (p.1 ≠ p.2)) = [] := by
    refine List.filter_eq_nil_iff.2 fun p hp => ?_
    obtain ⟨k, hk⟩ := List.mem_iff_getElem?.1 hp
    obtain ⟨h1, h2⟩ := List.getElem?_zip_eq_some.1 hk
    simpa using Option.some.inj (h1.symm.trans h2)
  simp only [loadImage, h, hs, hc, unchanged, Bool.and_self, if_true, List.length_nil]

/-- Settles O56: a legal set's values are spelled whole in two bytes each, and the load's clamping leaves them
(`clampLoaded_eq_self`). -/
theorem imageLoadsBack : Obligations.ImageLoadsBack := by
  unfold Obligations.ImageLoadsBack
  rintro s protect ⟨hr, hd⟩
  have hlen := (inRange_iff.1 hr).1
  have stored : pairs (((imageOf s.settings.values protect).drop 2).take 160) = s.settings.values := by
    rw [imageOf_values hlen, pairs_flatMap_be2]
    exact (List.map_congr_left fun v hv => Nat.mod_eq_of_lt (values_lt_of_inRange hr hv)).trans (List.map_id _)
  have flag : decide ((imageOf s.settings.values protect)[162]? ≠ some 0) = protect := by
    rw [imageOf_flag hlen]; cases protect <;> rfl
  refine ⟨length_imageOf hlen protect, ?_⟩
  rw [loadImage_unclamped (imageGood_imageOf hlen protect) stored (clampLoaded_eq_self hr hd), flag]

end Sys2Proof.Machine
end

section
/-! The resets (O46, O47), the SETTINGS phase (O48), the cause flags (O52), and the battery (O44). -/

namespace Sys2Proof.Machine

-- One theorem at a time, as in the tests: a thread for each would exceed the memory allowed.
set_option Elab.async false

variable {s : State}

/-! ## The resets begin (R164, R165, R180) -/

/-- R164: outside a POWER-ON reset the brown-out threshold begins a SUPPLY-DROP. -/
theorem exec_supplyDropReset_running (hb : s.start.batteryOnly = false) (hp : s.start.phase ≠ .inReset) :
    exec .supplyDropReset s = .next (settle { resetBlocks .supplyDrop s with
      start := { (resetBlocks .supplyDrop s).start with batteryOnly := true, selfRefresh := true } }) := by
  have kind : (if s.start.phase = .inReset ∧ s.start.kind = .powerOn then ResetKind.powerOn else .supplyDrop) = .supplyDrop :=
    if_neg fun h => hp h.1
  rw [exec_supplyDropReset, event_due (by simp [hb])]
  dsimp only
  rw [kind]
  rfl

theorem supplyResetHolds_running (hp : s.start.phase ≠ .inReset) : supplyResetHolds s = false := by
  simp [supplyResetHolds, hp]

theorem restart_accepted (h : s.settings.writing = none) :
    restart s = .ok ({ s with link := { s.link with restartAccepted := true } }, []) := by
  simp [restart, h, State.onLink]

theorem restart_busy (h : s.settings.writing.isSome = true) : restart s = .error .busy := if_pos h

/-- R180, R195: once a RESTART is accepted no command is taken. -/
theorem intakeOpen_restartAccepted (h : s.link.restartAccepted = true) : intakeOpen s = false := by
  simp [intakeOpen, h]

/-- Settles O46. -/
theorem resetsBegin : Obligations.ResetsBegin := by
  unfold Obligations.ResetsBegin
  refine ⟨fun s => ⟨rfl, exec_supplyDropReset_running, fun hb => ?_, fun hp => ?_⟩, fun s ht => ⟨fun hw => ?_, fun hw => ?_⟩⟩
  · rw [exec_supplyBelowPowerOff, event_due hb]
  · rw [exec_pinReset, event_due (by rw [supplyResetHolds_running hp]; rfl)]
  · have accepted := (exec_restart s).trans (command_replied ht rfl (restart_accepted (s := releaseCommand s) hw))
    refine ⟨accepted, fun t hnext => ?_⟩
    cases accepted.symm.trans hnext
    exact intakeOpen_restartAccepted rfl
  · exact (exec_restart s).trans (command_refused ht rfl (restart_busy (s := releaseCommand s) hw))

/-! ## The reset ends (R166, R167, R190) -/

/-- R166: the domain is kept by a valid marker through an SRAM that held, but for a POWER-ON on a LOW battery. -/
theorem domainLost_kept {u : StartUp} {batteryLow : Bool} (hm : u.marker = true) (hb : u.kind = .powerOn → batteryLow = false) :
    domainLost u batteryLow true = false := by
  by_cases hk : u.kind = .powerOn
  · simp [domainLost, markerValid, hm, hb hk]
  · simp [domainLost, markerValid, hm, hk]

/-- R166, log 26: what loses the domain. -/
theorem domainLost_lost {u : StartUp} {batteryLow sramHeld : Bool}
    (h : u.marker = false ∨ (u.kind = .powerOn ∧ batteryLow = true) ∨ (sramHeld = false ∧ (u.kind = .powerOn ∨ u.kind = .supplyDrop))) :
    domainLost u batteryLow sramHeld = true := by
  rcases h with hm | ⟨hk, hb⟩ | ⟨hs, hk | hk⟩
  · simp [domainLost, markerValid, hm]
  · simp [domainLost, hk, hb]
  · simp [domainLost, markerValid, hs, hk]
  · simp [domainLost, markerValid, hs, hk]

theorem judge_eq (batteryLow sramHeld : Bool) (s : State) : judge batteryLow sramHeld s = { s with
    start := { s.start with
      phase := .settings, batteryOnly := false, selfRefresh := false, batteryLow := batteryLow, lastBattery := s.now
      marker := !domainLost s.start batteryLow sramHeld, domainLost := domainLost s.start batteryLow sramHeld
      causes := (if domainLost s.start batteryLow sramHeld then ⟨false, false, false, false⟩ else s.start.causes).with s.start.kind }
    silence := { s.silence with hostResets := if domainLost s.start batteryLow sramHeld then 0 else s.silence.hostResets } } := rfl

theorem rateCode_eq (first second : Bool) : rateCode first second = first.toNat + 2 * second.toNat := by
  cases first <;> cases second <;> rfl

/-- R193: HOLD from a reset until RELEASE. -/
theorem settle_link_unready (h : s.start.phase ≠ .ready) : (settle s).link = { s.link with hold := true } := by
  simp [settle, holdDue, h]

/-- R200: no ATN from a reset until RELEASE. -/
theorem settle_atn_unready (h : s.start.phase ≠ .ready) : (settle s).events.atn = false := by
  simp [settle, atnDue, h]

/-- Settles O47: the judgement (`domainLost_kept`, `domainLost_lost`) decides what of the domain is kept. -/
theorem resetEndJudges : Obligations.ResetEndJudges := by
  unfold Obligations.ResetEndJudges
  intro batteryLow sramHeld first second s hp
  refine ⟨_, (exec_resetEnd batteryLow sramHeld first second s).trans (event_due (decide_eq_true hp)), ?_⟩
  rw [judge_eq]
  refine ⟨rfl, rfl, rateCode_eq first second, rfl, fun hm hs hb => ?_, fun hl => ?_, rfl, rfl, rfl,
    congrArg Link.hold (settle_link_unready (by simp)), settle_atn_unready (by simp)⟩
  · subst hs
    simp [settle, domainLost_kept hm hb]
  · simp [settle, domainLost_lost hl]

/-! ## The SETTINGS phase (R168) -/

/-- R168: an image that is taken, clamped or as it stands. -/
theorem loadImage_taken {e : Eeprom} {answers : Bool} {image : List Byte} (he : e = .bytes image) (ha : answers = true)
    (h : imageGood image = true) :
    (loadImage e answers).1 = clampLoaded (pairs ((image.drop 2).take 160)) ∧ (loadImage e answers).2.2.1 ≠ .defaulted := by
  subst he ha
  simp only [loadImage, h, Bool.and_self, if_true, true_and]
  split <;> decide

/-- R168: no answer, a store cut off, or an image of another make: the defaults, unprotected. -/
theorem loadImage_defaulted {e : Eeprom} {answers : Bool}
    (h : answers = false ∨ e = .partlyWritten ∨ ∃ image, e = .bytes image ∧ imageGood image = false) :
    loadImage e answers = (defaultValues, false, .defaulted, 0) := by
  rcases h with rfl | rfl | ⟨image, rfl, hbad⟩
  · cases e <;> rfl
  · rfl
  · simp [loadImage, hbad]

/-- Settles O48: by what the image loads as (`loadImage_taken`, `loadImage_defaulted`). -/
theorem settingsPhaseLoads : Obligations.SettingsPhaseLoads := by
  unfold Obligations.SettingsPhaseLoads
  intro answers s hp
  refine ⟨_, (exec_settingsPhaseEnd answers s).trans (event_due (decide_eq_true hp)), rfl, rfl, rfl, rfl,
    fun _ => loadImage_taken, fun hbad => ?_, rfl, rfl, settle_link_unready (by simp [loadSettings]), rfl⟩
  simp [loadSettings, settle, loadImage_defaulted hbad]

/-! ## The cause flags (R179) -/

/-- Settles O52. -/
theorem clearCausesClears : Obligations.ClearCausesClears := by
  unfold Obligations.ClearCausesClears
  exact fun s ht => (exec_clearCauses s).trans (command_replied ht rfl rfl)

/-! ## The battery (R165) -/

theorem batteryDue_of (hp : s.start.phase = .ready) (hm : s.power.mode = .active ∨ s.power.mode = .standby)
    (hn : s.start.lastBattery + 60000000 ≤ s.now) : batteryDue s = true := by
  simp [batteryDue, hp, hm, passed, batteryPeriod, seconds, hn]

/-- R165: the battery has gone LOW. -/
theorem readBattery_falls (h : s.start.batteryLow = false) : readBattery true s =
    raise 3 (.supply false true none) { s with start := { s.start with batteryLow := true, lastBattery := s.now } } := by
  simp [readBattery, h, State.onStart]

theorem readBattery_quiet {low : Bool} (h : low = false ∨ s.start.batteryLow = true) :
    readBattery low s = { s with start := { s.start with batteryLow := low, lastBattery := s.now } } := by
  have quiet : (low && !s.start.batteryLow) = false := by rcases h with h | h <;> simp [h]
  simp [readBattery, quiet, State.onStart]

/-- Settles O44. -/
theorem batteryIsRead : Obligations.BatteryIsRead := by
  unfold Obligations.BatteryIsRead
  intro low s hp hm hn
  rw [exec_batteryCheck, event_due (batteryDue_of hp hm hn)]
  refine ⟨fun hlow hgood => ?_, fun hquiet => ?_⟩
  · rw [hlow, readBattery_falls hgood]
  · rw [readBattery_quiet hquiet]

end Sys2Proof.Machine
end

section
/-! Legal settings and the clamps: of a value set (O53), of an image loaded (O54). -/

namespace Sys2Proof.Machine

-- One theorem at a time, as in the tests: a thread for each would exceed the memory allowed.
set_option Elab.async false

variable {s t : State} {g : Settings} {place v : Nat}

/-! ## Legal settings, item by item (R181) -/

/-- R181: the pairs of items that depend on each other; the item at `a` lies at least `d` below the one at `b`. -/
abbrev Depends (a b d : Nat) : Prop :=
  (a = 22 ∧ b = 21 ∧ d = 8) ∨ (a = 74 ∧ b = 75 ∧ d = 1) ∨ (a = 76 ∧ b = 77 ∧ d = 1) ∨
  (a = b + 1 ∧ d = 0 ∧ (24 ≤ b ∧ b < 39 ∨ 40 ≤ b ∧ b < 55))

/-- R181: a value lies in the range of an item. -/
def InItem (place v : Nat) : Prop := (itemAt place).lo ≤ v ∧ v ≤ (itemAt place).hi

/-- R181: a value of an item, in its range, meets every dependency on the other items. -/
structure Fits (g : Settings) (place v : Nat) : Prop where
  range : InItem place v
  below : ∀ b d, Depends place b d → v + d ≤ g.at b
  above : ∀ a d, Depends a place d → g.at a + d ≤ v

theorem inItem_of_inRange (h : g.inRange = true) (hp : place < 80) : InItem place (g.at place) := by
  obtain ⟨hlen, hrange⟩ := inRange_iff.1 h
  have hplace : place < items.length := hp
  have hmem : (items[place], g.values[place]) ∈ items.zip g.values :=
    List.mem_of_getElem? (List.getElem?_zip_eq_some.2 ⟨List.getElem?_eq_getElem hplace, List.getElem?_eq_getElem (hlen ▸ hp)⟩)
  rw [InItem, at_eq_getElem (hlen ▸ hp), itemAt, List.getD_eq_getElem _ _ hplace]
  exact hrange _ hmem

theorem inRange_iff_inItem : g.inRange = true ↔ g.values.length = 80 ∧ ∀ place < 80, InItem place (g.at place) := by
  refine ⟨fun h => ⟨(inRange_iff.1 h).1, fun _ hp => inItem_of_inRange h hp⟩, fun ⟨hlen, hitem⟩ => inRange_iff.2 ⟨hlen, fun p hp => ?_⟩⟩
  obtain ⟨k, hk⟩ := List.mem_iff_getElem?.1 hp
  obtain ⟨hit, hv⟩ := List.getElem?_zip_eq_some.1 hk
  have hrow : itemAt k = p.1 := by rw [itemAt, List.getD, hit]; rfl
  have hval : g.at k = p.2 := by rw [Settings.at, List.getD, hv]; rfl
  rw [← hrow, ← hval]
  exact hitem k (hlen ▸ (List.getElem?_eq_some_iff.1 hv).1)

theorem dependencies_iff_depends : g.dependencies = true ↔ ∀ a b d, Depends a b d → g.at a + d ≤ g.at b := by
  rw [dependencies_iff]
  constructor
  · rintro ⟨hresume, hperiod, hburst, hprint, hscan⟩ a b d (⟨rfl, rfl, rfl⟩ | ⟨rfl, rfl, rfl⟩ | ⟨rfl, rfl, rfl⟩ | ⟨rfl, rfl, h | h⟩)
    · exact hresume
    · exact hperiod
    · exact hburst
    · obtain ⟨l, rfl⟩ := Nat.exists_eq_add_of_le h.1
      exact hprint l (by omega)
    · obtain ⟨l, rfl⟩ := Nat.exists_eq_add_of_le h.1
      exact hscan l (by omega)
  · intro h
    exact ⟨h 22 21 8 (.inl ⟨rfl, rfl, rfl⟩), h 74 75 1 (.inr (.inl ⟨rfl, rfl, rfl⟩)), h 76 77 1 (.inr (.inr (.inl ⟨rfl, rfl, rfl⟩))),
      fun l hl => h (24 + (l + 1)) (24 + l) 0 (.inr (.inr (.inr ⟨by omega, rfl, by omega⟩))),
      fun l hl => h (40 + (l + 1)) (40 + l) 0 (.inr (.inr (.inr ⟨by omega, rfl, by omega⟩)))⟩

theorem Depends.lt {a b d : Nat} (h : Depends a b d) : a < 80 ∧ b < 80 ∧ a ≠ b := by omega

theorem Depends.upper_unique {a b b' d d' : Nat} (h : Depends a b d) (h' : Depends a b' d') : b' = b ∧ d' = d := by omega

theorem Depends.lower_unique {a a' b d d' : Nat} (h : Depends a b d) (h' : Depends a' b d') : a' = a ∧ d' = d := by omega

/-- R181: outside the speed tables the lower item of a pair is no other's upper one. -/
theorem Depends.not_both {a b c d d' : Nat} (h : Depends a b d) (hout : b < 24 ∨ 55 < b) : ¬Depends c a d' ∧ ¬Depends b c d' := by omega

/-- R181: settings are legal where each of the 80 values fits among the others. -/
theorem settingsLegal_iff : s.settingsLegal ↔
    s.settings.values.length = 80 ∧ ∀ place < 80, Fits s.settings place (s.settings.at place) := by
  rw [State.settingsLegal, inRange_iff_inItem, dependencies_iff_depends]
  exact ⟨fun ⟨⟨hlen, hitem⟩, hdep⟩ => ⟨hlen, fun place hp => ⟨hitem place hp, fun b d h => hdep place b d h, fun a d h => hdep a place d h⟩⟩,
    fun ⟨hlen, hfits⟩ => ⟨⟨hlen, fun place hp => (hfits place hp).range⟩, fun a b d h => (hfits a h.lt.1).below b d h⟩⟩

/-! ## One item changed (R183) -/

theorem at_put (hlen : g.values.length = 80) (hp : place < 80) (i : Nat) :
    (g.put place v).at i = if i = place then v else g.at i := by
  unfold Settings.put Settings.at
  rw [List.getD, List.getElem?_set]
  by_cases h : place = i
  · subst h; simp [hlen, hp]
  · simp [h, Ne.symm h, List.getD]

/-- R183: a value put among the others is legal where it fits. -/
theorem put_settingsLegal_iff (hs : s.settingsLegal) (hp : place < 80) :
    (s.onSettings (Settings.put place v)).settingsLegal ↔ Fits s.settings place v := by
  obtain ⟨hlen, hfits⟩ := settingsLegal_iff.1 hs
  have hat := at_put (v := v) hlen hp
  have hself : (s.settings.put place v).at place = v := by rw [hat, if_pos rfl]
  have hother : ∀ {i}, i ≠ place → (s.settings.put place v).at i = s.settings.at i := fun h => by rw [hat, if_neg h]
  rw [settingsLegal_iff]
  constructor
  · rintro ⟨-, h⟩
    obtain ⟨range, below, above⟩ := h place hp
    rw [State.onSettings_settings, hself] at range below above
    exact ⟨range, fun b d hd => hother hd.lt.2.2.symm ▸ below b d hd, fun a d hd => hother hd.lt.2.2 ▸ above a d hd⟩
  · rintro ⟨range, below, above⟩
    refine ⟨(List.length_set ..).trans hlen, fun i hi => ?_⟩
    rw [State.onSettings_settings]
    by_cases h : i = place
    · subst h
      rw [hself]
      exact ⟨range, fun b d hd => (hother hd.lt.2.2.symm).symm ▸ below b d hd, fun a d hd => (hother hd.lt.2.2).symm ▸ above a d hd⟩
    · rw [hother h]
      refine ⟨(hfits i hi).range, fun b d hd => ?_, fun a d hd => ?_⟩
      · by_cases hb : b = place
        · subst hb; rw [hself]; exact above i d hd
        · rw [hother hb]; exact (hfits i hi).below b d hd
      · by_cases ha : a = place
        · subst ha; rw [hself]; exact below i d hd
        · rw [hother ha]; exact (hfits i hi).above a d hd

/-! ## SETTING-SET's clamp (R183) -/

theorem lo_le_hi (hp : place < 80) : (itemAt place).lo ≤ (itemAt place).hi := by
  have every : ∀ p < 80, (itemAt p).lo ≤ (itemAt p).hi := by decide
  exact every place hp

theorem inItem_clampRange (hp : place < 80) (v : Nat) : InItem place (clampRange place v) := by
  have := lo_le_hi hp
  unfold InItem clampRange
  dsimp only
  omega

theorem clampRange_eq_self (h : InItem place v) : clampRange place v = v := by
  obtain ⟨hlo, hhi⟩ := h
  rw [clampRange, min_eq_left hhi, max_eq_right hlo]

/-- R183: an item with no dependency takes any value of its range. -/
theorem fits_free (hv : InItem place v) (hlow : ∀ b d, ¬Depends place b d) (hhigh : ∀ a d, ¬Depends a place d) : Fits g place v :=
  ⟨hv, fun b d h => absurd h (hlow b d), fun a d h => absurd h (hhigh a d)⟩

section
variable {a b d : Nat} (h : Depends a b d) (hout : b < 24 ∨ 55 < b)
include h hout

/-- R183: the lower item of a pair is taken to at most `d` below the other, where its range has room. -/
theorem fits_low (hv : InItem a v) (hb : InItem b (g.at b)) (hroom : (itemAt a).lo + d ≤ (itemAt b).lo) :
    Fits g a (min v (g.at b - d)) := by
  obtain ⟨hlo, hhi⟩ := hv
  have room := hroom.trans hb.1
  refine ⟨⟨by omega, by omega⟩, fun b' d' h' => ?_, fun c d' h' => absurd h' (h.not_both hout).1⟩
  obtain ⟨rfl, rfl⟩ := h.upper_unique h'
  omega

/-- R183: the upper item of a pair is taken to at least `d` above the other, where its range has room. -/
theorem fits_high (hv : InItem b v) (ha : InItem a (g.at a)) (hroom : (itemAt a).hi + d ≤ (itemAt b).hi) :
    Fits g b (max v (g.at a + d)) := by
  obtain ⟨hlo, hhi⟩ := hv
  have room := (Nat.add_le_add_right ha.2 d).trans hroom
  refine ⟨⟨by omega, by omega⟩, fun c d' h' => absurd h' (h.not_both hout).2, fun a' d' h' => ?_⟩
  obtain ⟨rfl, rfl⟩ := h.lower_unique h'
  omega

end

/-- The places of a speed table, which begins at `base`. -/
def InTable (base place : Nat) : Prop := (base = 24 ∨ base = 40) ∧ base ≤ place ∧ place ≤ base + 15

theorem InTable.item {base : Nat} (h : InTable base place) : (itemAt place).lo = 300 ∧ (itemAt place).hi = 20000 := by
  obtain ⟨hbase, hlo, hhi⟩ := h
  have every : ∀ p < 56, 24 ≤ p → (itemAt p).lo = 300 ∧ (itemAt p).hi = 20000 := by decide
  exact every place (by omega) (by omega)

theorem InTable.depends_below {base b d : Nat} (h : InTable base place) : Depends place b d ↔ base < place ∧ b = place - 1 ∧ d = 0 := by
  unfold InTable at h; omega

theorem InTable.depends_above {base a d : Nat} (h : InTable base place) : Depends a place d ↔ place < base + 15 ∧ a = place + 1 ∧ d = 0 := by
  unfold InTable at h; omega

theorem InTable.next {base : Nat} (h : InTable base place) (hp : place < base + 15) : InTable base (place + 1) :=
  ⟨h.1, Nat.le_succ_of_le h.2.1, hp⟩

theorem InTable.prev {base : Nat} (h : InTable base place) (hp : base < place) : InTable base (place - 1) :=
  ⟨h.1, Nat.le_sub_one_of_lt hp, (Nat.sub_le ..).trans h.2.2⟩

/-- R183: an entry of a speed table is taken between its neighbours. -/
theorem fits_clampRamp {base : Nat} (hg : ∀ i < 80, Fits g i (g.at i)) (h : InTable base place) (hv : InItem place v) :
    Fits g place (clampRamp g base place v) := by
  have ⟨_, hlo, hhi⟩ := h
  have hp : place < 80 := by omega
  obtain ⟨hfrom, hto⟩ := h.item
  have before : base < place → 300 ≤ g.at (place - 1) ∧ g.at place ≤ g.at (place - 1) := fun hlt =>
    ⟨(h.prev hlt).item.1 ▸ (hg (place - 1) (by omega)).range.1, (hg place hp).below _ 0 (h.depends_below.2 ⟨hlt, rfl, rfl⟩)⟩
  have after : place < base + 15 → g.at (place + 1) ≤ 20000 ∧ g.at (place + 1) ≤ g.at place := fun hlt =>
    ⟨(h.next hlt).item.2 ▸ (hg (place + 1) (by omega)).range.2, (hg place hp).above _ 0 (h.depends_above.2 ⟨hlt, rfl, rfl⟩)⟩
  rw [InItem, hfrom, hto] at hv
  have between : (300 ≤ clampRamp g base place v ∧ clampRamp g base place v ≤ 20000) ∧
      (base < place → clampRamp g base place v ≤ g.at (place - 1)) ∧ (place < base + 15 → g.at (place + 1) ≤ clampRamp g base place v) := by
    unfold clampRamp
    dsimp only
    split <;> split <;> omega
  obtain ⟨range, below, above⟩ := between
  refine ⟨by rwa [InItem, hfrom, hto], fun b d hd => ?_, fun a d hd => ?_⟩
  · obtain ⟨hlt, rfl, rfl⟩ := h.depends_below.1 hd
    exact below hlt
  · obtain ⟨hlt, rfl, rfl⟩ := h.depends_above.1 hd
    exact above hlt

theorem clampRamp_eq_self {base : Nat} (h : InTable base place) (hf : Fits g place v) : clampRamp g base place v = v := by
  have below : base < place → v ≤ g.at (place - 1) := fun hlt => hf.below _ 0 (h.depends_below.2 ⟨hlt, rfl, rfl⟩)
  have above : place < base + 15 → g.at (place + 1) ≤ v := fun hlt => hf.above _ 0 (h.depends_above.2 ⟨hlt, rfl, rfl⟩)
  obtain ⟨-, hlo, hhi⟩ := h
  unfold clampRamp
  dsimp only
  split <;> split <;> omega

/-- R183: over legal settings the second stage takes any value of the item's range to one that fits. -/
theorem fits_clampDependency (hg : ∀ i < 80, Fits g i (g.at i)) (hv : InItem place v) : Fits g place (clampDependency g place v) := by
  have partner : ∀ i < 80, InItem i (g.at i) := fun i hi => (hg i hi).range
  unfold clampDependency
  split_ifs with hhot hresume hpmin hpmax hbmin hbmax hprint hscan
  · subst hhot
    exact fits_high (a := 22) (b := 21) (d := 8) (by omega) (by omega) hv (partner 22 (by omega)) (by decide)
  · subst hresume
    exact fits_low (a := 22) (b := 21) (d := 8) (by omega) (by omega) hv (partner 21 (by omega)) (by decide)
  · subst hpmin
    exact fits_low (a := 74) (b := 75) (d := 1) (by omega) (by omega) hv (partner 75 (by omega)) (by decide)
  · subst hpmax
    exact fits_high (a := 74) (b := 75) (d := 1) (by omega) (by omega) hv (partner 74 (by omega)) (by decide)
  · subst hbmin
    exact fits_low (a := 76) (b := 77) (d := 1) (by omega) (by omega) hv (partner 77 (by omega)) (by decide)
  · subst hbmax
    exact fits_high (a := 76) (b := 77) (d := 1) (by omega) (by omega) hv (partner 76 (by omega)) (by decide)
  · exact fits_clampRamp hg ⟨.inl rfl, hprint⟩ hv
  · exact fits_clampRamp hg ⟨.inr rfl, hscan⟩ hv
  · exact fits_free hv (by omega) (by omega)

/-- R183: a value that fits needs no clamping. -/
theorem clampDependency_eq_self (hf : Fits g place v) : clampDependency g place v = v := by
  unfold clampDependency
  split_ifs with hhot hresume hpmin hpmax hbmin hbmax hprint hscan
  · subst hhot; exact max_eq_left (hf.above 22 8 (by omega))
  · subst hresume; exact min_eq_left (Nat.le_sub_of_add_le (hf.below 21 8 (by omega)))
  · subst hpmin; exact min_eq_left (Nat.le_sub_of_add_le (hf.below 75 1 (by omega)))
  · subst hpmax; exact max_eq_left (hf.above 74 1 (by omega))
  · subst hbmin; exact min_eq_left (Nat.le_sub_of_add_le (hf.below 77 1 (by omega)))
  · subst hbmax; exact max_eq_left (hf.above 76 1 (by omega))
  · exact clampRamp_eq_self ⟨.inl rfl, hprint⟩ hf
  · exact clampRamp_eq_self ⟨.inr rfl, hscan⟩ hf
  · rfl

theorem put_clampSet_settingsLegal (hs : s.settingsLegal) (hp : place < 80) (v : Nat) :
    (s.onSettings (Settings.put place (clampSet s.settings place v))).settingsLegal :=
  (put_settingsLegal_iff hs hp).2 (fits_clampDependency (settingsLegal_iff.1 hs).2 (inItem_clampRange hp v))

/-- Settles O53: the clamp gives a value that fits among the others (`fits_clampDependency`), and leaves one that does
(`clampDependency_eq_self`); the values that fit are those that leave the settings legal (`put_settingsLegal_iff`). -/
theorem settingSetClampsLegally : Obligations.SettingSetClampsLegally := by
  unfold Obligations.SettingSetClampsLegally
  refine fun s place v hs hp => ⟨put_clampSet_settingsLegal hs hp v, fun hlegal => ?_⟩
  have hf := (put_settingsLegal_iff hs hp).1 hlegal
  rw [clampSet, clampRange_eq_self hf.range, clampDependency_eq_self hf]

/-! ## The clamping of a loaded image (R186) -/

theorem getD_clampAllRanges {vs : List Nat} (hlen : vs.length = 80) (hp : place < 80) :
    (clampAllRanges vs).getD place 0 = clampRange place (vs.getD place 0) := by
  have hi : place < items.length := hp
  have hv : place < vs.length := hlen ▸ hp
  simp [clampAllRanges, clampRange, itemAt, List.getD, hi, hv]

theorem length_clampAllRanges {vs : List Nat} (hlen : vs.length = 80) : (clampAllRanges vs).length = 80 := by
  rw [clampAllRanges, List.length_map, List.length_zip, hlen]; rfl

theorem getD_lowerAt (place bound k : Nat) (vs : List Nat) :
    (lowerAt place bound vs).getD k 0 = if k = place ∧ place < vs.length then min (vs.getD place 0) bound else vs.getD k 0 :=
  getD_modifyAt_ite _ _ _ _ _

theorem getD_lowerAt_ne {place k : Nat} (h : k ≠ place) (bound : Nat) (vs : List Nat) :
    (lowerAt place bound vs).getD k 0 = vs.getD k 0 := by
  rw [getD_lowerAt, if_neg fun hc => h hc.1]

/-- R186: an item lowered to `d` below another. -/
theorem lowerAt_pair {place b d : Nat} {vs : List Nat} (hp : place < vs.length) (hroom : d ≤ vs.getD b 0) :
    (lowerAt place (vs.getD b 0 - d) vs).getD place 0 + d ≤ vs.getD b 0 := by
  rw [getD_lowerAt, if_pos ⟨rfl, hp⟩]
  omega

theorem length_lowerAt (place bound : Nat) (vs : List Nat) : (lowerAt place bound vs).length = vs.length := length_modifyAt _ _ _

/-- R186: the first three steps of the clamping. -/
def clampPairs (vs : List Nat) : List Nat :=
  let r := clampAllRanges vs
  let r := lowerAt 22 (r.getD 21 0 - 8) r
  let r := lowerAt 74 (r.getD 75 0 - 1) r
  lowerAt 76 (r.getD 77 0 - 1) r

/-- R186: every value in its range, 80 of them. -/
def AllInItem (vs : List Nat) : Prop := vs.length = 80 ∧ ∀ place < 80, InItem place (vs.getD place 0)

theorem allInItem_clampAllRanges {vs : List Nat} (hlen : vs.length = 80) : AllInItem (clampAllRanges vs) :=
  ⟨length_clampAllRanges hlen, fun _ hp => getD_clampAllRanges hlen hp ▸ inItem_clampRange hp _⟩

/-- R186, steps 2 and 3: an item lowered below its partner, which leaves it room, stays in its range. -/
theorem AllInItem.lowerAt {vs : List Nat} {b d : Nat} (h : AllInItem vs) (hb : b < 80) (hroom : (itemAt place).lo + d ≤ (itemAt b).lo) :
    AllInItem (lowerAt place (vs.getD b 0 - d) vs) := by
  obtain ⟨hlen, hitem⟩ := h
  refine ⟨(length_lowerAt ..).trans hlen, fun k hk => ?_⟩
  rw [getD_lowerAt]
  split
  · next hc =>
    obtain ⟨rfl, -⟩ := hc
    obtain ⟨hlo, hhi⟩ := hitem k hk
    have := (hitem b hb).1
    exact ⟨by omega, by omega⟩
  · exact hitem k hk

/-- R186: after the first three steps every value lies in its range, and the three pairs agree. -/
theorem clampPairs_spec {vs : List Nat} (hlen : vs.length = 80) : AllInItem (clampPairs vs) ∧
    (clampPairs vs).getD 22 0 + 8 ≤ (clampPairs vs).getD 21 0 ∧ (clampPairs vs).getD 74 0 + 1 ≤ (clampPairs vs).getD 75 0 ∧
    (clampPairs vs).getD 76 0 + 1 ≤ (clampPairs vs).getD 77 0 := by
  unfold clampPairs
  extract_lets r0 r1 r2
  have h0 : AllInItem r0 := allInItem_clampAllRanges hlen
  have h1 : AllInItem r1 := h0.lowerAt (by decide) (by decide)
  have h2 : AllInItem r2 := h1.lowerAt (by decide) (by decide)
  have resume : r1.getD 22 0 + 8 ≤ r0.getD 21 0 :=
    lowerAt_pair (h0.1.symm ▸ by decide) ((by decide : 8 ≤ (itemAt 21).lo).trans (h0.2 21 (by decide)).1)
  have period : r2.getD 74 0 + 1 ≤ r1.getD 75 0 :=
    lowerAt_pair (h1.1.symm ▸ by decide) ((by decide : 1 ≤ (itemAt 75).lo).trans (h1.2 75 (by decide)).1)
  refine ⟨h2.lowerAt (by decide) (by decide), ?_, ?_,
    (lowerAt_pair (h2.1.symm ▸ by decide) ((by decide : 1 ≤ (itemAt 77).lo).trans (h2.2 77 (by decide)).1)).trans_eq
      (getD_lowerAt_ne (by decide) ..).symm⟩
  · have later : ∀ k, k ≠ 74 → k ≠ 76 → (lowerAt 76 (r2.getD 77 0 - 1) r2).getD k 0 = r1.getD k 0 := fun _ h h' =>
      (getD_lowerAt_ne h' ..).trans (getD_lowerAt_ne h ..)
    rw [later 22 (by decide) (by decide), later 21 (by decide) (by decide)]
    exact resume.trans_eq (getD_lowerAt_ne (by decide) ..).symm
  · rw [getD_lowerAt_ne (k := 74) (by decide), getD_lowerAt_ne (k := 75) (by decide)]
    exact period.trans_eq (getD_lowerAt_ne (by decide) ..).symm

/-! ## The speed tables of a loaded image (R186, step 4) -/

theorem length_lowerRamp (bound : Nat) (vs : List Nat) : (lowerRamp bound vs).length = vs.length := by
  induction vs generalizing bound with
  | nil => rfl
  | cons v vs ih => rw [lowerRamp, List.length_cons, ih, List.length_cons]

theorem getD_lowerRamp_le (bound l : Nat) (vs : List Nat) : (lowerRamp bound vs).getD l 0 ≤ bound := by
  induction vs generalizing bound l with
  | nil => exact Nat.zero_le _
  | cons v vs ih =>
    cases l with
    | zero => exact min_le_right v bound
    | succ l => exact (ih (min v bound) l).trans (min_le_right v bound)

/-- The entries of a lowered table never rise. -/
theorem lowerRamp_descends (bound l : Nat) (vs : List Nat) : (lowerRamp bound vs).getD (l + 1) 0 ≤ (lowerRamp bound vs).getD l 0 := by
  induction vs generalizing bound l with
  | nil => exact Nat.zero_le _
  | cons v vs ih =>
    cases l with
    | zero => exact getD_lowerRamp_le (min v bound) 0 vs
    | succ l => exact ih (min v bound) l

/-- A table is lowered to no less than its least entry. -/
theorem le_getD_lowerRamp {low bound l : Nat} {vs : List Nat} (hbound : low ≤ bound) (hvs : ∀ v ∈ vs, low ≤ v) (hl : l < vs.length) :
    low ≤ (lowerRamp bound vs).getD l 0 := by
  induction vs generalizing bound l with
  | nil => cases hl
  | cons v vs ih =>
    have hmin : low ≤ min v bound := le_min (hvs v List.mem_cons_self) hbound
    cases l with
    | zero => exact hmin
    | succ l => exact ih hmin (fun w hw => hvs w (List.mem_cons_of_mem v hw)) (Nat.lt_of_succ_lt_succ hl)

/-- R186: the speed table from `base` on, as it is loaded. -/
def loadedTable (base : Nat) (vs : List Nat) : List Nat := lowerRamp 20000 (((clampPairs vs).drop base).take 16)

theorem clampLoaded_eq (vs : List Nat) : clampLoaded vs =
    (clampPairs vs).take 24 ++ loadedTable 24 vs ++ loadedTable 40 vs ++ (clampPairs vs).drop 56 := rfl

theorem getD_joined {a b c : List Nat} (ha : a.length = 24) (hb : b.length = 16) (hc : c.length = 16) (d : List Nat) (k : Nat) :
    (a ++ b ++ c ++ d).getD k 0 =
      if k < 24 then a.getD k 0 else if k < 40 then b.getD (k - 24) 0 else if k < 56 then c.getD (k - 40) 0 else d.getD (k - 56) 0 := by
  have hab : (a ++ b).length = 40 := by rw [List.length_append, ha, hb]
  have habc : (a ++ b ++ c).length = 56 := by rw [List.length_append, hab, hc]
  split_ifs with h24 h40 h56
  · rw [List.getD_append _ _ _ _ (by omega), List.getD_append _ _ _ _ (by omega), List.getD_append _ _ _ _ (by omega)]
  · rw [List.getD_append _ _ _ _ (by omega), List.getD_append _ _ _ _ (by omega), List.getD_append_right _ _ _ _ (by omega), ha]
  · rw [List.getD_append _ _ _ _ (by omega), List.getD_append_right _ _ _ _ (by omega), hab]
  · rw [List.getD_append_right _ _ _ _ (by omega), habc]

section
variable {vs : List Nat} (hlen : vs.length = 80)
include hlen

theorem length_loadedTable {base : Nat} (hbase : base + 16 ≤ 80) : (loadedTable base vs).length = 16 := by
  have := (clampPairs_spec hlen).1.1
  rw [loadedTable, length_lowerRamp, List.length_take, List.length_drop]
  omega

theorem getD_clampLoaded (k : Nat) : (clampLoaded vs).getD k 0 =
    if k < 24 then (clampPairs vs).getD k 0 else if k < 40 then (loadedTable 24 vs).getD (k - 24) 0
    else if k < 56 then (loadedTable 40 vs).getD (k - 40) 0 else (clampPairs vs).getD k 0 := by
  have hsize := (clampPairs_spec hlen).1.1
  have hhead : ((clampPairs vs).take 24).length = 24 := by rw [List.length_take]; omega
  rw [clampLoaded_eq, getD_joined hhead (length_loadedTable hlen (base := 24) (by decide)) (length_loadedTable hlen (base := 40) (by decide))]
  split_ifs with h24 h40 h56
  · simp [List.getD, h24]
  · rfl
  · rfl
  · rw [List.getD, List.getD, List.getElem?_drop, Nat.add_sub_cancel' (Nat.le_of_not_lt h56)]

theorem length_clampLoaded : (clampLoaded vs).length = 80 := by
  have hsize := (clampPairs_spec hlen).1.1
  have h24 := length_loadedTable hlen (base := 24) (by decide)
  have h40 := length_loadedTable hlen (base := 40) (by decide)
  simp only [clampLoaded_eq, List.length_append, List.length_take, List.length_drop, h24, h40]
  omega

/-- R186: an entry of a loaded table lies in its range. -/
theorem inItem_loadedTable {base : Nat} (h : InTable base place) : InItem place ((loadedTable base vs).getD (place - base) 0) := by
  obtain ⟨hsize, hitem⟩ := (clampPairs_spec hlen).1
  obtain ⟨hlo, hhi⟩ := h.item
  refine ⟨hlo ▸ le_getD_lowerRamp (by decide) (fun v hv => ?_) ?_, hhi ▸ getD_lowerRamp_le ..⟩
  · obtain ⟨l, hl, rfl⟩ := List.mem_iff_getElem.1 hv
    rw [List.length_take, List.length_drop] at hl
    have hbase : InTable base (base + l) := ⟨h.1, Nat.le_add_right .., by omega⟩
    have := (hitem (base + l) (by omega)).1
    rw [hbase.item.1, List.getD_eq_getElem _ _ (by omega)] at this
    simpa using this
  · obtain ⟨hbase, -, htop⟩ := h
    rw [List.length_take, List.length_drop]
    omega

/-- R186: whatever an image holds, the values loaded from it are legal. -/
theorem clampLoaded_settingsLegal (hs : s.settings.values = clampLoaded vs) : s.settingsLegal := by
  obtain ⟨⟨hsize, hitem⟩, hresume, hperiod, hburst⟩ := clampPairs_spec hlen
  have hat : ∀ k, s.settings.at k = (clampLoaded vs).getD k 0 := fun k => by rw [Settings.at, hs]
  refine ⟨inRange_iff_inItem.2 ⟨hs ▸ length_clampLoaded hlen, fun place hp => ?_⟩, dependencies_iff.2 ?_⟩
  · rw [hat, getD_clampLoaded hlen]
    split_ifs with h24 h40 h56
    · exact hitem place hp
    · exact inItem_loadedTable hlen ⟨.inl rfl, by omega, by omega⟩
    · exact inItem_loadedTable hlen ⟨.inr rfl, by omega, by omega⟩
    · exact hitem place hp
  · have outside : ∀ {k}, k < 24 ∨ 56 ≤ k → s.settings.at k = (clampPairs vs).getD k 0 := fun h => by
      rw [hat, getD_clampLoaded hlen]
      split_ifs <;> omega
    have print : ∀ l < 16, s.settings.at (24 + l) = (loadedTable 24 vs).getD l 0 := fun l hl => by
      rw [hat, getD_clampLoaded hlen, if_neg (by omega), if_pos (by omega), Nat.add_sub_cancel_left]
    have scan : ∀ l < 16, s.settings.at (40 + l) = (loadedTable 40 vs).getD l 0 := fun l hl => by
      rw [hat, getD_clampLoaded hlen, if_neg (by omega), if_neg (by omega), if_pos (by omega), Nat.add_sub_cancel_left]
    refine ⟨?_, ?_, ?_, fun l hl => ?_, fun l hl => ?_⟩
    · show s.settings.at 22 + 8 ≤ s.settings.at 21
      rwa [outside (by decide), outside (by decide)]
    · show s.settings.at 74 + 1 ≤ s.settings.at 75
      rwa [outside (by decide), outside (by decide)]
    · show s.settings.at 76 + 1 ≤ s.settings.at 77
      rwa [outside (by decide), outside (by decide)]
    · show s.settings.at (24 + (l + 1)) ≤ s.settings.at (24 + l)
      rw [print _ (by omega), print _ (by omega)]
      exact lowerRamp_descends ..
    · show s.settings.at (40 + (l + 1)) ≤ s.settings.at (40 + l)
      rw [scan _ (by omega), scan _ (by omega)]
      exact lowerRamp_descends ..

end

/-- Settles O54: the pairs are clamped with room in each range (`clampPairs_spec`), the tables are lowered within theirs
(`clampLoaded_settingsLegal`), and a legal set stands (`clampLoaded_eq_self`). -/
theorem loadedSettingsClampLegally : Obligations.LoadedSettingsClampLegally := by
  unfold Obligations.LoadedSettingsClampLegally
  exact fun s vs hlen => ⟨clampLoaded_settingsLegal (s := s.onSettings fun g => { g with values := clampLoaded vs }) hlen rfl,
    fun ⟨hr, hd⟩ => clampLoaded_eq_self (g := { s.settings with values := vs }) hr hd⟩

end Sys2Proof.Machine
end

section
/-! What leaves the settings as they stand (R181): every operation but those on the settings themselves. -/

namespace Sys2Proof.Machine

-- One theorem at a time, as in the tests: a thread for each would exceed the memory allowed.
set_option Elab.async false

variable (s : State)

/-! ## The events, the link and the end of a step (R191 to R206) -/

@[simp] theorem settle_settings : (settle s).settings = s.settings := rfl
@[simp] theorem raise_settings (n : Nat) (d : Detail) : (raise n d s).settings = s.settings := (kept_raise (Kept.refl s)).settings
@[simp] theorem raiseDone_settings (op : DoneOp) (o : DoneOutcome) (n : Nat) : (raiseDone op o n s).settings = s.settings :=
  (kept_raiseDone (Kept.refl s)).settings
@[simp] theorem raiseSensor_settings : (raiseSensor s).settings = s.settings := (kept_raiseSensor (Kept.refl s)).settings
@[simp] theorem linkFault_settings (f : LinkFault) : (linkFault f s).settings = s.settings := (kept_linkFault (Kept.refl s)).settings
@[simp] theorem huntAgain_settings : (huntAgain s).settings = s.settings := rfl
@[simp] theorem dropGap_settings : (dropGap s).settings = s.settings := (kept_dropGap (Kept.refl s)).settings
@[simp] theorem receiveByte_settings (b : Byte) (framing : Bool) : (receiveByte b framing s).settings = s.settings :=
  (kept_receiveByte (Kept.refl s)).settings
@[simp] theorem judgeFrame_settings : (judgeFrame s).settings = s.settings := by
  simp [judgeFrame, validFrame, apply_ite State.settings]
@[simp] theorem beforeByte_settings : (beforeByte s).settings = s.settings := by simp [beforeByte, apply_ite State.settings]

/-! ## HEADPWR, the modes and the wake causes (R104, R137, R146 to R153) -/

@[simp] theorem headOff_settings : (headOff s).settings = s.settings := by rw [headOff_eq]
@[simp] theorem headOn_settings : (headOn s).settings = s.settings := by simp [headOn, apply_ite State.settings]
@[simp] theorem enterActive_settings : (enterActive s).settings = s.settings := by simp [enterActive, apply_ite State.settings]
@[simp] theorem enterStandby_settings : (enterStandby s).settings = s.settings := headOff_settings s
@[simp] theorem enterDoze_settings : (enterDoze s).settings = s.settings := rfl
@[simp] theorem wakeCause_settings (c : WakeCauses) : (wakeCause c s).settings = s.settings := by unfold wakeCause; split <;> rfl
@[simp] theorem reachStandby_settings : (reachStandby s).settings = s.settings := raise_settings s _ _
@[simp] theorem sensed_settings (c : WakeCauses) : (sensed c s).settings = s.settings := by simp [sensed]

/-! ## Grants, and what follows of itself (R54) -/

@[simp] theorem takeEngine_settings (e : Engine) (h : Holder) : (takeEngine e h s).settings = s.settings := by cases e <;> rfl

@[simp] theorem granted_settings (k : Nat) (kind : JobKind) : (granted k kind s).settings = s.settings := by
  have left : (leaveLists k s).settings = s.settings := (kept_leaveLists (Kept.refl s)).settings
  exact List.foldlRecOn _ _ (motive := fun t => t.settings = s.settings) left fun t h e _ =>
    (kept_beginWork (Kept.refl _)).settings.trans ((takeEngine_settings t e _).trans h)

@[simp] theorem grantJob_settings (k : Nat) (kind : JobKind) : (grantJob k kind s).settings = s.settings := by
  simp [grantJob_eq, apply_ite State.settings]

@[simp] theorem advance_settings : (advance s).settings = s.settings :=
  advance_induction (P := fun t => t.settings = s.settings) (fun _ _ hk h => hk.settings.trans h)
    (fun t k kind h => (grantJob_settings t k kind).trans h) rfl

/-! ## The motors and the head (R114 to R131) -/

@[simp] theorem onFeed_settings (m : Motor) (f : Feed → Feed) : (onFeed m f s).settings = s.settings := rfl
@[simp] theorem setCurrent_settings (m : Motor) (c : MotorState) : (setCurrent m c s).settings = s.settings := rfl
@[simp] theorem currentsNow_settings (m : Motor) : (currentsNow m s).settings = s.settings := by
  simp [currentsNow, apply_ite State.settings]
@[simp] theorem lineStrobed_settings (tag : LineTag) : (lineStrobed tag s).settings = s.settings := (kept_lineStrobed (Kept.refl s)).settings
@[simp] theorem fireLine_settings (tag : LineTag) (image fresh : Line) (plan : List Phase) :
    (fireLine tag image fresh plan s).settings = s.settings := by simp [fireLine, apply_ite State.settings]
@[simp] theorem printStep_settings (tag : LineTag) (image fresh : Line) (plan : List Phase) (due : Bool) :
    (printStep tag image fresh plan due s).settings = s.settings := by
  simp [printStep, apply_ite State.settings, (kept_whitenHistory (Kept.refl s)).settings, (kept_paperOut (Kept.refl s)).settings]
@[simp] theorem firstStep_settings (e : Entry) : (firstStep e s).settings = s.settings := by
  unfold firstStep
  split
  · exact (kept_lineStep (Kept.refl s)).settings
  · exact printStep_settings ..
  · rfl
@[simp] theorem takeStep_settings (m : Motor) (level : Nat) : (takeStep m level s).settings = s.settings := by
  unfold takeStep
  split
  · rfl
  · cases m
    · simp [apply_ite State.settings, (kept_scanCounts (Kept.refl _)).settings]
    · simp [apply_ite State.settings, (kept_headRests (kept_advanceStep (Kept.refl _))).settings]
@[simp] theorem beginMotion_settings (m : Motor) : (beginMotion m s).settings = s.settings := by
  simp [beginMotion, apply_ite State.settings]
@[simp] theorem endEnergizing_settings (m : Motor) : (endEnergizing m s).settings = s.settings := by simp [endEnergizing]
@[simp] theorem endSubpulse_settings : (endSubpulse s).settings = s.settings := by
  unfold endSubpulse
  split
  · rfl
  · split <;> simp

/-! ## Calibration, the cutter and the emergency stop (R97, R135 to R140, R175) -/

@[simp] theorem endCalibration_settings (o : DoneOutcome) (c : CalOutcome) : (endCalibration o c s).settings = s.settings := by
  unfold endCalibration
  dsimp only
  split
  · exact (kept_lampOff (Kept.refl _)).settings
  · exact (kept_raiseDone (kept_endOp (kept_lampOff (Kept.refl _)))).settings
@[simp] theorem endCalibrationLine_settings (raw : List Byte) : (endCalibrationLine raw s).settings = s.settings := by
  unfold endCalibrationLine
  split
  · rfl
  · simp [installCalibration, apply_ite State.settings, (kept_lampOn (Kept.refl _)).settings]
@[simp] theorem abandonCalibration_settings : (abandonCalibration s).settings = s.settings := by
  simp [abandonCalibration, apply_ite State.settings]
@[simp] theorem cycleSucceeds_settings : (cycleSucceeds s).settings = s.settings := by
  unfold cycleSucceeds
  dsimp only
  split
  · rfl
  split
  · exact (kept_cutSucceeded (kept_endCut (Kept.refl s))).settings
  · exact (kept_endCut (Kept.refl s)).settings
@[simp] theorem homeChanged_settings (home : Bool) : (homeChanged home s).settings = s.settings := by
  simp [homeChanged, apply_ite State.settings]
@[simp] theorem beginHoming_settings (l : Levels) : (beginHoming l s).settings = s.settings := by
  simp [beginHoming, apply_ite State.settings, (kept_beginCycle (Kept.refl _)).settings]
@[simp] theorem beginStartCalibration_settings (l : Levels) : (beginStartCalibration l s).settings = s.settings := by
  simp [beginStartCalibration, apply_ite State.settings, (kept_beginCalibration (Kept.refl _)).settings]

@[simp] theorem emergencyStop_settings (cause : Reason) : (emergencyStop cause s).settings = s.settings := by
  obtain ⟨-, -, halted, -, -⟩ := mechanismHalted_frame s
  obtain ⟨f, hstop⟩ := emergencyStop_onPower cause s
  calc (emergencyStop cause s).settings
      = (stopTold cause s).settings := by rw [hstop]; rfl
    _ = (headOff (mechanismHalted s)).settings := (kept_stopTold cause s).settings
    _ = s.settings := (headOff_settings _).trans halted
@[simp] theorem coverOpens_settings : (coverOpens s).settings = s.settings := by simp [coverOpens, apply_ite State.settings]
@[simp] theorem coverCloses_settings : (coverCloses s).settings = s.settings := by simp [coverCloses, apply_ite State.settings]
@[simp] theorem cycleTimesOut_settings : (cycleTimesOut s).settings = s.settings := by
  simp [cycleTimesOut, apply_ite State.settings, (kept_driveOff (Kept.refl _)).settings, (kept_quietJam (Kept.refl _)).settings]

/-! ## Ringing, silence, the alarm, the battery (R154 to R165) -/

@[simp] theorem ringStops_settings (why : RingStop) : (ringStops why s).settings = s.settings := by
  unfold ringStops
  dsimp only
  split <;> simp
@[simp] theorem ringQualifies_settings (length : Nat) : (ringQualifies length s).settings = s.settings := by
  unfold ringQualifies
  dsimp only
  repeat' split
  all_goals simp
@[simp] theorem judgeBurst_settings : (judgeBurst s).settings = s.settings := by simp [judgeBurst, apply_ite State.settings]
@[simp] theorem ringOverdue_settings : (ringOverdue s).settings = s.settings := by simp [ringOverdue, apply_ite State.settings]
@[simp] theorem takePulse_settings : (takePulse s).settings = s.settings := by
  unfold takePulse
  split
  · simp [apply_ite State.settings]
  · rfl
@[simp] theorem alarmExpires_settings : (alarmExpires s).settings = s.settings := by simp [alarmExpires, apply_ite State.settings]
@[simp] theorem firstExpiry_settings : (firstExpiry s).settings = s.settings :=
  (kept_raise (kept_foldl (fun _ _ hk => kept_stopJob hk) (Kept.refl s))).settings
@[simp] theorem secondExpiry_settings : (secondExpiry s).settings = s.settings := by
  rw [secondExpiry_eq]
  exact (kept_jobsAborted (hostResetBegun s)).settings
@[simp] theorem silenceNow_settings : (silenceNow s).settings = s.settings := by simp [silenceNow, apply_ite State.settings]
@[simp] theorem readBattery_settings (low : Bool) : (readBattery low s).settings = s.settings := by
  simp [readBattery, apply_ite State.settings]

/-! ## The start-up (R166 to R177) -/

@[simp] theorem build_settings (size : Nat) (failing : List Nat) (faults : ParityFaults) :
    (if s.start.domainLost then buildFresh size failing s else buildRebuilt faults s).settings = s.settings := by
  split
  · rfl
  · obtain ⟨_, _, -, hbuilt, rebuilt⟩ := buildRebuilt_eq faults s
    obtain ⟨_, _, _, _, rfl⟩ := rebuilt.frame.rest
    rw [hbuilt]
    rfl
@[simp] theorem raiseHeldAlarm_settings : (raiseHeldAlarm s).settings = s.settings := by
  simp [raiseHeldAlarm, apply_ite State.settings]
@[simp] theorem release_settings : (release s).settings = s.settings := by
  unfold release
  extract_lets ready linked counted booted supplied
  have hbooted : booted.settings = s.settings := raise_settings counted 0 _
  calc (raiseHeldAlarm supplied).settings
      = (if booted.start.batteryLow then raise 3 (.supply false true none) booted else booted).settings := raiseHeldAlarm_settings supplied
    _ = s.settings := by split <;> simp [hbooted]

/-! ## What a changed setting brings about at once (R185), and a reset (R164) -/

@[simp] theorem settingsEffect_settings (lowWater : Nat) : (settingsEffect lowWater s).settings = s.settings := by
  simp [settingsEffect, apply_ite State.settings, (kept_lowAfterSetting (Kept.refl _)).settings]

/-- R164, R187: a reset may cut a store off; the working values stand until the SETTINGS phase (log 97). -/
theorem resetBlocks_values (kind : ResetKind) : (resetBlocks kind s).settings.values = s.settings.values := by
  show s.settings.cutOff.values = s.settings.values
  unfold Settings.cutOff
  split <;> rfl

theorem replySent_values : (replySent s).settings.values = s.settings.values := by
  unfold replySent
  split
  · exact resetBlocks_values s .restart
  · simp [apply_ite State.settings, (kept_transmitNext (Kept.refl _)).settings]

theorem endStore_values (r : StoreResult) (w : Writing) : (endStore r w s).settings.values = s.settings.values := by
  unfold endStore
  split <;> simp

end Sys2Proof.Machine
end

section
/-! Every step keeps the working settings legal (O55): SETTING-SET, SETTINGS-DEFAULT and the load give legal values, and all else leaves
the values as they stand. -/

namespace Sys2Proof.Machine

-- One theorem at a time, as in the tests: a thread for each would exceed the memory allowed.
set_option Elab.async false

variable {s t u : State}

/-! ## Commands and events that leave the values -/

/-- A verdict of DONE leaves a state of which `P` holds (R195). -/
def Verdict.gives (P : State → Prop) (v : Verdict) : Prop := ∀ r, v = .ok r → P r.1

section
variable {P : State → Prop}

theorem Verdict.gives_ok {data : List Byte} (h : P t) : Verdict.gives P (.ok (t, data)) := fun _ hr => by cases hr; exact h
theorem Verdict.gives_error {a : Answer} : Verdict.gives P (.error a) := fun _ hr => nomatch hr

theorem Verdict.gives_ite {c : Prop} [Decidable c] {a b : Verdict} (ha : Verdict.gives P a) (hb : Verdict.gives P b) :
    Verdict.gives P (if c then a else b) := by
  split
  exacts [ha, hb]

/-- A check that refuses, or what follows it. -/
theorem Verdict.gives_unless {c : Prop} [Decidable c] {a : Answer} {v : Verdict} (hv : Verdict.gives P v) :
    Verdict.gives P (if c then .error a else v) := Verdict.gives_ite Verdict.gives_error hv

/-- R195: a command step keeps what the verdict gives and the placing of the REPLY keeps. -/
theorem gives_command {i : Instr} {judge : State → Verdict} (ht : command i judge s = .next t) (hs : P s)
    (hvalues : ∀ u v : State, u.settings.values = v.settings.values → P v → P u) (h : Verdict.gives P (judge (releaseCommand s))) : P t := by
  rcases event_cases ht with ⟨-, rfl⟩ | ⟨-, rfl⟩
  · refine hvalues _ _ (congrArg Settings.values (settle_settings _)) ?_
    revert h
    generalize judge (releaseCommand s) = v
    intro judged
    cases v with
    | ok r => exact hvalues _ _ (congrArg Settings.values (kept_placeReply (Kept.refl r.1)).settings) (judged r rfl)
    | error a => exact hvalues _ _ (congrArg Settings.values (kept_placeReply (kept_releaseCommand (Kept.refl s))).settings) hs
  · exact hs
end

/-- The working values of `t` are those of `u` (R181). -/
def SameValues (u t : State) : Prop := t.settings.values = u.settings.values

theorem Verdict.same_ok {data : List Byte} (h : t.settings = u.settings) : Verdict.gives (SameValues u) (.ok (t, data)) :=
  Verdict.gives_ok (congrArg Settings.values h)

/-- A verdict of DONE on what the machinery of the jobs brought about. -/
theorem Verdict.same_kept {data : List Byte} (h : Kept u t) : Verdict.gives (SameValues u) (.ok (t, data)) := Verdict.same_ok h.settings
theorem Verdict.same_advance {data : List Byte} (h : Kept u t) : Verdict.gives (SameValues u) (.ok (advance t, data)) :=
  Verdict.same_ok ((advance_settings t).trans h.settings)

theorem values_event {due : Bool} {effect : State → State} (ht : event due effect s = .next t)
    (h : (effect s).settings.values = s.settings.values) : t.settings.values = s.settings.values := by
  rcases event_cases ht with ⟨-, rfl⟩ | ⟨-, rfl⟩
  exacts [h, rfl]

theorem values_quietEvent {due : Bool} {effect : State → State} (ht : event due effect s = .next t)
    (h : (effect s).settings = s.settings) : t.settings.values = s.settings.values := values_event ht (by rw [h])

theorem values_quietJobEvent {due : Bool} {effect : State → State} (ht : jobEvent due effect s = .next t)
    (h : (effect s).settings = s.settings) : t.settings.values = s.settings.values :=
  values_quietEvent ht ((advance_settings _).trans h)

/-- R195: a command step leaves the values where its verdict does. -/
theorem values_command {i : Instr} {judge : State → Verdict} (ht : command i judge s = .next t)
    (h : ∀ v, Verdict.gives (SameValues v) (judge v)) : t.settings.values = s.settings.values :=
  gives_command (P := SameValues s) ht rfl (fun _ _ huv hv => huv.trans hv) (h (releaseCommand s))

/-- A command that answers with data alone (R195). -/
theorem values_report {i : Instr} {data : State → List Byte} (ht : command i (fun s => .ok (s, data s)) s = .next t) :
    t.settings.values = s.settings.values := values_command ht fun _ => Verdict.same_ok rfl

/-! ## The commands on documents and jobs (R24 to R29, R49 to R78) -/

theorem same_docCreate {o r w : Byte} : Verdict.gives (SameValues s) (docCreate o r w s) := by
  unfold docCreate
  split
  · split
    exacts [Verdict.same_kept (kept_onDoc (Kept.refl s)), Verdict.gives_error]
  all_goals exact Verdict.gives_error

theorem same_docClose {n : Nat} : Verdict.gives (SameValues s) (docClose n s) :=
  Verdict.gives_unless (Verdict.gives_unless (Verdict.same_advance (kept_onDoc (Kept.refl s))))

theorem same_docDelete {n : Nat} : Verdict.gives (SameValues s) (docDelete n s) :=
  Verdict.gives_unless (Verdict.gives_unless (Verdict.same_advance (kept_deleteDocument (Kept.refl s))))

theorem same_pageDrop {n i : Nat} : Verdict.gives (SameValues s) (pageDrop n i s) := by
  unfold pageDrop
  split
  · exact Verdict.gives_error
  · exact Verdict.gives_unless (Verdict.same_advance (kept_erasePage (Kept.refl s)))

theorem same_startJob {p : StartParams} : Verdict.gives (SameValues s) (startJob p s) := by
  unfold startJob
  split
  · exact Verdict.gives_error
  refine Verdict.gives_unless ?_
  split
  · exact Verdict.gives_error
  · exact Verdict.same_ok ((advance_settings _).trans (kept_joinLists (kept_onDoc (Kept.refl _))).settings)

theorem same_answerJob {id c : Nat} : Verdict.gives (SameValues s) (answerJob id c s) := by
  unfold answerJob
  split
  · exact Verdict.gives_error
  split
  · exact Verdict.gives_error
  refine Verdict.gives_ite (Verdict.same_advance (kept_endJob (Kept.refl s))) (Verdict.gives_unless ?_)
  split
  · refine Verdict.gives_unless (Verdict.same_ok ?_)
    simp [takeAnswer, apply_ite State.settings, (kept_raiseJob (Kept.refl s)).settings, (kept_carryChoice (kept_onJob (Kept.refl s))).settings]
  · exact Verdict.gives_error

theorem same_holdJob {id : Nat} : Verdict.gives (SameValues s) (holdJob id s) := by
  unfold holdJob
  split
  · exact Verdict.gives_error
  · exact Verdict.gives_ite (Verdict.same_advance (kept_stopJob (Kept.refl s))) Verdict.gives_error

theorem same_resumeJob {id : Nat} : Verdict.gives (SameValues s) (resumeJob id s) := by
  unfold resumeJob
  split
  · exact Verdict.gives_error
  · exact Verdict.gives_ite (Verdict.same_advance (kept_resumed (Kept.refl s))) Verdict.gives_error

theorem same_abortJob {id : Nat} : Verdict.gives (SameValues s) (abortJob id s) := by
  unfold abortJob
  split
  · exact Verdict.gives_error
  · exact Verdict.same_advance (kept_endJob (Kept.refl s))

theorem same_sendCredit {id n : Nat} {faults : ParityFaults} :
    Verdict.gives (SameValues s) (sendCredit id n (s.onFaults (fun _ => faults))) := by
  unfold sendCredit
  split
  · exact Verdict.gives_error
  · exact Verdict.gives_unless (Verdict.same_advance (kept_onJob (kept_onFaults (Kept.refl s))))

/-! ## The mechanism, the modes, the alarm (R96 to R99, R141, R142, R153, R158) -/

theorem activeTaken_settings (e : Engine) (h : Holder) (s : State) : (enterActive (takeEngine e h s)).settings = s.settings := by simp

theorem startCalibration_settings (s : State) : (startCalibration s).settings = s.settings :=
  (kept_beginCalibration (Kept.refl _)).settings.trans (activeTaken_settings ..)

theorem startAdvance_settings (n : Nat) (s : State) : (startAdvance n s).settings = s.settings :=
  (kept_enqueue (Kept.refl _)).settings.trans (activeTaken_settings ..)

theorem startCut_settings (s : State) : (startCut s).settings = s.settings :=
  (kept_beginCycle (Kept.refl _)).settings.trans (activeTaken_settings ..)

theorem same_modeSet {m : Nat} : Verdict.gives (SameValues s) (modeSet m s) := by
  unfold modeSet
  split
  · exact Verdict.same_ok (enterActive_settings _)
  · exact Verdict.gives_ite (Verdict.same_ok rfl) (Verdict.gives_unless (Verdict.same_ok (enterStandby_settings s)))
  · exact Verdict.gives_unless (Verdict.same_ok rfl)
  · exact Verdict.same_ok rfl
  · exact Verdict.gives_error

theorem same_alarmSet {n : Nat} : Verdict.gives (SameValues s) (alarmSet n s) :=
  Verdict.gives_unless (Verdict.gives_ite (Verdict.same_ok rfl) (Verdict.same_ok rfl))

/-! ## The operations on the settings (R183, R186 to R189) -/

/-- R181: legality reads the working values alone. -/
theorem State.settingsLegal.of_values (hs : s.settingsLegal) (h : t.settings.values = s.settings.values) : t.settingsLegal := by
  have hat : t.settings.at = s.settings.at := funext fun place => by rw [Settings.at, Settings.at, h]
  obtain ⟨hlen, hfits⟩ := settingsLegal_iff.1 hs
  refine settingsLegal_iff.2 ⟨h ▸ hlen, fun place hp => ?_⟩
  obtain ⟨range, below, above⟩ := hfits place hp
  exact ⟨hat ▸ range, hat ▸ below, hat ▸ above⟩

/-- R181: the defaults are legal. -/
theorem defaultValues_settingsLegal (h : s.settings.values = defaultValues) : s.settingsLegal :=
  reset_settingsLegal.of_values h

theorem itemPlace_lt {id place : Nat} (h : itemPlace id = some place) : place < 80 := (List.findIdx?_eq_some_iff_getElem.1 h).1

/-- R183: SETTING-SET leaves legal settings. -/
theorem legal_settingSet {id v : Nat} (hs : s.settingsLegal) : Verdict.gives State.settingsLegal (settingSet id v s) := by
  unfold settingSet
  split
  · exact Verdict.gives_error
  next place hplace =>
  have put : ∀ {low}, (settingsEffect low (s.onSettings (Settings.put place (clampSet s.settings place v)))).settingsLegal :=
    (put_clampSet_settingsLegal hs (itemPlace_lt hplace) v).of_values (congrArg Settings.values (settingsEffect_settings ..))
  exact Verdict.gives_unless (Verdict.gives_unless (Verdict.gives_unless (Verdict.gives_ok put)))

/-- R189: SETTINGS-DEFAULT leaves the defaults. -/
theorem legal_settingsDefault {option : Nat} : Verdict.gives State.settingsLegal (settingsDefault option s) := by
  have effect : ∀ {low u}, u.settings.values = defaultValues → (settingsEffect low u).settingsLegal := fun h =>
    defaultValues_settingsLegal ((congrArg Settings.values (settingsEffect_settings ..)).trans h)
  exact Verdict.gives_unless (Verdict.gives_unless (Verdict.gives_unless (Verdict.gives_unless
    (Verdict.gives_ite (Verdict.gives_ok (effect rfl)) (Verdict.gives_ok (effect rfl))))))

/-- R168: a good image holds 80 values. -/
theorem length_pairs_image {image : List Byte} (h : imageGood image = true) : (pairs ((image.drop 2).take 160)).length = 80 := by
  have hlen : image.length = 512 := by
    simp only [imageGood, Bool.and_eq_true] at h
    obtain ⟨⟨hlen, -⟩, -⟩ := h
    exact of_decide_eq_true hlen
  have halves : ∀ (n : Nat) (bs : List Byte), bs.length = 2 * n → (pairs bs).length = n := by
    intro n
    induction n with
    | zero => intro bs hbs; rw [List.length_eq_zero_iff.1 hbs]; rfl
    | succ n ih =>
      intro bs hbs
      match bs, hbs with
      | a :: b :: rest, hbs =>
        have hrest : rest.length = 2 * n := by simp only [List.length_cons] at hbs; omega
        rw [pairs, List.length_cons, ih rest hrest]
  refine halves 80 _ ?_
  rw [List.length_take, List.length_drop, hlen]
  rfl

/-- R186: the SETTINGS phase loads legal settings, whatever the EEPROM holds. -/
theorem loadSettings_settingsLegal (answers : Bool) (s : State) : (loadSettings answers s).settingsLegal := by
  have defaulted : ∀ {e a}, loadImage e a = (defaultValues, false, .defaulted, 0) → s.settings.eeprom = e → answers = a →
      (loadSettings answers s).settingsLegal := fun h he ha => defaultValues_settingsLegal (by subst he ha; exact congrArg Prod.fst h)
  cases he : s.settings.eeprom with
  | partlyWritten => exact defaulted (loadImage_defaulted (.inr (.inl rfl))) he rfl
  | bytes image =>
    cases ha : answers with
    | false => exact ha ▸ defaulted (loadImage_defaulted (.inl rfl)) he ha
    | true =>
      cases hgood : imageGood image with
      | false => exact ha ▸ defaulted (loadImage_defaulted (.inr (.inr ⟨image, rfl, hgood⟩))) he ha
      | true => exact clampLoaded_settingsLegal (length_pairs_image hgood) (loadImage_taken he rfl hgood).1

/-- A command step keeps the settings legal where its verdict gives legal settings (R195). -/
theorem legal_command {i : Instr} {judge : State → Verdict} (hs : s.settingsLegal) (ht : command i judge s = .next t)
    (h : ∀ v, v.settingsLegal → Verdict.gives State.settingsLegal (judge v)) : t.settingsLegal :=
  gives_command ht hs (fun _ _ huv hv => hv.of_values huv) (h _ (hs.of_values rfl))

/-! ## Every step -/

/-- R181, R183, R186, R189: the working values change with SETTING-SET, SETTINGS-DEFAULT and the SETTINGS phase alone. -/
theorem exec_values {i : Instr} (ht : exec i s = .next t) : t.settings.values = s.settings.values ∨
    (∃ id v, i = .settingSet id v) ∨ (∃ option, i = .settingsDefault option) ∨ (∃ answers, i = .settingsPhaseEnd answers) := by
  cases i with
  | ping _ _ _ _ =>
    rw [exec_ping] at ht
    exact .inl (values_report ht)
  | getEvents _ =>
    rw [exec_getEvents] at ht
    exact .inl (values_command ht fun _ => Verdict.gives_ite (Verdict.same_kept (kept_onEvents (Kept.refl _)))
      (Verdict.gives_ite (Verdict.same_kept (kept_onEvents (Kept.refl _))) Verdict.gives_error))
  | eventMask _ =>
    rw [exec_eventMask] at ht
    exact .inl (values_command ht fun _ => Verdict.same_ok rfl)
  | docCreate _ _ _ =>
    rw [exec_docCreate] at ht
    exact .inl (values_command ht fun _ => same_docCreate)
  | docClose _ =>
    rw [exec_docClose] at ht
    exact .inl (values_command ht fun _ => same_docClose)
  | docDelete _ =>
    rw [exec_docDelete] at ht
    exact .inl (values_command ht fun _ => same_docDelete)
  | docInfo _ =>
    rw [exec_docInfo] at ht
    exact .inl (values_command ht fun _ => Verdict.gives_ite (Verdict.same_ok rfl) Verdict.gives_error)
  | docList =>
    rw [exec_docList] at ht
    exact .inl (values_report ht)
  | pageInfo _ _ =>
    rw [exec_pageInfo] at ht
    refine .inl (values_command ht fun _ => ?_)
    split
    exacts [Verdict.same_ok rfl, Verdict.gives_error]
  | pageDrop _ _ =>
    rw [exec_pageDrop] at ht
    exact .inl (values_command ht fun _ => same_pageDrop)
  | storeStatus =>
    rw [exec_storeStatus] at ht
    exact .inl (values_report ht)
  | jobStart _ _ _ _ _ _ _ _ =>
    rw [exec_jobStart] at ht
    exact .inl (values_command ht fun _ => same_startJob)
  | jobAnswer _ _ =>
    rw [exec_jobAnswer] at ht
    exact .inl (values_command ht fun _ => same_answerJob)
  | jobHold _ =>
    rw [exec_jobHold] at ht
    exact .inl (values_command ht fun _ => same_holdJob)
  | jobResume _ =>
    rw [exec_jobResume] at ht
    exact .inl (values_command ht fun _ => same_resumeJob)
  | jobAbort _ =>
    rw [exec_jobAbort] at ht
    exact .inl (values_command ht fun _ => same_abortJob)
  | jobStatus _ =>
    rw [exec_jobStatus] at ht
    refine .inl (values_command ht fun _ => ?_)
    split
    exacts [Verdict.same_ok rfl, Verdict.gives_error]
  | sendCredit _ _ =>
    rw [exec_sendCredit] at ht
    exact .inl (values_command ht fun _ => same_sendCredit)
  | scanCalibrate =>
    rw [exec_scanCalibrate] at ht
    exact .inl (values_command ht fun _ => Verdict.gives_unless (Verdict.same_ok (startCalibration_settings _)))
  | docEject =>
    rw [exec_docEject] at ht
    exact .inl (values_command ht fun _ => Verdict.gives_unless (Verdict.same_ok ((advance_settings _).trans (activeTaken_settings ..))))
  | paperAdvance _ =>
    rw [exec_paperAdvance] at ht
    exact .inl (values_command ht fun _ => Verdict.gives_unless (Verdict.gives_unless (Verdict.same_ok (startAdvance_settings ..))))
  | cut =>
    rw [exec_cut] at ht
    exact .inl (values_command ht fun _ => Verdict.gives_unless (Verdict.same_ok (startCut_settings _)))
  | sensorRead =>
    rw [exec_sensorRead] at ht
    exact .inl (values_report ht)
  | modeSet _ =>
    rw [exec_modeSet] at ht
    exact .inl (values_command ht fun _ => same_modeSet)
  | alarmSet _ =>
    rw [exec_alarmSet] at ht
    exact .inl (values_command ht fun _ => same_alarmSet)
  | alarmRead =>
    rw [exec_alarmRead] at ht
    exact .inl (values_report ht)
  | settingGet _ =>
    rw [exec_settingGet] at ht
    refine .inl (values_command ht fun _ => ?_)
    split
    exacts [Verdict.same_ok rfl, Verdict.gives_error]
  | settingSet id v => exact .inr (.inl ⟨id, v, rfl⟩)
  | settingsStore =>
    rw [exec_settingsStore] at ht
    exact .inl (values_command ht fun _ => Verdict.gives_unless (Verdict.gives_unless (Verdict.gives_ok rfl)))
  | settingsDefault option => exact .inr (.inr (.inl ⟨option, rfl⟩))
  | settingsProtect =>
    rw [exec_settingsProtect] at ht
    exact .inl (values_command ht fun _ => Verdict.gives_unless (Verdict.gives_ok rfl))
  | bootReport =>
    rw [exec_bootReport] at ht
    exact .inl (values_report ht)
  | clearCauses =>
    rw [exec_clearCauses] at ht
    exact .inl (values_command ht fun _ => Verdict.same_ok rfl)
  | restart =>
    rw [exec_restart] at ht
    exact .inl (values_command ht fun _ => Verdict.gives_unless (Verdict.same_ok rfl))
  | unknownCommand _ =>
    rw [exec_unknownCommand] at ht
    exact .inl (values_quietEvent ht (kept_placeReply (kept_releaseCommand (Kept.refl s))).settings)
  | frameReceived =>
    rw [exec_frameReceived] at ht
    exact .inl (values_quietEvent ht (judgeFrame_settings s))
  | frameGapTimeout =>
    rw [exec_frameGapTimeout] at ht
    exact .inl (values_quietEvent ht (dropGap_settings s))
  | dataInRouting =>
    rw [exec_dataInRouting] at ht
    refine .inl (values_quietEvent ht ?_)
    split
    exacts [(kept_routeFrame (Kept.refl _)).settings, rfl]
  | receivedLineRecord =>
    rw [exec_receivedLineRecord] at ht
    exact .inl (values_quietJobEvent ht (kept_receiveLine (Kept.refl s)).settings)
  | receivedPageBegin =>
    rw [exec_receivedPageBegin] at ht
    exact .inl (values_quietJobEvent ht (kept_receiveBegin (Kept.refl s)).settings)
  | receivedPageEnd =>
    rw [exec_receivedPageEnd] at ht
    exact .inl (values_quietJobEvent ht (kept_receiveEnd (Kept.refl s)).settings)
  | undelimitableItem =>
    rw [exec_undelimitableItem] at ht
    exact .inl (values_quietJobEvent ht (kept_receiveLost (Kept.refl s)).settings)
  | replySent =>
    rw [exec_replySent] at ht
    exact .inl (values_event ht (replySent_values s))
  | dataOutSent _ =>
    rw [exec_dataOutSent] at ht
    exact .inl (values_quietJobEvent ht (kept_dataOutSent (Kept.refl s)).settings)
  | scanLineEntryAdmit =>
    rw [exec_scanLineEntryAdmit] at ht
    exact .inl (values_quietJobEvent ht (kept_admitScanLine (Kept.refl s)).settings)
  | scanLineCaptured _ =>
    rw [exec_scanLineCaptured] at ht
    exact .inl (values_quietEvent ht (kept_endCapture (Kept.refl s)).settings)
  | spanCodeLine =>
    rw [exec_spanCodeLine] at ht
    exact .inl (values_quietEvent ht (kept_codeCaptured (Kept.refl s)).settings)
  | scanInTakeRecord =>
    rw [exec_scanInTakeRecord] at ht
    exact .inl (values_quietJobEvent ht (kept_takeScanned (Kept.refl s)).settings)
  | lampWarm =>
    rw [exec_lampWarm] at ht
    exact .inl (values_quietJobEvent ht (kept_lampWarmed (Kept.refl s)).settings)
  | calibrationCaptureEnd _ =>
    rw [exec_calibrationCaptureEnd] at ht
    exact .inl (values_quietJobEvent ht (endCalibrationLine_settings s _))
  | motionBegin _ =>
    rw [exec_motionBegin] at ht
    exact .inl (values_quietJobEvent ht (beginMotion_settings s _))
  | feedStep _ =>
    rw [exec_feedStep] at ht
    exact .inl (values_quietJobEvent ht (takeStep_settings s ..))
  | motorRest _ =>
    rw [exec_motorRest] at ht
    exact .inl (values_quietJobEvent ht (kept_comeToRest (Kept.refl s)).settings)
  | energizingEnd _ =>
    rw [exec_energizingEnd] at ht
    exact .inl (values_quietJobEvent ht (endEnergizing_settings s _))
  | holdDelayExpiry _ =>
    rw [exec_holdDelayExpiry] at ht
    exact .inl (values_quietEvent ht (setCurrent_settings s ..))
  | offDelayExpiry _ =>
    rw [exec_offDelayExpiry] at ht
    exact .inl (values_quietEvent ht (setCurrent_settings s ..))
  | pwmPeriodEnd _ =>
    rw [exec_pwmPeriodEnd] at ht
    exact .inl (values_quietEvent ht (kept_endPeriod (Kept.refl s)).settings)
  | docEntryChange _ =>
    rw [exec_docEntryChange] at ht
    exact .inl (values_quietJobEvent ht (sensed_settings ..))
  | docReadChange _ =>
    rw [exec_docReadChange] at ht
    refine .inl (values_quietJobEvent ht ?_)
    dsimp only
    split
    exacts [(kept_sheetArrives (Kept.refl _)).settings.trans (abandonCalibration_settings _), (kept_sheetLeaves (Kept.refl _)).settings]
  | paperChange _ =>
    rw [exec_paperChange] at ht
    exact .inl (values_quietJobEvent ht (sensed_settings ..))
  | coverChange _ =>
    rw [exec_coverChange] at ht
    exact .inl (values_quietJobEvent ht ((wakeCause_settings ..).trans (by split <;> simp)))
  | cutterHomeChange _ =>
    rw [exec_cutterHomeChange] at ht
    exact .inl (values_quietJobEvent ht (homeChanged_settings s _))
  | wakeKeyChange _ =>
    rw [exec_wakeKeyChange] at ht
    exact .inl (values_quietEvent ht (by dsimp only; split <;> simp))
  | cutterTimeout =>
    rw [exec_cutterTimeout] at ht
    exact .inl (values_quietJobEvent ht (cycleTimesOut_settings s))
  | printLineOffer _ _ _ =>
    rw [exec_printLineOffer] at ht
    exact .inl (values_quietJobEvent ht (kept_offerLine (kept_onFaults (Kept.refl s))).settings)
  | strobeSubpulseEnd =>
    rw [exec_strobeSubpulseEnd] at ht
    exact .inl (values_quietJobEvent ht (endSubpulse_settings s))
  | headTimerLimit =>
    rw [exec_headTimerLimit] at ht
    exact .inl (values_quietJobEvent ht (endSubpulse_settings s))
  | headReady =>
    rw [exec_headReady] at ht
    exact .inl (values_quietEvent ht rfl)
  | converterTimedSample _ _ =>
    rw [exec_converterTimedSample] at ht
    exact .inl (values_quietJobEvent ht (kept_takeSamples (Kept.refl s)).settings)
  | idleCountExpiry =>
    rw [exec_idleCountExpiry] at ht
    exact .inl (values_quietEvent ht (enterStandby_settings s))
  | dozeCountExpiry =>
    rw [exec_dozeCountExpiry] at ht
    exact .inl (values_quietEvent ht rfl)
  | linkReceiveEdge =>
    rw [exec_linkReceiveEdge] at ht
    exact .inl (values_quietEvent ht (wakeCause_settings s _))
  | wakingEnd =>
    rw [exec_wakingEnd] at ht
    exact .inl (values_quietEvent ht (reachStandby_settings s))
  | ringPulse =>
    rw [exec_ringPulse] at ht
    exact .inl (values_quietEvent ht ((takePulse_settings _).trans (ringOverdue_settings s)))
  | ringBurstEnd =>
    rw [exec_ringBurstEnd] at ht
    exact .inl (values_quietEvent ht (judgeBurst_settings s))
  | ringGapExpiry =>
    rw [exec_ringGapExpiry] at ht
    exact .inl (values_quietEvent ht (ringStops_settings s _))
  | alarmExpiry =>
    rw [exec_alarmExpiry] at ht
    exact .inl (values_quietEvent ht (alarmExpires_settings s))
  | silenceFirstExpiry =>
    rw [exec_silenceFirstExpiry] at ht
    exact .inl (values_quietJobEvent ht (firstExpiry_settings s))
  | silenceSecondExpiry =>
    rw [exec_silenceSecondExpiry] at ht
    exact .inl (values_quietJobEvent ht (secondExpiry_settings s))
  | hostrstPulseEnd =>
    rw [exec_hostrstPulseEnd] at ht
    exact .inl (values_quietEvent ht rfl)
  | batteryCheck _ =>
    rw [exec_batteryCheck] at ht
    exact .inl (values_quietEvent ht (readBattery_settings s _))
  | powerOnReset =>
    rw [exec_powerOnReset] at ht
    exact .inl (values_event ht (resetBlocks_values s .powerOn))
  | supplyDropReset =>
    rw [exec_supplyDropReset] at ht
    refine .inl (values_event ht ?_)
    rw [State.onStart_settings, resetBlocks_values]
  | supplyBelowPowerOff =>
    rw [exec_supplyBelowPowerOff] at ht
    exact .inl (values_event ht (resetBlocks_values s .powerOn))
  | pinReset =>
    rw [exec_pinReset] at ht
    exact .inl (values_event ht (resetBlocks_values s .pin))
  | settingsPhaseEnd answers => exact .inr (.inr (.inr ⟨answers, rfl⟩))
  | resetEnd _ _ _ _ =>
    rw [exec_resetEnd] at ht
    exact .inl (values_quietEvent ht rfl)
  | memoryPhaseEnd _ _ _ _ =>
    rw [exec_memoryPhaseEnd] at ht
    exact .inl (values_quietEvent ht (build_settings s ..))
  | mechanismPhaseEnd =>
    rw [exec_mechanismPhaseEnd] at ht
    exact .inl (values_quietEvent ht (release_settings s))
  | settingsStoreEnd _ =>
    rw [exec_settingsStoreEnd] at ht
    refine .inl (values_event ht ?_)
    split
    exacts [endStore_values s .., rfl]
  | linkByteReceived _ _ =>
    rw [exec_linkByteReceived] at ht
    exact .inl (values_quietEvent ht ((receiveByte_settings ..).trans (beforeByte_settings s)))
  | mechanismLevelsTaken _ =>
    rw [exec_mechanismLevelsTaken] at ht
    exact .inl (values_quietEvent ht ((beginStartCalibration_settings ..).trans (beginHoming_settings ..)))

theorem settingsLegal_exec {i : Instr} (hs : s.settingsLegal) (ht : exec i s = .next t) : t.settingsLegal := by
  obtain h | ⟨id, v, rfl⟩ | ⟨option, rfl⟩ | ⟨answers, rfl⟩ := exec_values ht
  · exact hs.of_values h
  · exact legal_command hs ht fun _ hv => legal_settingSet hv
  · exact legal_command hs ht fun _ _ => legal_settingsDefault
  · rcases event_cases ht with ⟨-, rfl⟩ | ⟨-, rfl⟩
    · exact (loadSettings_settingsLegal answers s).of_values rfl
    · exact hs

/-- Settles O55: SETTING-SET puts a value that fits (`legal_settingSet`), SETTINGS-DEFAULT and the SETTINGS phase give legal values
(`legal_settingsDefault`, `loadSettings_settingsLegal`), and no other step changes a value (`exec_values`). -/
theorem settingsLegalKept : Obligations.SettingsLegalKept := by
  unfold Obligations.SettingsLegalKept
  intro s t hs ht
  unfold step at ht
  split at ht
  · next i rest _ => exact settingsLegal_exec (s := { s with pending := rest }) (hs.of_values rfl) ht
  · cases ht
    exact hs.of_values rfl

end Sys2Proof.Machine
end

section
/-! SETTING-SET (O57), and the stores and the defaults (O58). -/

namespace Sys2Proof.Machine

-- One theorem at a time, as in the tests: a thread for each would exceed the memory allowed.
set_option Elab.async false

variable {s : State} {id value place option : Nat}

/-! ## The motors a changed speed table waits for (R184, R189) -/

/-- R184, R189: a motor is not OFF, or has an entry queued. -/
theorem feed_busy_iff (f : Feed) : (f.energized || !f.queue.isEmpty) = true ↔ f.current ≠ .off ∨ f.queue ≠ [] := by
  simp [Feed.energized]

theorem rampBusy_eq_false (h : ∀ m, rampMotor place = some m → (feedOf s m).current = .off ∧ (feedOf s m).queue = []) :
    rampBusy s place = false := by
  unfold rampBusy
  split
  · next m hm =>
    obtain ⟨hoff, hqueue⟩ := h m hm
    exact Bool.eq_false_iff.2 fun hb => ((feed_busy_iff _).1 hb).elim (absurd hoff) (absurd hqueue)
  · rfl

theorem rampBusy_eq_true {m : Motor} (hm : rampMotor place = some m)
    (h : (feedOf s m).current ≠ .off ∨ (feedOf s m).queue ≠ []) : rampBusy s place = true := by
  unfold rampBusy
  rw [hm]
  exact (feed_busy_iff _).2 h

theorem motorsIdle_eq_false_iff : motorsIdle s = false ↔ ∃ m, (feedOf s m).current ≠ .off ∨ (feedOf s m).queue ≠ [] := by
  have both : motorsIdle s = !((feedOf s .scan).energized || !(feedOf s .scan).queue.isEmpty ||
      ((feedOf s .print).energized || !(feedOf s .print).queue.isEmpty)) := by
    simp only [motorsIdle, feedOf, Bool.not_or, Bool.not_not]
    ac_rfl
  rw [both, Bool.not_eq_false', Bool.or_eq_true, feed_busy_iff, feed_busy_iff]
  exact ⟨fun h => h.elim (⟨.scan, ·⟩) (⟨.print, ·⟩), fun ⟨m, h⟩ => by cases m; exacts [.inl h, .inr h]⟩

/-! ## The verdict of SETTING-SET (R183) -/

theorem settingSet_noItem (h : itemPlace id = none) : settingSet id value s = .error .badParam := by rw [settingSet, h]

section
variable (hp : itemPlace id = some place)
include hp

theorem settingSet_writing (hw : s.settings.writing.isSome = true) : settingSet id value s = .error .busy := by
  simp only [settingSet, hp, hw, if_true]

theorem settingSet_protected (hw : s.settings.writing = none) (hl : s.settings.protect = true) :
    settingSet id value s = .error .locked := by
  simp [settingSet, hp, hw, hl]

theorem settingSet_rampBusy (hw : s.settings.writing = none) (hl : s.settings.protect = false) (hb : rampBusy s place = true) :
    settingSet id value s = .error .busy := by
  simp [settingSet, hp, hw, hl, hb]

theorem settingSet_taken (hw : s.settings.writing = none) (hl : s.settings.protect = false) (hb : rampBusy s place = false) :
    settingSet id value s = .ok (settingsEffect s.settings.lowWater (s.onSettings (Settings.put place (clampSet s.settings place value))),
      be2 (clampSet s.settings place value)) := by
  simp [settingSet, hp, hw, hl, hb]

end

/-- Settles O57: the verdict of each check in its order, on the state with the command's frame released. -/
theorem settingSetTakes : Obligations.SettingSetTakes := by
  unfold Obligations.SettingSetTakes
  refine ⟨fun id value place s ht hp hw hl hm => ?_, fun id value s => ⟨fun ht hp => ?_, fun ht => ⟨fun hp => ?_, fun place hp =>
    ⟨fun hw => ?_, fun hw hl => ?_, fun m hw hl hm hb => ?_⟩⟩⟩⟩
  · rw [exec_settingSet]
    exact command_replied ht rfl (settingSet_taken (s := releaseCommand s) hp hw hl (rampBusy_eq_false (s := releaseCommand s) hm))
  · rw [exec_settingGet]
    exact command_refuses ht rfl (by simp only [hp])
  · rw [exec_settingSet]
    exact command_refuses ht rfl (settingSet_noItem hp)
  · rw [exec_settingSet]
    exact command_refuses ht rfl (settingSet_writing (s := releaseCommand s) hp hw)
  · rw [exec_settingSet]
    exact command_refuses ht rfl (settingSet_protected (s := releaseCommand s) hp hw hl)
  · rw [exec_settingSet]
    exact command_refuses ht rfl
      (settingSet_rampBusy (s := releaseCommand s) hp hw hl (rampBusy_eq_true (s := releaseCommand s) hm hb))

/-! ## The verdicts of SETTINGS-STORE, SETTINGS-PROTECT and SETTINGS-DEFAULT (R187 to R189) -/

theorem settingsStore_writing (hw : s.settings.writing.isSome = true) : settingsStore s = .error .busy := if_pos hw

theorem settingsStore_protected (hw : s.settings.writing = none) (hl : s.settings.protect = true) :
    settingsStore s = .error .locked := by
  simp [settingsStore, hw, hl]

theorem settingsStore_taken (hw : s.settings.writing = none) (hl : s.settings.protect = false) :
    settingsStore s = .ok ({ s with settings := { s.settings with writing := some ⟨.store, imageOf s.settings.values false⟩ } }, []) := by
  simp [settingsStore, beginStore, State.onSettings, hw, hl]

theorem settingsProtect_writing (hw : s.settings.writing.isSome = true) : settingsProtect s = .error .busy := if_pos hw

theorem settingsProtect_taken (hw : s.settings.writing = none) :
    settingsProtect s = .ok ({ s with settings := { s.settings with
      protect := true, writing := some ⟨.protect, imageOf s.settings.values true⟩ } }, []) := by
  simp [settingsProtect, beginStore, State.onSettings, hw]

theorem settingsDefault_badOption (h : 1 < option) : settingsDefault option s = .error .badParam := if_pos h

theorem settingsDefault_busy (ho : option ≤ 1) (h : s.settings.writing.isSome = true ∨ motorsIdle s = false) :
    settingsDefault option s = .error .busy := by
  unfold settingsDefault
  rw [if_neg (Nat.not_lt.2 ho)]
  split
  · rfl
  · next hw => rw [if_pos (by rw [h.resolve_left hw]; rfl)]

section
variable (hw : s.settings.writing = none) (hm : motorsIdle s = true)
include hw hm

theorem settingsDefault_protected (hl : s.settings.protect = true) : settingsDefault 0 s = .error .locked := by
  simp [settingsDefault, hw, hm, hl]

/-- R189: KEEP. -/
theorem settingsDefault_keep (hl : s.settings.protect = false) :
    settingsDefault 0 s = .ok (settingsEffect s.settings.lowWater (s.onSettings Settings.restored), []) := by
  simp [settingsDefault, hw, hm, hl]

/-- R189: ERASE. -/
theorem settingsDefault_erase : settingsDefault 1 s = .ok (settingsEffect s.settings.lowWater
    (beginStore .default ((s.onSettings Settings.restored).onSettings (fun g => { g with protect := false }))), []) := by
  simp [settingsDefault, hw, hm]

end

/-- R187: a store ends as its result says. -/
theorem exec_settingsStoreEnd_writing {w : Writing} (hw : s.settings.writing = some w) (r : StoreResult) :
    exec (.settingsStoreEnd r) s = .next (settle (endStore r w s)) := by
  rw [exec_settingsStoreEnd, event_due (by rw [hw]; rfl), hw]

/-- Settles O58: the verdict of each check in its order, on the state with the command's frame released, and the two ends of a store. -/
theorem storesBeginAndEnd : Obligations.StoresBeginAndEnd := by
  unfold Obligations.StoresBeginAndEnd
  refine ⟨fun s hw => ⟨fun ht hl => ?_, fun ht => ?_, fun option ht hm ho hl => ?_, fun option ht hm ho => ?_⟩, fun option s => ?_,
    fun w left s hw => ⟨exec_settingsStoreEnd_writing hw _, exec_settingsStoreEnd_writing hw _⟩⟩
  · rw [exec_settingsStore]
    exact command_replied ht rfl (settingsStore_taken (s := releaseCommand s) hw hl)
  · rw [exec_settingsProtect]
    exact command_replied ht rfl (settingsProtect_taken (s := releaseCommand s) hw)
  · subst ho
    rw [exec_settingsDefault]
    exact command_replied ht rfl (settingsDefault_keep (s := releaseCommand s) hw hm hl)
  · subst ho
    rw [exec_settingsDefault]
    exact command_replied ht rfl (settingsDefault_erase (s := releaseCommand s) hw hm)
  · dsimp only
    rw [← motorsIdle_eq_false_iff, Bool.not_eq_false]
    refine ⟨fun ht => ⟨fun hw => ?_, fun hw hl => ?_⟩, fun ht hw => ?_, fun ht => ⟨fun ho => ?_, fun ho hb => ?_, fun ho hw hm hl => ?_⟩⟩
    · exact (exec_settingsStore s).trans (command_refuses ht rfl (settingsStore_writing (s := releaseCommand s) hw))
    · exact (exec_settingsStore s).trans (command_refuses ht rfl (settingsStore_protected (s := releaseCommand s) hw hl))
    · exact (exec_settingsProtect s).trans (command_refuses ht rfl (settingsProtect_writing (s := releaseCommand s) hw))
    · exact (exec_settingsDefault option s).trans (command_refuses ht rfl (settingsDefault_badOption ho))
    · exact (exec_settingsDefault option s).trans (command_refuses ht rfl (settingsDefault_busy (s := releaseCommand s) ho hb))
    · subst ho
      exact (exec_settingsDefault 0 s).trans (command_refuses ht rfl (settingsDefault_protected (s := releaseCommand s) hw hm hl))

end Sys2Proof.Machine
end

section
/-! The side lines ATN and HOLD (O13). -/

namespace Sys2Proof.Machine

-- One theorem at a time, as in the tests: a thread for each would exceed the memory allowed.
set_option Elab.async false

variable {s t : State}

/-! ## When ATN and HOLD are due (R193, R200) -/

theorem unmaskedPending_iff (e : Events) : e.unmaskedPending = true ↔
    ∃ (n : Nat) (r : Record), e.pending[n]? = some (some r) ∧ e.masked[n]? = some false := by
  refine ⟨fun h => ?_, fun ⟨_, _, hp, hm⟩ => unmaskedPending_of hp hm⟩
  obtain ⟨⟨record, masked⟩, hmem, hboth⟩ := List.any_eq_true.1 h
  obtain ⟨hsome, hmask⟩ : record.isSome = true ∧ masked = false := by simpa using hboth
  obtain ⟨r, rfl⟩ := Option.isSome_iff_exists.1 hsome
  obtain ⟨n, hn⟩ := List.mem_iff_getElem?.1 hmem
  obtain ⟨hp, hm⟩ := List.getElem?_zip_eq_some.1 hn
  exact ⟨n, r, hp, hm.trans (congrArg some hmask)⟩

theorem atnDue_iff (s : State) : atnDue s = true ↔ s.start.phase = .ready ∧
    ∃ (n : Nat) (r : Record), s.events.pending[n]? = some (some r) ∧ s.events.masked[n]? = some false := by
  rw [atnDue, Bool.and_eq_true, decide_eq_true_iff, unmaskedPending_iff]

/-- R193: fewer than 1094 of the 4096 bytes are free where the bytes in use leave less than that. -/
theorem freeBytes_lt_iff (s : State) : freeBytes s < Config.holdBelow ↔ 4096 < inboundUsed s + 1094 := by
  simp only [freeBytes, Config.inboundBytes, Config.holdBelow]
  omega

theorem holdDue_iff (s : State) : holdDue s = true ↔
    s.start.phase ≠ .ready ∨ s.power.mode = .doze ∨ s.power.mode = .waking ∨ 4096 < inboundUsed s + 1094 := by
  simp only [holdDue, Bool.or_eq_true, decide_eq_true_iff, freeBytes_lt_iff, or_assoc]

/-! ## Every step leaves them so -/

/-- R193, R200: the end of a step sets both lines, by what neither line is a part of. -/
theorem linesAgree_settle (s : State) : (settle s).linesAgree := ⟨rfl, rfl⟩

theorem linesAgree_exec {i : Instr} (hs : s.linesAgree) (ht : exec i s = .next t) : t.linesAgree := by
  rcases exec_cases ht with ⟨effect, rfl⟩ | rfl
  exacts [linesAgree_settle (effect s), hs]

/-- Neither line is due by the queue or by the clock. -/
theorem linesAgree_step (hs : s.linesAgree) (ht : step s = .next t) : t.linesAgree := by
  unfold step at ht
  split at ht
  · next i rest _ => exact linesAgree_exec (s := { s with pending := rest }) hs ht
  · cases ht; exact hs

/-- Settles O13. -/
theorem sideLinesKept : Obligations.SideLinesKept := by
  unfold Obligations.SideLinesKept
  exact ⟨fun _ _ => linesAgree_step, atnDue_iff, holdDue_iff⟩

end Sys2Proof.Machine
end

section
/-! The commands as their payloads spell them (O4). -/

namespace Sys2Proof.Machine

-- One theorem at a time, as in the tests: a thread for each would exceed the memory allowed.
set_option Elab.async false

/-! ## Numbers of two and three bytes (R205) -/

/-- The bytes of a number, joined, are the number. -/
theorem field2_joined (v : BitVec 16) : v.extractLsb' 8 8 ++ v.extractLsb' 0 8 = v := by
  ext i hi
  simp only [BitVec.getElem_append, BitVec.getElem_extractLsb']
  split <;> simp_all

theorem field3_joined (v : BitVec 24) : v.extractLsb' 16 8 ++ v.extractLsb' 8 8 ++ v.extractLsb' 0 8 = v := by
  ext i hi
  simp only [BitVec.getElem_append, BitVec.getElem_extractLsb']
  split
  · simp_all
  split
  · simp_all
  · simp_all [show 16 + (i - 8 - 8) = i by omega]

/-- The number of two bytes spells them again. -/
theorem field2_append (a b : Byte) : field2 (a ++ b) = [a, b] := by
  simp only [field2, BitVec.extractLsb'_append_eq_left, BitVec.extractLsb'_append_eq_right]

theorem field3_append (a b c : Byte) : field3 (a ++ b ++ c) = [a, b, c] := by
  have high : BitVec.extractLsb' (n := 8 + 8 + 8) 16 8 (a ++ b ++ c) = a := by
    ext i hi
    rw [BitVec.getElem_extractLsb', BitVec.getLsbD_append, if_neg (by omega), BitVec.getLsbD_append, if_neg (by omega),
      show 16 + i - 8 - 8 = i by omega, BitVec.getLsbD_eq_getElem]
  have middle : BitVec.extractLsb' (n := 8 + 8 + 8) 8 8 (a ++ b ++ c) = b := by
    ext i hi
    rw [BitVec.getElem_extractLsb', BitVec.getLsbD_append, if_neg (by omega), BitVec.getLsbD_append, if_pos (by omega),
      show 8 + i - 8 = i by omega, BitVec.getLsbD_eq_getElem]
  show [_, _, BitVec.extractLsb' (n := 8 + 8 + 8) 0 8 (a ++ b ++ c)] = _
  rw [BitVec.extractLsb'_append_eq_right]
  exact congrArg₂ (fun x y => [x, y, c]) high middle

/-! ## Both ways (R195, R205, 10.11) -/

/-- R205, log 9: a command's payload decodes to it as it was sent; only a number of more than one byte is not read off at once. -/
theorem decodeCommand_encodeCommand {i : Instr} (h : (commandCode i).isSome = true) : decodeCommand (encodeCommand i) = i.asSent := by
  cases i with
  | eventMask masks => exact congrArg Instr.eventMask (field2_joined masks)
  | sendCredit job grant => exact congrArg (fun n => Instr.sendCredit job ⟨n, ⟨[], []⟩⟩) (field2_joined grant.count)
  | paperAdvance steps => exact congrArg Instr.paperAdvance (field2_joined steps)
  | alarmSet seconds => exact congrArg Instr.alarmSet (field3_joined seconds)
  | settingSet id value => exact congrArg (Instr.settingSet id) (field2_joined value)
  | _ => cases h <;> rfl

/-- R195: a payload that spells no command is its own decoding. -/
theorem decodeCommand_unknown {payload : List Byte} (h : Instr.wf (.unknownCommand payload) = true) :
    decodeCommand (encodeCommand (.unknownCommand payload)) = (Instr.unknownCommand payload).asSent := by
  obtain ⟨-, hdecode⟩ := Bool.and_eq_true_iff.1 h
  exact of_decide_eq_true hdecode

/-- R195: a command found has taken every parameter byte. -/
theorem encodeCommand_commandOf {code : Nat} {params : List Byte} {i : Instr} (h : commandOf code params = some i) :
    encodeCommand i = BitVec.ofNat 8 code :: params := by
  unfold commandOf at h
  repeat' split at h
  all_goals cases h
  all_goals simp only [encodeCommand, commandParams, field2_append, field3_append, List.cons_append, List.nil_append]
  all_goals rfl

theorem decodeCommand_cons (code : Byte) (params : List Byte) :
    decodeCommand (code :: params) = (commandOf code.toNat params).getD (.unknownCommand (code :: params)) := rfl

theorem encodeCommand_decodeCommand (payload : List Byte) : encodeCommand (decodeCommand payload) = payload := by
  match payload with
  | [] => rfl
  | code :: params =>
    rw [decodeCommand_cons]
    cases h : commandOf code.toNat params with
    | none => rfl
    | some i => rw [Option.getD_some, encodeCommand_commandOf h, BitVec.ofNat_toNat, BitVec.setWidth_eq]

/-- Settles O4. -/
theorem commandsDecodeAndEncode : Obligations.CommandsDecodeAndEncode := by
  unfold Obligations.CommandsDecodeAndEncode
  refine ⟨fun i h => ?_, encodeCommand_decodeCommand⟩
  rcases h with h | ⟨payload, rfl, hwf⟩
  exacts [decodeCommand_encodeCommand h, decodeCommand_unknown hwf]

end Sys2Proof.Machine
end

section
/-! Every command taken is answered (O9); the front of the queue, the clock, and commands while intake is closed (O1). -/

namespace Sys2Proof.Machine

-- One theorem at a time, as in the tests: a thread for each would exceed the memory allowed.
set_option Elab.async false

variable {s : State}

/-! ## Refusals name a result other than DONE (R196) -/

/-- R196: a judgement that refuses does so with a result other than DONE. -/
def Reasoned {α : Type} (v : Except Answer α) : Prop := ∀ a, v = .error a → a ≠ .done

theorem reasoned_ok {α : Type} {x : α} : Reasoned (.ok x) := fun _ h => nomatch h

theorem reasoned_error {α : Type} {a : Answer} (h : a ≠ .done := by decide) : Reasoned (α := α) (.error a) :=
  fun _ he => by cases he; exact h

theorem reasoned_ite {α : Type} {c : Prop} [Decidable c] {v w : Except Answer α} (hv : Reasoned v) (hw : Reasoned w) :
    Reasoned (if c then v else w) := by
  split
  exacts [hv, hw]

/-- A check that refuses, or what follows it. -/
theorem reasoned_unless {α : Type} {c : Prop} [Decidable c] {a : Answer} {v : Except Answer α} (hv : Reasoned v)
    (h : a ≠ .done := by decide) : Reasoned (if c then .error a else v) := reasoned_ite (reasoned_error h) hv

/-! ## The documents and the jobs (R24 to R29, R49 to R78) -/

theorem reasoned_docCreate (o r w : Byte) (s : State) : Reasoned (docCreate o r w s) := by
  unfold docCreate
  split
  · split
    exacts [reasoned_ok, reasoned_error]
  · exact reasoned_error

theorem reasoned_docClose (n : Nat) (s : State) : Reasoned (docClose n s) := reasoned_unless (reasoned_unless reasoned_ok)

theorem reasoned_docDelete (n : Nat) (s : State) : Reasoned (docDelete n s) := reasoned_unless (reasoned_unless reasoned_ok)

theorem reasoned_pageDrop (n i : Nat) (s : State) : Reasoned (pageDrop n i s) := by
  unfold pageDrop
  split
  exacts [reasoned_error, reasoned_unless reasoned_ok]

theorem reasoned_startChecks (p : StartParams) (kind : JobKind) (s : State) : Reasoned (startChecks p kind s) := by
  unfold startChecks
  dsimp only
  split
  exacts [reasoned_error, reasoned_unless (reasoned_unless (reasoned_unless (reasoned_unless reasoned_ok)))]

theorem reasoned_startJob (p : StartParams) (s : State) : Reasoned (startJob p s) := by
  unfold startJob
  split
  · exact reasoned_error
  refine reasoned_unless ?_
  split
  · next hchecks => exact reasoned_error (reasoned_startChecks _ _ _ _ hchecks)
  · exact reasoned_ok

theorem reasoned_answerJob (id c : Nat) (s : State) : Reasoned (answerJob id c s) := by
  unfold answerJob
  split
  · exact reasoned_error
  split
  · exact reasoned_error
  refine reasoned_ite reasoned_ok (reasoned_unless ?_)
  split
  exacts [reasoned_unless reasoned_ok, reasoned_error]

theorem reasoned_holdJob (id : Nat) (s : State) : Reasoned (holdJob id s) := by
  unfold holdJob
  split
  exacts [reasoned_error, reasoned_ite reasoned_ok reasoned_error]

theorem reasoned_resumeJob (id : Nat) (s : State) : Reasoned (resumeJob id s) := by
  unfold resumeJob
  split
  exacts [reasoned_error, reasoned_ite reasoned_ok reasoned_error]

theorem reasoned_abortJob (id : Nat) (s : State) : Reasoned (abortJob id s) := by
  unfold abortJob
  split
  exacts [reasoned_error, reasoned_ok]

theorem reasoned_sendCredit (id n : Nat) (s : State) : Reasoned (sendCredit id n s) := by
  unfold sendCredit
  split
  exacts [reasoned_error, reasoned_unless reasoned_ok]

/-! ## The mechanism, the modes and the settings (R96 to R99, R141, R142, R153, R159, R183 to R189) -/

theorem reasoned_modeSet (m : Nat) (s : State) : Reasoned (modeSet m s) := by
  unfold modeSet
  split
  exacts [reasoned_ok, reasoned_ite reasoned_ok (reasoned_unless reasoned_ok), reasoned_unless reasoned_ok, reasoned_ok,
    reasoned_error]

theorem reasoned_settingSet (id v : Nat) (s : State) : Reasoned (settingSet id v s) := by
  unfold settingSet
  split
  exacts [reasoned_error, reasoned_unless (reasoned_unless (reasoned_unless reasoned_ok))]

theorem reasoned_settingsDefault (option : Nat) (s : State) : Reasoned (settingsDefault option s) :=
  reasoned_unless (reasoned_unless (reasoned_unless (reasoned_unless (reasoned_ite reasoned_ok reasoned_ok))))

/-! ## Every command by its judgement (R195) -/

/-- R195, R196: the step of each of the 34 commands, with a judgement that refuses with a result other than DONE. -/
theorem exec_judged {i : Instr} {c : Nat} (hc : commandCode i = some c) :
    ∃ judge : State → Verdict, (∀ s, exec i s = command i judge s) ∧ ∀ s, Reasoned (judge s) := by
  cases i with
  | ping _ _ _ _ => exact ⟨_, exec_ping _ _ _ _, fun _ => reasoned_ok⟩
  | getEvents _ => exact ⟨_, exec_getEvents _, fun _ => reasoned_ite reasoned_ok (reasoned_ite reasoned_ok reasoned_error)⟩
  | eventMask _ => exact ⟨_, exec_eventMask _, fun _ => reasoned_ok⟩
  | docCreate _ _ _ => exact ⟨_, exec_docCreate _ _ _, reasoned_docCreate _ _ _⟩
  | docClose _ => exact ⟨_, exec_docClose _, reasoned_docClose _⟩
  | docDelete _ => exact ⟨_, exec_docDelete _, reasoned_docDelete _⟩
  | docInfo _ => exact ⟨_, exec_docInfo _, fun _ => reasoned_ite reasoned_ok reasoned_error⟩
  | docList => exact ⟨_, exec_docList, fun _ => reasoned_ok⟩
  | pageInfo _ _ => exact ⟨_, exec_pageInfo _ _, fun _ => by split; exacts [reasoned_ok, reasoned_error]⟩
  | pageDrop _ _ => exact ⟨_, exec_pageDrop _ _, reasoned_pageDrop _ _⟩
  | storeStatus => exact ⟨_, exec_storeStatus, fun _ => reasoned_ok⟩
  | jobStart _ _ _ _ _ _ _ _ => exact ⟨_, exec_jobStart _ _ _ _ _ _ _ _, reasoned_startJob _⟩
  | jobAnswer _ _ => exact ⟨_, exec_jobAnswer _ _, reasoned_answerJob _ _⟩
  | jobHold _ => exact ⟨_, exec_jobHold _, reasoned_holdJob _⟩
  | jobResume _ => exact ⟨_, exec_jobResume _, reasoned_resumeJob _⟩
  | jobAbort _ => exact ⟨_, exec_jobAbort _, reasoned_abortJob _⟩
  | jobStatus _ => exact ⟨_, exec_jobStatus _, fun _ => by split; exacts [reasoned_ok, reasoned_error]⟩
  | sendCredit _ _ => exact ⟨_, exec_sendCredit _ _, fun _ => reasoned_sendCredit _ _ _⟩
  | scanCalibrate => exact ⟨_, exec_scanCalibrate, fun _ => reasoned_unless reasoned_ok⟩
  | docEject => exact ⟨_, exec_docEject, fun _ => reasoned_unless reasoned_ok⟩
  | paperAdvance _ => exact ⟨_, exec_paperAdvance _, fun _ => reasoned_unless (reasoned_unless reasoned_ok)⟩
  | cut => exact ⟨_, exec_cut, fun _ => reasoned_unless reasoned_ok⟩
  | sensorRead => exact ⟨_, exec_sensorRead, fun _ => reasoned_ok⟩
  | modeSet _ => exact ⟨_, exec_modeSet _, reasoned_modeSet _⟩
  | alarmSet _ => exact ⟨_, exec_alarmSet _, fun _ => reasoned_unless (reasoned_ite reasoned_ok reasoned_ok)⟩
  | alarmRead => exact ⟨_, exec_alarmRead, fun _ => reasoned_ok⟩
  | settingGet _ => exact ⟨_, exec_settingGet _, fun _ => by split; exacts [reasoned_ok, reasoned_error]⟩
  | settingSet _ _ => exact ⟨_, exec_settingSet _ _, reasoned_settingSet _ _⟩
  | settingsStore => exact ⟨_, exec_settingsStore, fun _ => reasoned_unless (reasoned_unless reasoned_ok)⟩
  | settingsDefault _ => exact ⟨_, exec_settingsDefault _, reasoned_settingsDefault _⟩
  | settingsProtect => exact ⟨_, exec_settingsProtect, fun _ => reasoned_unless reasoned_ok⟩
  | bootReport => exact ⟨_, exec_bootReport, fun _ => reasoned_ok⟩
  | clearCauses => exact ⟨_, exec_clearCauses, fun _ => reasoned_ok⟩
  | restart => exact ⟨_, exec_restart, fun _ => reasoned_unless reasoned_ok⟩
  | _ => cases hc

/-- R195, R196: a command taken ends with the REPLY of its judgement. -/
theorem exec_answered {i : Instr} {c : Nat} (hc : commandCode i = some c) (ht : takes i s = true) :
    ∃ t, exec i s = .next t ∧
      ((∃ data, t.link.reply = some (BitVec.ofNat 8 c :: 0 :: data)) ∨
       (∃ a : Answer, a ≠ .done ∧ t = settle (placeReply (BitVec.ofNat 8 c) a [] (releaseCommand s)))) := by
  obtain ⟨judge, hexec, hreasoned⟩ := exec_judged hc
  cases hv : judge (releaseCommand s) with
  | ok r => exact ⟨_, (hexec s).trans (command_done ht hc hv), .inl ⟨r.2, rfl⟩⟩
  | error a => exact ⟨_, (hexec s).trans (command_refused ht hc hv), .inr ⟨a, hreasoned _ a hv, rfl⟩⟩

/-! ## A payload that spells no command (R195) -/

theorem unknownAnswer_known {c : Byte} {rest : List Byte} (h : c.toNat ∈ commandCodes) : unknownAnswer (c :: rest) = .badLength :=
  if_pos (List.contains_iff_mem.2 h)

theorem unknownAnswer_unknown {c : Byte} {rest : List Byte} (h : c.toNat ∉ commandCodes) : unknownAnswer (c :: rest) = .unknown :=
  if_neg (mt List.contains_iff_mem.1 h)

theorem exec_unknownCommand_taken {payload : List Byte} (ht : takes (.unknownCommand payload) s = true) :
    exec (.unknownCommand payload) s =
      .next (settle (placeReply (payload.headD 0) (unknownAnswer payload) [] (releaseCommand s))) :=
  (exec_unknownCommand payload s).trans (event_due ht)

/-- Settles O9: each command by its judgement (`exec_judged`), a payload that spells none by its first byte. -/
theorem everyCommandIsAnswered : Obligations.EveryCommandIsAnswered := by
  unfold Obligations.EveryCommandIsAnswered
  refine ⟨fun _ _ _ => exec_answered, fun payload s ht => ⟨?_, ?_, ?_⟩⟩
  · rintro rfl
    exact exec_unknownCommand_taken ht
  · rintro c rest rfl hc
    exact (exec_unknownCommand_taken ht).trans (by rw [unknownAnswer_known hc]; rfl)
  · rintro c rest rfl hc
    exact (exec_unknownCommand_taken ht).trans (by rw [unknownAnswer_unknown hc]; rfl)

/-! ## The queue, the clock and the intake (R195, logs 1 and 3) -/

theorem step_front {c : Instr} {rest : List Instr} (h : s.pending = c :: rest) : step s = exec c { s with pending := rest } := by
  unfold step; rw [h]

theorem step_empty (h : s.pending = []) : step s = .next { s with now := s.now + 1 } := by
  unfold step; rw [h]

/-- Log 3, R195: a command is taken only while intake is open. -/
theorem exec_command_closed {i : Instr} (h : (commandCode i).isSome = true) (hclosed : intakeOpen s = false) : exec i s = .next s := by
  obtain ⟨c, hc⟩ := Option.isSome_iff_exists.1 h
  obtain ⟨judge, hexec, -⟩ := exec_judged hc
  have untaken : takes i s = false := by rw [takes, hclosed, Bool.false_and]
  exact (hexec s).trans (command_untaken untaken)

/-- Settles O1. -/
theorem stepRunsFrontOrTicks : Obligations.StepRunsFrontOrTicks := by
  unfold Obligations.StepRunsFrontOrTicks
  exact ⟨fun _ _ _ => step_front, fun _ => step_empty, fun _ _ => exec_command_closed⟩

end Sys2Proof.Machine
end

section
/-! The receiver: a byte by the receiver's state (O6), a complete and a late frame (O7), a good frame byte by byte (O5). -/

namespace Sys2Proof.Machine

-- One theorem at a time, as in the tests: a thread for each would exceed the memory allowed.
set_option Elab.async false

variable {s : State}

/-! ## A byte by the receiver's state (R191, R193) -/

theorem exec_linkByteReceived_due {b : Byte} {framing : Bool} (h : receiverRuns s = true) :
    exec (.linkByteReceived b framing) s = .next (settle (receiveByte b framing (beforeByte s))) :=
  (exec_linkByteReceived b framing s).trans (event_due h)

/-- Log 31: nothing is judged before a byte that neither follows a complete frame nor comes late. -/
theorem beforeByte_eq_self (hc : frameComplete s = false)
    (hl : s.link.receiver.inFrame = false ∨ s.now ≤ s.link.receiver.lastAt + 20000) : beforeByte s = s := by
  have timely : (s.link.receiver.inFrame && decide (s.link.receiver.lastAt + frameGap < s.now)) = false := by
    rcases hl with hl | hl
    · rw [hl, Bool.false_and]
    · rw [decide_eq_false (by simpa [frameGap, ms] using hl), Bool.and_false]
  simp [beforeByte, hc, timely]

section
variable (hr : receiverRuns s = true) (hunt : s.link.receiver.state = .hunt)
include hr hunt

/-- R191: a byte that comes in HUNT. -/
theorem exec_byte_hunt (b : Byte) (framing : Bool) :
    exec (.linkByteReceived b framing) s = .next (settle (if framing then s else huntByte b s)) := by
  have before : beforeByte s = s :=
    beforeByte_eq_self (by simp [frameComplete, hunt]) (.inl (by simp [Receiver.inFrame, hunt]))
  rw [exec_linkByteReceived_due hr, before, receiveByte]
  simp [Receiver.inFrame, hunt]

theorem exec_byte_hunted {b : Byte} {t : State} (h : huntByte b s = t) : exec (.linkByteReceived b false) s = .next (settle t) := by
  subst h; exact exec_byte_hunt hr hunt b false

end

theorem huntByte_begins (h : freeBytes s ≠ 0) :
    huntByte 0xA5 s = { s with link := { s.link with receiver := ⟨.header, [0xA5], s.now⟩ } } := if_pos ⟨rfl, h⟩

theorem huntByte_full (h : freeBytes s = 0) : huntByte 0xA5 s = linkFault .overrun s := by simp [huntByte, h]

theorem huntByte_other {b : Byte} (h : b ≠ 0xA5) : huntByte b s = s := (if_neg fun hb => h hb.1).trans (if_neg h)

section
variable (hr : receiverRuns s = true) (hf : s.link.receiver.state ≠ .hunt) (hc : frameComplete s = false)
  (hl : s.now ≤ s.link.receiver.lastAt + 20000)
include hr hf hc hl

/-- R191: a byte that comes in time inside a frame not yet complete. -/
theorem exec_byte_inTime (b : Byte) (framing : Bool) : exec (.linkByteReceived b framing) s =
    .next (settle (if framing then linkFault .framing (huntAgain s) else takeFrameByte b s)) := by
  rw [exec_linkByteReceived_due hr, beforeByte_eq_self hc (.inr hl), receiveByte]
  simp [Receiver.inFrame, hf]

theorem exec_byte_taken {b : Byte} {t : State} (h : takeFrameByte b s = t) : exec (.linkByteReceived b false) s = .next (settle t) := by
  subst h; exact exec_byte_inTime hr hf hc hl b false

end

theorem overruns_iff (b : Byte) (s : State) : overruns b s = true ↔ freeBytes s = 0 ∨
    (freeBytes s ≤ 64 ∧ 2 ≤ (s.link.receiver.bytes ++ [b]).length ∧ (s.link.receiver.bytes ++ [b]).getD 1 0 ≠ 0x10) := by
  simp only [overruns, Bool.or_eq_true, Bool.and_eq_true, decide_eq_true_iff, and_assoc]
  exact Iff.rfl

theorem takeFrameByte_overrun {b : Byte} (h : overruns b s = true) : takeFrameByte b s = linkFault .overrun (huntAgain s) := if_pos h

section
variable {b : Byte} {bs : List Byte} (hbs : s.link.receiver.bytes ++ [b] = bs) (hroom : ¬overruns b s = true)
include hbs hroom

theorem takeFrameByte_length (hn : bs.length = 4 ∧ 1024 < num2 (bs.getD 2 0) (bs.getD 3 0)) :
    takeFrameByte b s = linkFault .length (huntAgain s) := by
  subst hbs; exact (if_neg hroom).trans (if_pos hn)

theorem takeFrameByte_taken (hn : ¬(bs.length = 4 ∧ 1024 < num2 (bs.getD 2 0) (bs.getD 3 0))) :
    takeFrameByte b s = { s with link := { s.link with
      receiver := ⟨rxStateAfter bs.length (num2 (bs.getD 2 0) (bs.getD 3 0)), bs, s.now⟩ } } := by
  subst hbs; exact (if_neg hroom).trans (if_neg hn)

end

/-- Settles O6: in HUNT by the byte and the room (`exec_byte_hunt`), inside a frame by the room and then the length
(`exec_byte_inTime`). -/
theorem byteTakenByReceiverState : Obligations.ByteTakenByReceiverState := by
  unfold Obligations.ByteTakenByReceiverState
  intro b s hr bs hunting inTime overrun
  refine ⟨fun h hb hfree => ?_, fun h hb hfull => ?_, fun h hb => ?_, fun h => exec_byte_hunt hr h b true,
    fun ⟨hf, hc, hl⟩ => exec_byte_inTime hr hf hc hl b true, fun ⟨hf, hc, hl⟩ ho => ?_, fun ⟨hf, hc, hl⟩ ho hn => ?_,
    fun ⟨hf, hc, hl⟩ ho hn => ?_⟩
  · subst hb
    exact exec_byte_hunted hr h (huntByte_begins hfree)
  · subst hb
    exact exec_byte_hunted hr h (huntByte_full hfull)
  · exact exec_byte_hunted hr h (huntByte_other hb)
  · exact exec_byte_taken hr hf hc hl (takeFrameByte_overrun ((overruns_iff b s).2 ho))
  · exact exec_byte_taken hr hf hc hl (takeFrameByte_length rfl (mt (overruns_iff b s).1 ho) hn)
  · exact exec_byte_taken hr hf hc hl (takeFrameByte_taken rfl (mt (overruns_iff b s).1 ho) hn)

/-! ## A complete frame and a late one (R191, R192, R198) -/

/-- A frame's bytes with the check that came (10.2). -/
def wireBytes (kind : Byte) (payload check : List Byte) : List Byte := 0xA5 :: kind :: be2 payload.length ++ payload ++ check

theorem frame_eq (kind : Byte) (payload : List Byte) :
    frame kind payload = wireBytes kind payload (field2 (crc (kind :: be2 payload.length ++ payload))) := rfl

@[simp] theorem length_wireBytes (kind : Byte) (payload check : List Byte) :
    (wireBytes kind payload check).length = payload.length + check.length + 4 := by
  simp only [wireBytes, be2, List.length_append, List.length_cons, List.length_nil]
  omega

section
variable {kind : Byte} {payload check : List Byte} {at' : Nat} (hp : payload.length ≤ 1024)
  (hr : s.link.receiver = ⟨.check, wireBytes kind payload check, at'⟩)
include hp

/-- R191, R205: the length bytes spell the payload's length. -/
theorem num2_wireBytes : num2 ((wireBytes kind payload check).getD 2 0) ((wireBytes kind payload check).getD 3 0) = payload.length :=
  (num2_be2 payload.length).trans (Nat.mod_eq_of_lt (by omega))

include hr

theorem frameComplete_wireBytes (hc : check.length = 2) : frameComplete s = true := by
  have length : s.link.receiver.length = payload.length := by rw [hr]; exact num2_wireBytes hp
  simp only [frameComplete, length, Bool.and_eq_true, decide_eq_true_iff]
  rw [hr]
  exact ⟨rfl, by rw [length_wireBytes, hc]; omega⟩

/-- R191: the parts of a complete frame's bytes, as its judgement reads them. -/
theorem judgeFrame_wireBytes : judgeFrame s =
    if field2 (crc (kind :: be2 payload.length ++ payload)) ≠ check then linkFault .check (huntAgain s)
    else if kind ≠ kindCommand ∧ kind ≠ kindDataIn then linkFault .kind (huntAgain s)
    else validFrame ((huntAgain s).onLink (fun l => { l with
      inbound := l.inbound ++ [⟨decide (kind = kindCommand), payload, (wireBytes kind payload check).length⟩] })) := by
  have length : s.link.receiver.length = payload.length := by rw [hr]; exact num2_wireBytes hp
  have bytes : s.link.receiver.bytes = wireBytes kind payload check := by rw [hr]
  have checked : ((wireBytes kind payload check).drop 1).take (3 + payload.length) = kind :: be2 payload.length ++ payload :=
    List.take_left' (by simp [be2]; omega)
  have rest : (wireBytes kind payload check).drop (4 + payload.length) = check := List.drop_left' (by simp [be2]; omega)
  have carried : ((wireBytes kind payload check).drop 4).take payload.length = payload := List.take_left' rfl
  unfold judgeFrame
  simp only [length, bytes, checked, rest, carried]
  rfl

/-- R191: a complete frame is judged at once. -/
theorem exec_frameReceived_judged (hruns : receiverRuns s = true) (hc : check.length = 2) {t : State} (ht : judgeFrame s = t) :
    exec .frameReceived s = .next (settle t) := by
  subst ht
  exact (exec_frameReceived s).trans (event_due (by rw [hruns, frameComplete_wireBytes hp hr hc]; rfl))

/-- R191, R149, R160: a good frame of the host's is kept, and restarts the silence count and the doze count. -/
theorem exec_frameReceived_good (hruns : receiverRuns s = true) (hc : check.length = 2)
    (hgood : check = field2 (crc (kind :: be2 payload.length ++ payload))) (hkind : kind = kindCommand ∨ kind = kindDataIn) :
    exec .frameReceived s = .next (settle { s with
      link := { s.link with receiver := .hunt
                            inbound := s.link.inbound ++ [⟨decide (kind = kindCommand), payload, payload.length + 6⟩] }
      silence := { s.silence with since := none, firstStage := false }
      power := { s.power with dozeFrom := none } }) := by
  have known : ¬(kind ≠ kindCommand ∧ kind ≠ kindDataIn) := fun ⟨hnc, hnd⟩ => hkind.elim hnc hnd
  refine exec_frameReceived_judged hp hr hruns hc ?_
  rw [judgeFrame_wireBytes hp hr, if_neg (not_not.2 hgood.symm), if_neg known, length_wireBytes, hc]
  rfl

end

/-- R192: a frame in reception that is not complete and has waited too long. -/
theorem gapTimeoutDue_of (hr : receiverRuns s = true) (hf : s.link.receiver.state ≠ .hunt) (hc : frameComplete s = false)
    (hl : s.link.receiver.lastAt + 20000 < s.now) : gapTimeoutDue s = true := by
  simp [gapTimeoutDue, hr, Receiver.inFrame, hf, hc, passed, frameGap, ms, hl.le]

/-- Settles O7: the complete frame's parts stand where the judgement reads them (`judgeFrame_wireBytes`). -/
theorem frameIsJudgedOrLate : Obligations.FrameIsJudgedOrLate := by
  unfold Obligations.FrameIsJudgedOrLate
  refine ⟨fun kind payload check at' s hr hp hlen hrx => ⟨fun hbad => ?_, fun hgood hnc hnd => ?_,
    exec_frameReceived_good hp hrx hr hlen⟩, fun s hr hf hc hl => ?_⟩
  · exact exec_frameReceived_judged hp hrx hr hlen ((judgeFrame_wireBytes hp hrx).trans (if_pos (Ne.symm hbad)))
  · exact exec_frameReceived_judged hp hrx hr hlen
      ((judgeFrame_wireBytes hp hrx).trans ((if_neg (not_not.2 hgood.symm)).trans (if_pos ⟨hnc, hnd⟩)))
  · exact (exec_frameGapTimeout s).trans (event_due (gapTimeoutDue_of hr hf hc hl))

end Sys2Proof.Machine
end

section
/-! A good frame received byte by byte (O5). -/

namespace Sys2Proof.Machine

-- One theorem at a time, as in the tests: a thread for each would exceed the memory allowed.
set_option Elab.async false

variable {s : State}

/-! ## The end of a step that took a byte -/

theorem countFrom_countFrom (runs : Bool) (since : Option Nat) (now : Nat) :
    countFrom runs (countFrom runs since now) now = countFrom runs since now := by
  cases runs <;> rfl

/-- R191: the receiver is no part of what the end of a step sets but HOLD, so the step after it sets all that anew. -/
theorem settle_receiver (r : Receiver) (s : State) :
    settle { settle s with link := { (settle s).link with receiver := r } } = settle { s with link := { s.link with receiver := r } } := by
  have idle := countFrom_countFrom (idleRuns s) s.power.idleFrom s.now
  have doze := countFrom_countFrom (dozeRuns s) s.power.dozeFrom s.now
  have silence := countFrom_countFrom (silenceRuns s) s.silence.since s.now
  have stage : (silenceRuns s && (silenceRuns s && s.silence.firstStage)) = (silenceRuns s && s.silence.firstStage) := by
    rw [← Bool.and_assoc, Bool.and_self]
  let t : State := { s with link := { s.link with receiver := r } }
  calc settle { settle s with link := { (settle s).link with receiver := r } }
      = { settle t with
          power := { s.power with
            idleFrom := countFrom (idleRuns s) (countFrom (idleRuns s) s.power.idleFrom s.now) s.now
            dozeFrom := countFrom (dozeRuns s) (countFrom (dozeRuns s) s.power.dozeFrom s.now) s.now }
          silence := { s.silence with
            since := countFrom (silenceRuns s) (countFrom (silenceRuns s) s.silence.since s.now) s.now
            firstStage := silenceRuns s && (silenceRuns s && s.silence.firstStage) } } := rfl
    _ = settle t := by rw [idle, doze, silence, stage]; rfl

/-! ## Part of a frame in reception (R191, R193) -/

/-- The part with the bytes `bs` of a frame of `n` payload bytes in reception, the last of them now. -/
def inReception (n : Nat) (bs : List Byte) (s : State) : State :=
  { s with link := { s.link with receiver := ⟨rxStateAfter bs.length n, bs, s.now⟩ } }

theorem rxStateAfter_ne_hunt (k n : Nat) : rxStateAfter k n ≠ .hunt := by
  unfold rxStateAfter
  split_ifs <;> decide

theorem rxStateAfter_check_iff (k n : Nat) : rxStateAfter k n = .check ↔ 4 + n ≤ k := by
  unfold rxStateAfter
  split_ifs <;> simp <;> omega

theorem freeBytes_inReception (hunt : s.link.receiver = .hunt) (n : Nat) (bs : List Byte) :
    freeBytes (inReception n bs s) = freeBytes s - bs.length := by
  simp only [freeBytes, inboundUsed, inReception, hunt, Receiver.hunt, List.length_nil]
  omega

section
variable {kind : Byte} {payload check bs rest : List Byte} (hp : payload.length ≤ 1024) (hw : wireBytes kind payload check = bs ++ rest)
include hw

theorem getD_ofWire {i : Nat} (h : i < bs.length) : bs.getD i 0 = (wireBytes kind payload check).getD i 0 := by
  rw [hw, List.getD_append _ _ _ _ h]

/-- Bytes that do not end a frame are fewer than the frame has. -/
theorem length_ofWire_lt (hc : check.length = 2) (hrest : rest ≠ []) : bs.length < payload.length + 6 := by
  have total := congrArg List.length hw
  rw [length_wireBytes, hc, List.length_append] at total
  have := List.length_pos_iff.2 hrest
  omega

include hp

theorem num2_ofWire (h : 4 ≤ bs.length) : num2 (bs.getD 2 0) (bs.getD 3 0) = payload.length := by
  rw [getD_ofWire hw (by omega), getD_ofWire hw (by omega), num2_wireBytes hp]

/-- R191: the length is not read before it has come. -/
theorem rxStateAfter_ofWire : rxStateAfter bs.length (num2 (bs.getD 2 0) (bs.getD 3 0)) = rxStateAfter bs.length payload.length := by
  by_cases h : bs.length < 4
  · simp only [rxStateAfter, if_pos h]
  · rw [num2_ofWire hp hw (by omega)]

/-- R191: a frame is not complete before its last byte. -/
theorem frameComplete_inReception (hc : check.length = 2) (hrest : rest ≠ []) :
    frameComplete (inReception payload.length bs s) = false := by
  have shorter := length_ofWire_lt hw hc hrest
  rw [frameComplete, Bool.and_eq_false_iff, decide_eq_false_iff_not, decide_eq_false_iff_not, ← not_and_or]
  rintro ⟨hstate, hlength⟩
  have arrived : 4 + payload.length ≤ bs.length := (rxStateAfter_check_iff _ _).1 hstate
  have length : (inReception payload.length bs s).link.receiver.length = payload.length := num2_ofWire hp hw (by omega)
  have whole : bs.length = 6 + payload.length := by rw [← length]; exact hlength
  omega

end

/-! ## Byte by byte (R191, R193) -/

/-- R193: room for the whole frame, with the reserve where it is no COMMAND. -/
def RoomFor (kind : Byte) (payload : List Byte) (s : State) : Prop :=
  payload.length + 6 + (if kind = kindCommand then 0 else 64) ≤ freeBytes s

section
variable {kind b : Byte} {payload check bs rest : List Byte} (hp : payload.length ≤ 1024) (hc : check.length = 2)
  (hr : receiverRuns s = true) (hunt : s.link.receiver = .hunt) (hroom : RoomFor kind payload s)
  (hbs : bs ≠ []) (hw : wireBytes kind payload check = bs ++ b :: rest)

include hc hunt hroom hbs hw in
theorem not_overruns_inReception : ¬overruns b (settle (inReception payload.length bs s)) = true := by
  have first : 1 ≤ bs.length := List.length_pos_iff.2 hbs
  have shorter := length_ofWire_lt hw hc (List.cons_ne_nil b rest)
  have second : (bs ++ [b]).getD 1 0 = kind :=
    getD_ofWire (rest := rest) (hw.trans (List.append_cons bs b rest)) (by rw [List.length_append, List.length_singleton]; omega)
  have free : freeBytes (settle (inReception payload.length bs s)) = freeBytes s - bs.length := freeBytes_inReception hunt _ _
  have enough : payload.length + 6 + (if kind = kindCommand then 0 else 64) ≤ freeBytes s := hroom
  rw [overruns_iff, free]
  rintro (hfull | ⟨hreserve, -, hkind⟩)
  · split at enough <;> omega
  · rw [if_neg fun hk : kind = kindCommand => hkind (second.trans hk)] at enough
    omega

include hp hc hr hunt hroom hbs hw

/-- R191: each byte of the frame after the first is taken. -/
theorem exec_byte_inReception : exec (.linkByteReceived b false) (settle (inReception payload.length bs s)) =
    .next (settle (inReception payload.length (bs ++ [b]) s)) := by
  have hw' : wireBytes kind payload check = (bs ++ [b]) ++ rest := hw.trans (List.append_cons bs b rest)
  have room := not_overruns_inReception hc hunt hroom hbs hw
  have short : ¬((bs ++ [b]).length = 4 ∧ 1024 < num2 ((bs ++ [b]).getD 2 0) ((bs ++ [b]).getD 3 0)) := fun ⟨hfour, hlong⟩ => by
    rw [num2_ofWire hp hw' hfour.ge] at hlong
    omega
  have taken := takeFrameByte_taken (s := settle (inReception payload.length bs s)) (bs := bs ++ [b]) rfl room short
  rw [rxStateAfter_ofWire hp hw'] at taken
  rw [exec_byte_taken (s := settle (inReception payload.length bs s)) hr (rxStateAfter_ne_hunt _ _)
    (frameComplete_inReception hp hw hc (List.cons_ne_nil b rest)) (Nat.le_add_right _ _) taken]
  exact congrArg Host.Outcome.next (settle_receiver _ (inReception payload.length bs s))

end

section
variable {kind : Byte} {payload check : List Byte} (hp : payload.length ≤ 1024) (hc : check.length = 2)
  (hr : receiverRuns s = true) (hunt : s.link.receiver = .hunt) (hroom : RoomFor kind payload s)
include hp hc hr hunt hroom

theorem receiveAll_inReception (rest bs : List Byte) (hbs : bs ≠ []) (hw : wireBytes kind payload check = bs ++ rest) :
    receiveAll rest (settle (inReception payload.length bs s)) =
      .next (settle (inReception payload.length (wireBytes kind payload check) s)) := by
  induction rest generalizing bs with
  | nil => rw [hw, List.append_nil]; rfl
  | cons b rest ih =>
    rw [receiveAll, exec_byte_inReception hp hc hr hunt hroom hbs hw]
    exact ih (bs ++ [b]) (by simp) (hw.trans (List.append_cons bs b rest))

/-- R191: a whole frame that finds room stands in the receiver, complete. -/
theorem receiveAll_wireBytes : receiveAll (wireBytes kind payload check) s =
    .next (settle (inReception payload.length (wireBytes kind payload check) s)) := by
  have free : freeBytes s ≠ 0 := by
    have enough : payload.length + 6 + (if kind = kindCommand then 0 else 64) ≤ freeBytes s := hroom
    omega
  have began := exec_byte_hunted hr (congrArg Receiver.state hunt) (huntByte_begins free)
  rw [wireBytes, List.cons_append, List.cons_append, receiveAll, began]
  exact receiveAll_inReception hp hc hr hunt hroom _ [0xA5] (List.cons_ne_nil _ _) rfl

end

/-- Settles O5: the bytes find room one after another (`receiveAll_wireBytes`), and the complete frame is judged by its parts
(`judgeFrame_wireBytes`). -/
theorem frameReceivedByteByByte : Obligations.FrameReceivedByteByByte := by
  unfold Obligations.FrameReceivedByteByByte
  intro kind payload s hkind hp hr hunt hroom
  have hc : (field2 (crc (kind :: be2 payload.length ++ payload))).length = 2 := rfl
  have whole : rxStateAfter (frame kind payload).length payload.length = .check := by
    rw [rxStateAfter_check_iff, frame_eq, length_wireBytes, hc]
    omega
  have stands : (settle (inReception payload.length (frame kind payload) s)).link.receiver = ⟨.check, frame kind payload, s.now⟩ :=
    congrArg (fun st => Receiver.mk st (frame kind payload) s.now) whole
  refine ⟨_, _, receiveAll_wireBytes hp hc hr hunt hroom, exec_frameReceived_good hp stands hr hc rfl hkind, ?_⟩
  simp [settle, inReception]

end Sys2Proof.Machine
end

section
/-! DATA-IN frames routed (O8); the records collected and the masks (O14). -/

namespace Sys2Proof.Machine

-- One theorem at a time, as in the tests: a thread for each would exceed the memory allowed.
set_option Elab.async false

variable {s : State}

/-! ## Routing (R194) -/

/-- R194: a COMMAND frame at the front of the buffer holds what is behind it. -/
theorem exec_dataInRouting_waits {f : InFrame} {rest : List InFrame} (hin : s.link.inbound = f :: rest) (hf : f.command = true) :
    exec .dataInRouting s = .next s := by
  have behind : routable s = none := by simp [routable, hin, hf]
  exact (exec_dataInRouting s).trans (event_idle (by rw [behind, Option.isSome_none, Bool.and_false]))

section
variable {f : InFrame} {rest : List InFrame} (hr : receiverRuns s = true) (hin : s.link.inbound = f :: rest) (hf : f.command = false)
include hr hin hf

/-- R194: the DATA-IN frame at the front of the buffer leaves it and is judged. -/
theorem exec_dataInRouting_routes {t : State} (ht : routeFrame f { s with link := { s.link with inbound := rest } } = t) :
    exec .dataInRouting s = .next (settle t) := by
  subst ht
  have front : routable s = some f := by simp [routable, hin, hf]
  rw [exec_dataInRouting, event_due (by rw [hr, front]; rfl)]
  simp only [front, State.onLink, hin, List.tail_cons]

end

theorem routeFrame_noReceiver {f : InFrame} (h : receiveJob s = none) : routeFrame f s = linkFault .noReceiver s := by
  unfold routeFrame; rw [h]

section
variable {f : InFrame} {k : Nat} {j : Job} (hj : receiveJob s = some (k, j))
include hj

theorem routeFrame_stopped (h : j.state ≠ .running) :
    routeFrame f s = onJob k (fun x => { x with discardedFrames := min 65535 (x.discardedFrames + 1) }) s := by
  unfold routeFrame; rw [hj]; exact if_neg h

/-- R194: a payload of length 0 is released at once. -/
theorem routeFrame_empty (h : j.state = .running) (hp : f.payload = []) : routeFrame f s = s := by
  unfold routeFrame; rw [hj]; exact (if_pos h).trans (if_pos hp)

theorem routeFrame_queued {c : LinkIn} (h : j.state = .running) (hp : f.payload ≠ []) (hc : s.store.linkIn = some c) : routeFrame f s =
    { s with store := { s.store with linkIn := some { c with queue := c.queue ++ [⟨f.payload, f.size⟩] } } } := by
  have queued : enqueueFrame f s = s.onStore _ := if_neg hp
  unfold routeFrame; rw [hj]
  exact (if_pos h).trans (queued.trans (by rw [State.onStore, hc]; rfl))

end

/-- Settles O8: the frame leaves the buffer (`exec_dataInRouting_routes`), which the job that holds LINK-IN is no part of. -/
theorem dataInIsRouted : Obligations.DataInIsRouted := by
  unfold Obligations.DataInIsRouted
  intro f rest s hr hin
  refine ⟨exec_dataInRouting_waits hin, fun hf hj => ?_, fun k j hf hj hst => ?_, fun k j hf hj hst hp => ?_,
    fun k j c hf hj hst hp hc => ?_⟩
  · exact exec_dataInRouting_routes hr hin hf (routeFrame_noReceiver hj)
  · exact exec_dataInRouting_routes hr hin hf (routeFrame_stopped hj hst)
  · exact exec_dataInRouting_routes hr hin hf (routeFrame_empty hj hst hp)
  · exact exec_dataInRouting_routes hr hin hf (routeFrame_queued (s := { s with link := { s.link with inbound := rest } }) hj hst hp hc)

/-! ## GET-EVENTS and EVENT-MASK (R201, R202) -/

/-- R201: a clear takes the records of the sources it names and no other. -/
theorem pending_clear (ns : List Nat) (e : Events) (n : Nat) (h : n < e.pending.length) :
    (e.clear ns).pending[n]? = if n ∈ ns then some none else e.pending[n]? := by
  simp only [Events.clear, List.getElem?_map, List.getElem?_zipIdx, List.getElem?_eq_getElem h, Option.map_some, Nat.zero_add,
    List.contains_iff_mem]
  split <;> rfl

theorem length_clear (ns : List Nat) (e : Events) : (e.clear ns).pending.length = e.pending.length := by
  simp [Events.clear]

theorem collect_eq (all : Bool) (s : State) : collect all s =
    (s.onEvents (Events.clear ((eligible s.events all).take 8)),
     be1 (min 8 (eligible s.events all).length) ++ ((eligible s.events all).take 8).flatMap (recordBytes s.events) ++
      be1 ((eligible s.events all).length - 8)) := by
  have left : (eligible s.events all).length - min 8 (eligible s.events all).length = (eligible s.events all).length - 8 := by omega
  simp only [collect, List.length_take, left]

/-- R201: what each of the two flags comes to. -/
theorem exec_getEvents_taken {flag : Byte} (ht : takes (.getEvents flag) s = true) (h : flag = 0 ∨ flag = 1) :
    exec (.getEvents flag) s = .next (settle (placeReply 0x02 .done
      (be1 (min 8 (eligible s.events (flag == 1)).length) ++
        ((eligible s.events (flag == 1)).take 8).flatMap (recordBytes s.events) ++
        be1 ((eligible s.events (flag == 1)).length - 8))
      ((releaseCommand s).onEvents (Events.clear ((eligible s.events (flag == 1)).take 8))))) := by
  rw [exec_getEvents]
  rcases h with rfl | rfl
  · exact command_done ht rfl (congrArg Except.ok (collect_eq false (releaseCommand s)))
  · exact command_done ht rfl (congrArg Except.ok (collect_eq true (releaseCommand s)))

/-- R202: the masks are no part of what is pending. -/
theorem pendingSet_masked (e : Events) (masked : List Bool) : pendingSet { e with masked := masked } = pendingSet e := rfl

theorem exec_eventMask_taken {masks : BitVec 16} (ht : takes (.eventMask masks) s = true) :
    exec (.eventMask masks) s = replied 0x03 (be2 masks.toNat ++ be2 (pendingSet s.events))
      { releaseCommand s with events := { s.events with masked := (List.range 16).map masks.getLsbD } } := by
  rw [exec_eventMask, ← pendingSet_masked s.events ((List.range 16).map masks.getLsbD)]
  exact command_replied ht rfl rfl

/-- Settles O14: the frame's release leaves the records, of which a clear takes those reported (`pending_clear`). -/
theorem eventsCollectedAndMasked : Obligations.EventsCollectedAndMasked := by
  unfold Obligations.EventsCollectedAndMasked
  refine ⟨fun flag s ht hflag => ⟨_, exec_getEvents_taken ht hflag, ?_⟩, fun flag s ht h0 h1 => ?_,
    fun _ _ => exec_eventMask_taken⟩
  · refine ⟨rfl, rfl, length_clear _ s.events, pending_clear _ s.events, ?_⟩
    simp [settle, placeReply, beginSending, releaseCommand]
  · exact (exec_getEvents flag s).trans (command_refused ht rfl ((if_neg h0).trans (if_neg h1)))

end Sys2Proof.Machine
end

section
/-! The lengths of the fixed reports (O11): a number has its width whatever its value, and a report is numbers in a row. -/

namespace Sys2Proof.Machine

-- One theorem at a time, as in the tests: a thread for each would exceed the memory allowed.
set_option Elab.async false

/-! ## The widths of the numbers (R205) -/

@[simp] theorem length_be1 (n : Nat) : (be1 n).length = 1 := rfl
@[simp] theorem length_be2 (n : Nat) : (be2 n).length = 2 := rfl
@[simp] theorem length_be4 (n : Nat) : (be4 n).length = 4 := rfl
@[simp] theorem length_flag1 (b : Bool) : (flag1 b).length = 1 := rfl

/-! ## The groups within reports -/

/-- R208: the store group of the boot report. -/
theorem length_countBytes (c : RebuildCounts) : (countBytes c).length = 13 := by
  unfold countBytes; simp only [List.length_append, length_be1, length_be2]

theorem length_feedBytes (s : State) (m : Motor) : (feedBytes s m).length = 9 := by
  unfold feedBytes; simp only [List.length_append, length_be1, length_be4, length_flag1]

/-- R198, R203: eight link fault totals, two bytes each. -/
theorem length_totalBytes (t : LinkTotals) : (t.list.flatMap be2).length = 16 := length_flatMap_be2 t.list

/-- R207: the ten 0 bytes behind those a source uses are enough to fill the record, however few these are. -/
theorem length_detailBytes (d : Detail) : d.bytes.length = 10 := by
  have enough : 10 ≤ (d.used ++ List.replicate 10 0).length := by rw [List.length_append, List.length_replicate]; omega
  exact List.length_take_of_le enough

/-! ## The reports (R208) -/

/-- R203: PING's answer is the bytes it was sent and 20 of the machine's. -/
theorem length_pingData (bytes : List Byte) (s : State) : (pingData bytes s).length = bytes.length + 20 := by
  unfold pingData; simp only [List.length_append, length_totalBytes, length_be1, length_be2]

theorem length_settingBytes (g : Settings) (place : Nat) : (settingBytes g place).length = 11 := by
  unfold settingBytes; simp only [List.length_append, length_be1, length_be2, length_flag1]

section
variable (s : State)

theorem length_docInfoBytes (n : Nat) : (docInfoBytes s n).length = 14 := by
  unfold docInfoBytes; simp only [List.length_append, length_be1, length_be2, length_be4, length_flag1]

theorem length_docEntryBytes (n : Nat) : (docEntryBytes s n).length = 5 := by
  unfold docEntryBytes; simp only [List.length_append, length_be1, length_flag1]

theorem length_pageInfoBytes (slot : Nat) : (pageInfoBytes s slot).length = 23 := by
  unfold pageInfoBytes; simp only [List.length_append, length_be1, length_be2, length_flag1]

theorem length_storeStatusBytes : (storeStatusBytes s).length = 23 := by
  unfold storeStatusBytes; simp only [List.length_append, length_be1, length_be2, length_flag1]

theorem length_jobStatusBytes (j : Job) (k : Nat) : (jobStatusBytes s j k).length = 40 := by
  unfold jobStatusBytes; simp only [List.length_append, length_be1, length_be2]

/-- R208: nine bytes of its own and those of the two feeds. -/
theorem length_sensorBytes : (sensorBytes s).length = 27 := by
  unfold sensorBytes; simp only [List.length_append, length_feedBytes, length_be1, length_flag1]

/-- R208: 23 bytes of its own and the store group. -/
theorem length_bootReportBytes : (bootReportBytes s).length = 36 := by
  unfold bootReportBytes; simp only [List.length_append, length_countBytes, length_be1, length_be2, length_flag1]

theorem length_modeData : (modeData s).length = 3 := by
  unfold modeData; simp only [List.length_append, length_be1, length_be2]

end

/-- Settles O11: each report by its layout; PING's answer has the four bytes it was sent (`length_pingData`). -/
theorem reportLengths : Obligations.ReportLengths := by
  unfold Obligations.ReportLengths
  intro s n place k j m d b0 b1 b2 b3
  exact ⟨length_pingData [b0, b1, b2, b3] s, length_docInfoBytes s n, length_docEntryBytes s n, length_pageInfoBytes s n,
    length_storeStatusBytes s, length_jobStatusBytes s j k, length_feedBytes s m, length_sensorBytes s,
    length_settingBytes s.settings place, length_bootReportBytes s, length_detailBytes d, length_modeData s⟩

end Sys2Proof.Machine
end
